-- ==== Sys2Proof/Word.lean ====
section
/-! DEFINITION. The words of the machine: instruction words, bytes, register fields and the relative operand. -/

namespace Sys2Proof

/-- An instruction word (03 R59). -/
abbrev Word := BitVec 32

/-- The smallest addressable unit of every memory (00 R2). -/
abbrev Byte := BitVec 8

/-- A 64-bit value: a scalar register, a workspace word (02 R31). -/
abbrev DWord := BitVec 64

/-- A register field of a base word: g0 to g63 (03 R64). -/
abbrev Reg := BitVec 6

/-- A vector register v0 to v15 (03 R69). -/
abbrev VReg := BitVec 4

/-- A mask register m0 to m7 (03 R69). -/
abbrev MReg := BitVec 3

/-- A scalar operand field of an extended instruction with its REL flag: with the flag clear it names g n,
with the flag set it names workspace word s.ix + n, n read as two's complement (03 R69, R70). -/
structure GOp where
  rel : Bool
  n   : BitVec 6
  deriving DecidableEq, Repr

end Sys2Proof
end

