-- ==== Sys2Proof/Machine/Types.lean ====
section
/-! DEFINITION. The number types of the T1 and T2 fields (03 R72) and the sets of them that the families accept,
the function codes of INTX (03 R77, R81) and the numbers of the special registers (02 R36). -/

namespace Sys2Proof

/-- i8 to i64 and n8 to n64: codes 0 to 7 (03 R72). -/
def Ty.isInt (t : BitVec 4) : Bool := decide (t.toNat < 8)
/-- A floating-point code: 8 to 15. -/
def Ty.isFp (t : BitVec 4) : Bool := decide (8 ≤ t.toNat)
/-- f16, bf16, f32, f64. -/
def Ty.isFp16to64 (t : BitVec 4) : Bool := decide (8 ≤ t.toNat) && decide (t.toNat ≤ 11)
/-- e4m3, e5m2, e3m2, e2m3. -/
def Ty.isNarrowFp (t : BitVec 4) : Bool := decide (12 ≤ t.toNat)
/-- The lane types of VALU and the integer compares: no suffix, i32, n32 (07 R156, R161, R164). -/
def Ty.isLane32 (t : BitVec 4) : Bool := t == 0 || t == 2 || t == 6
/-- The source types of vpack (07 R167). -/
def Ty.isPackWide (t : BitVec 4) : Bool := t == 0 || t == 2 || t == 6 || t == 10
/-- The packed types of vpack and vunpack (07 R167, R168). -/
def Ty.isPackNarrow (t : BitVec 4) : Bool :=
  t == 0 || t == 1 || t == 4 || t == 5 || t == 8 || t == 9 || t == 12 || t == 13 || t == 14 || t == 15
/-- The types of vredaddi (07 R169). -/
def Ty.isRedInt (t : BitVec 4) : Bool := t == 0 || t == 2 || t == 3 || t == 6 || t == 7
/-- The types of VPERM and VLOCAL, which give an element width only (07 R170). -/
def Ty.isElem (t : BitVec 4) : Bool :=
  t == 0 || t == 2 || t == 6 || t == 10 || t == 3 || t == 7 || t == 11
/-- A 64-bit type: i64, n64, f64 (03 R72). -/
def Ty.is64 (t : BitVec 4) : Bool := t == 3 || t == 7 || t == 11
/-- The number n of element positions that a register holds (07 R155): 16 for 64-bit types, else 32. -/
def Ty.elems (t : BitVec 4) : Nat := if Ty.is64 t then 16 else 32
/-- The types of the ordered operations (13 R316). -/
def Ty.isOrd (t : BitVec 4) : Bool := t == 2 || t == 3 || t == 6 || t == 7 || t == 10 || t == 11

/-- An INTX function code: bit 6 clear, an INT function; bit 6 set, a MULDIV function (03 R77, R81). -/
def IntFn.valid (fn : BitVec 7) : Bool :=
  if fn.getLsbD 6 then decide ((fn.setWidth 6).toNat ≤ 11) else decide ((fn.setWidth 6).toNat ≤ 31)
/-- A unary INT function: 20 to 29 (03 R77). -/
def IntFn.unary (fn : BitVec 7) : Bool := decide (20 ≤ fn.toNat) && decide (fn.toNat ≤ 29)

/-- The special registers that exist (02 R36). -/
def Special.assigned (n : BitVec 12) : Bool :=
  decide (n.toNat ≤ 0x00E) || n == 0x010 || n == 0x011 || n == 0x020
  || (decide (0x030 ≤ n.toNat) && decide (n.toNat ≤ 0x034))
  || n == 0x040 || n == 0x041 || n == 0x042 || n == 0x050 || n == 0x051
/-- The special registers that some mode may write: those not R in every mode (02 R36, R37). -/
def Special.writable (n : BitVec 12) : Bool :=
  (decide (n.toNat ≤ 0x00E) && !(n == 0x004)) || n == 0x010 || n == 0x020 || n == 0x033

end Sys2Proof
end

