-- ==== Sys2Proof/Syntax.lean ====
section
/-! DEFINITION. The instructions and events of the Calram 9400: one constructor for each row of the
table of operations and events (spec/opcode_table.json). Instructions carry the operand fields of their
encodings (03 R63 to R82); events have no encoding and carry the names of what they concern. -/

namespace Sys2Proof

/-- One constructor per row of the table of operations and events.  The first part is the instruction set
(03, 05 to 16); from doubleTrapHandling on, the steps that the module takes by itself (95). -/
inductive Instr where
  /-- R120. Writes the 64-bit sum of two g registers. -/
  | add (d a b : Reg)
  /-- R120. Writes the 64-bit difference of two g registers. -/
  | sub (d a b : Reg)
  /-- R120. Writes the sign-extended 32-bit sum. -/
  | addW (d a b : Reg)
  /-- R120. Writes the sign-extended 32-bit difference. -/
  | subW (d a b : Reg)
  /-- R120. Writes the bitwise and. -/
  | and (d a b : Reg)
  /-- R120. Writes the bitwise or. -/
  | or (d a b : Reg)
  /-- R120. Writes the bitwise exclusive or. -/
  | xor (d a b : Reg)
  /-- R120. Writes a and not b. -/
  | andn (d a b : Reg)
  /-- R120. Shifts left by b[5:0]. -/
  | shl (d a b : Reg)
  /-- R120. Shifts right logically by b[5:0]. -/
  | shr (d a b : Reg)
  /-- R120. Shifts right arithmetically by b[5:0]. -/
  | sar (d a b : Reg)
  /-- R120. Shifts the low word left, sign-extended. -/
  | shlW (d a b : Reg)
  /-- R120. Shifts the low word right logically, sign-extended. -/
  | shrW (d a b : Reg)
  /-- R120. Shifts the low word right arithmetically. -/
  | sarW (d a b : Reg)
  /-- R120. Writes 1 when a < b signed. -/
  | slt (d a b : Reg)
  /-- R120. Writes 1 when a < b unsigned. -/
  | sltn (d a b : Reg)
  /-- R120. Writes the signed minimum. -/
  | min (d a b : Reg)
  /-- R120. Writes the signed maximum. -/
  | max (d a b : Reg)
  /-- R120. Writes the unsigned minimum. -/
  | minn (d a b : Reg)
  /-- R120. Writes the unsigned maximum. -/
  | maxn (d a b : Reg)
  /-- R120. Counts leading zeros. -/
  | clz (d a : Reg)
  /-- R120. Counts trailing zeros. -/
  | ctz (d a : Reg)
  /-- R120. Counts one bits. -/
  | popc (d a : Reg)
  /-- R120. Reverses the 64 bits. -/
  | rev (d a : Reg)
  /-- R120. Sign-extends the low byte. -/
  | sextB (d a : Reg)
  /-- R120. Sign-extends the low half. -/
  | sextH (d a : Reg)
  /-- R120. Sign-extends the low word. -/
  | sextW (d a : Reg)
  /-- R120. Zero-extends the low byte. -/
  | zextB (d a : Reg)
  /-- R120. Zero-extends the low half. -/
  | zextH (d a : Reg)
  /-- R120. Zero-extends the low word. -/
  | zextW (d a : Reg)
  /-- R120. Rotates left by b[5:0]. -/
  | rol (d a b : Reg)
  /-- R120. Rotates right by b[5:0]. -/
  | ror (d a b : Reg)
  /-- R118. add with a 64-bit literal in place of gB. -/
  | addLit (d a : Reg) (lit : BitVec 64)
  /-- R118. sub with a literal operand. -/
  | subLit (d a : Reg) (lit : BitVec 64)
  /-- R118. add.w with a literal operand. -/
  | addWLit (d a : Reg) (lit : BitVec 64)
  /-- R118. sub.w with a literal operand. -/
  | subWLit (d a : Reg) (lit : BitVec 64)
  /-- R118. and with a literal operand. -/
  | andLit (d a : Reg) (lit : BitVec 64)
  /-- R118. or with a literal operand. -/
  | orLit (d a : Reg) (lit : BitVec 64)
  /-- R118. xor with a literal operand. -/
  | xorLit (d a : Reg) (lit : BitVec 64)
  /-- R118. andn with a literal operand. -/
  | andnLit (d a : Reg) (lit : BitVec 64)
  /-- R118. shl with a literal operand. -/
  | shlLit (d a : Reg) (lit : BitVec 64)
  /-- R118. shr with a literal operand. -/
  | shrLit (d a : Reg) (lit : BitVec 64)
  /-- R118. sar with a literal operand. -/
  | sarLit (d a : Reg) (lit : BitVec 64)
  /-- R118. shl.w with a literal operand. -/
  | shlWLit (d a : Reg) (lit : BitVec 64)
  /-- R118. shr.w with a literal operand. -/
  | shrWLit (d a : Reg) (lit : BitVec 64)
  /-- R118. sar.w with a literal operand. -/
  | sarWLit (d a : Reg) (lit : BitVec 64)
  /-- R118. slt with a literal operand. -/
  | sltLit (d a : Reg) (lit : BitVec 64)
  /-- R118. sltn with a literal operand. -/
  | sltnLit (d a : Reg) (lit : BitVec 64)
  /-- R118. min with a literal operand. -/
  | minLit (d a : Reg) (lit : BitVec 64)
  /-- R118. max with a literal operand. -/
  | maxLit (d a : Reg) (lit : BitVec 64)
  /-- R118. minn with a literal operand. -/
  | minnLit (d a : Reg) (lit : BitVec 64)
  /-- R118. maxn with a literal operand. -/
  | maxnLit (d a : Reg) (lit : BitVec 64)
  /-- R118. rol with a literal operand. -/
  | rolLit (d a : Reg) (lit : BitVec 64)
  /-- R118. ror with a literal operand. -/
  | rorLit (d a : Reg) (lit : BitVec 64)
  /-- R121. Writes the low 64 bits of the product. -/
  | mul (d a b : Reg)
  /-- R121. Writes the high 64 bits of the signed product. -/
  | mulh (d a b : Reg)
  /-- R121. Writes the high 64 bits of the unsigned product. -/
  | mulhn (d a b : Reg)
  /-- R121. Writes the sign-extended 32-bit product. -/
  | mulW (d a b : Reg)
  /-- R121. Signed 64-bit division, never trapping. -/
  | div (d a b : Reg)
  /-- R121. Unsigned 64-bit division. -/
  | divn (d a b : Reg)
  /-- R121. Signed 64-bit remainder. -/
  | rem (d a b : Reg)
  /-- R121. Unsigned 64-bit remainder. -/
  | remn (d a b : Reg)
  /-- R121. Signed 32-bit division. -/
  | divW (d a b : Reg)
  /-- R121. Unsigned 32-bit division. -/
  | divnW (d a b : Reg)
  /-- R121. Signed 32-bit remainder. -/
  | remW (d a b : Reg)
  /-- R121. Unsigned 32-bit remainder. -/
  | remnW (d a b : Reg)
  /-- R121. mul with a literal operand. -/
  | mulLit (d a : Reg) (lit : BitVec 64)
  /-- R121. mulh with a literal operand. -/
  | mulhLit (d a : Reg) (lit : BitVec 64)
  /-- R121. mulhn with a literal operand. -/
  | mulhnLit (d a : Reg) (lit : BitVec 64)
  /-- R121. mul.w with a literal operand. -/
  | mulWLit (d a : Reg) (lit : BitVec 64)
  /-- R121. div with a literal operand. -/
  | divLit (d a : Reg) (lit : BitVec 64)
  /-- R121. divn with a literal operand. -/
  | divnLit (d a : Reg) (lit : BitVec 64)
  /-- R121. rem with a literal operand. -/
  | remLit (d a : Reg) (lit : BitVec 64)
  /-- R121. remn with a literal operand. -/
  | remnLit (d a : Reg) (lit : BitVec 64)
  /-- R121. div.w with a literal operand. -/
  | divWLit (d a : Reg) (lit : BitVec 64)
  /-- R121. divn.w with a literal operand. -/
  | divnWLit (d a : Reg) (lit : BitVec 64)
  /-- R121. rem.w with a literal operand. -/
  | remWLit (d a : Reg) (lit : BitVec 64)
  /-- R121. remn.w with a literal operand. -/
  | remnWLit (d a : Reg) (lit : BitVec 64)
  /-- R122. Adds a sign-extended immediate. -/
  | addi (d a : Reg) (imm : BitVec 12)
  /-- R122. Adds an immediate, 32-bit sign-extended result. -/
  | addiW (d a : Reg) (imm : BitVec 12)
  /-- R122. Ands with an immediate. -/
  | andi (d a : Reg) (imm : BitVec 12)
  /-- R122. Ors with an immediate. -/
  | ori (d a : Reg) (imm : BitVec 12)
  /-- R122. Exclusive-ors with an immediate. -/
  | xori (d a : Reg) (imm : BitVec 12)
  /-- R122. Signed compare with an immediate. -/
  | slti (d a : Reg) (imm : BitVec 12)
  /-- R122. Unsigned compare with a sign-extended immediate. -/
  | sltni (d a : Reg) (imm : BitVec 12)
  /-- R122. Loads a sign-extended immediate. -/
  | li (d : Reg) (imm : BitVec 12)
  /-- R122. addi with a 64-bit literal. -/
  | addiLit (d a : Reg) (lit : BitVec 64)
  /-- R122. addi.w with a literal. -/
  | addiWLit (d a : Reg) (lit : BitVec 64)
  /-- R122. andi with a literal. -/
  | andiLit (d a : Reg) (lit : BitVec 64)
  /-- R122. ori with a literal. -/
  | oriLit (d a : Reg) (lit : BitVec 64)
  /-- R122. xori with a literal. -/
  | xoriLit (d a : Reg) (lit : BitVec 64)
  /-- R122. slti with a literal. -/
  | sltiLit (d a : Reg) (lit : BitVec 64)
  /-- R122. sltni with a literal. -/
  | sltniLit (d a : Reg) (lit : BitVec 64)
  /-- R122. li with a 64-bit literal. -/
  | liLit (d : Reg) (lit : BitVec 64)
  /-- R123. Shifts left by an immediate amount. -/
  | shli (d a : Reg) (amt : BitVec 6)
  /-- R123. Shifts right logically by an immediate. -/
  | shri (d a : Reg) (amt : BitVec 6)
  /-- R123. Shifts right arithmetically by an immediate. -/
  | sari (d a : Reg) (amt : BitVec 6)
  /-- R123. 32-bit left shift by an immediate. -/
  | shliW (d a : Reg) (amt : BitVec 5)
  /-- R123. 32-bit logical right shift by an immediate. -/
  | shriW (d a : Reg) (amt : BitVec 5)
  /-- R123. 32-bit arithmetic right shift by an immediate. -/
  | sariW (d a : Reg) (amt : BitVec 5)
  /-- R124. Extracts a bit field. -/
  | bfx (d a : Reg) (p l : BitVec 6)
  /-- R124. Inserts a bit field into gD. -/
  | bfi (d a : Reg) (p l : BitVec 6)
  /-- R125. Branches after the delay slot when equal. -/
  | beq (a1 a2 : Reg) (off : BitVec 12)
  /-- R125. Branches when not equal. -/
  | bne (a1 a2 : Reg) (off : BitVec 12)
  /-- R125. Branches when signed less. -/
  | blt (a1 a2 : Reg) (off : BitVec 12)
  /-- R125. Branches when signed greater or equal. -/
  | bge (a1 a2 : Reg) (off : BitVec 12)
  /-- R125. Branches when unsigned less. -/
  | bltn (a1 a2 : Reg) (off : BitVec 12)
  /-- R125. Branches when unsigned greater or equal. -/
  | bgen (a1 a2 : Reg) (off : BitVec 12)
  /-- R126. Jumps by a 24-bit word offset. -/
  | j (off : BitVec 24)
  /-- R126. Jumps and writes the link to g1. -/
  | jal (off : BitVec 24)
  /-- R126. Jumps to a register target. -/
  | jr (a : Reg)
  /-- R126. Jumps to a register target and links. -/
  | jlr (a : Reg)
  /-- R127. A stitch member stalls to gather with its former stitch. -/
  | align (count : BitVec 12)
  /-- R128. Loads a sign-extended local byte. -/
  | ldlB (d a : Reg) (imm : BitVec 12)
  /-- R128. Loads a sign-extended local half. -/
  | ldlH (d a : Reg) (imm : BitVec 12)
  /-- R128. Loads a sign-extended local word. -/
  | ldlW (d a : Reg) (imm : BitVec 12)
  /-- R128. Loads a local doubleword. -/
  | ldlD (d a : Reg) (imm : BitVec 12)
  /-- R128. Loads a zero-extended local byte. -/
  | ldlBz (d a : Reg) (imm : BitVec 12)
  /-- R128. Loads a zero-extended local half. -/
  | ldlHz (d a : Reg) (imm : BitVec 12)
  /-- R128. Loads a zero-extended local word. -/
  | ldlWz (d a : Reg) (imm : BitVec 12)
  /-- R128. Stores a byte to local memory. -/
  | stlB (d a : Reg) (imm : BitVec 12)
  /-- R128. Stores a half to local memory. -/
  | stlH (d a : Reg) (imm : BitVec 12)
  /-- R128. Stores a word to local memory. -/
  | stlW (d a : Reg) (imm : BitVec 12)
  /-- R128. Stores a doubleword to local memory. -/
  | stlD (d a : Reg) (imm : BitVec 12)
  /-- R130. Reads a special register into gD. -/
  | rds (d : Reg) (num : BitVec 12)
  /-- R130. Writes a special register from gA. -/
  | wrs (a : Reg) (num : BitVec 12)
  /-- R257. Loads a sign-extended global byte. -/
  | ldB (d a : Reg) (imm : BitVec 12)
  /-- R257. Loads a sign-extended global half. -/
  | ldH (d a : Reg) (imm : BitVec 12)
  /-- R257. Loads a sign-extended global word. -/
  | ldW (d a : Reg) (imm : BitVec 12)
  /-- R257. Loads a global doubleword. -/
  | ldD (d a : Reg) (imm : BitVec 12)
  /-- R257. Loads a zero-extended global byte. -/
  | ldBz (d a : Reg) (imm : BitVec 12)
  /-- R257. Loads a zero-extended global half. -/
  | ldHz (d a : Reg) (imm : BitVec 12)
  /-- R257. Loads a zero-extended global word. -/
  | ldWz (d a : Reg) (imm : BitVec 12)
  /-- R257. Stores a byte to global memory. -/
  | stB (d a : Reg) (imm : BitVec 12)
  /-- R257. Stores a half to global memory. -/
  | stH (d a : Reg) (imm : BitVec 12)
  /-- R257. Stores a word to global memory. -/
  | stW (d a : Reg) (imm : BitVec 12)
  /-- R257. Stores a doubleword to global memory. -/
  | stD (d a : Reg) (imm : BitVec 12)
  /-- R258. Atomically swaps a 64-bit word. -/
  | amoswap (d a b : Reg)
  /-- R258. Atomically adds to a 64-bit word. -/
  | amoadd (d a b : Reg)
  /-- R258. Atomic and on a 64-bit word. -/
  | amoand (d a b : Reg)
  /-- R258. Atomic or on a 64-bit word. -/
  | amoor (d a b : Reg)
  /-- R258. Atomic xor on a 64-bit word. -/
  | amoxor (d a b : Reg)
  /-- R258. Atomic signed minimum, 64-bit. -/
  | amomin (d a b : Reg)
  /-- R258. Atomic signed maximum, 64-bit. -/
  | amomax (d a b : Reg)
  /-- R258. Atomic unsigned minimum, 64-bit. -/
  | amominn (d a b : Reg)
  /-- R258. Atomic unsigned maximum, 64-bit. -/
  | amomaxn (d a b : Reg)
  /-- R258. Atomically swaps a 32-bit word. -/
  | amoswapW (d a b : Reg)
  /-- R258. Atomic add on a 32-bit word. -/
  | amoaddW (d a b : Reg)
  /-- R258. Atomic and on a 32-bit word. -/
  | amoandW (d a b : Reg)
  /-- R258. Atomic or on a 32-bit word. -/
  | amoorW (d a b : Reg)
  /-- R258. Atomic xor on a 32-bit word. -/
  | amoxorW (d a b : Reg)
  /-- R258. Atomic signed minimum, 32-bit. -/
  | amominW (d a b : Reg)
  /-- R258. Atomic signed maximum, 32-bit. -/
  | amomaxW (d a b : Reg)
  /-- R258. Atomic unsigned minimum, 32-bit. -/
  | amominnW (d a b : Reg)
  /-- R258. Atomic unsigned maximum, 32-bit. -/
  | amomaxnW (d a b : Reg)
  /-- R312. Stalls until chosen earlier work of the core within a scope has performed. -/
  | fence (kind scope : BitVec 3)
  /-- R131. Scalar floating-point add in RNE. -/
  | fadd (ty : BitVec 2) (d a b : Reg)
  /-- R131. Scalar floating-point subtract. -/
  | fsub (ty : BitVec 2) (d a b : Reg)
  /-- R131. Scalar floating-point multiply. -/
  | fmul (ty : BitVec 2) (d a b : Reg)
  /-- R131. Scalar floating-point divide. -/
  | fdiv (ty : BitVec 2) (d a b : Reg)
  /-- R131. Scalar floating-point square root. -/
  | fsqrt (ty : BitVec 2) (d a : Reg)
  /-- R131. Scalar minimumNumber. -/
  | fmin (ty : BitVec 2) (d a b : Reg)
  /-- R131. Scalar maximumNumber. -/
  | fmax (ty : BitVec 2) (d a b : Reg)
  /-- R132. Copies the sign of b onto a. -/
  | fsgn (ty : BitVec 2) (d a b : Reg)
  /-- R132. Copies the inverted sign of b onto a. -/
  | fsgnn (ty : BitVec 2) (d a b : Reg)
  /-- R132. Xors the signs onto a. -/
  | fsgnx (ty : BitVec 2) (d a b : Reg)
  /-- R133. Floating-point equality compare. -/
  | feq (ty : BitVec 2) (d a b : Reg)
  /-- R133. Floating-point less-than compare. -/
  | flt (ty : BitVec 2) (d a b : Reg)
  /-- R133. Floating-point less-or-equal compare. -/
  | fle (ty : BitVec 2) (d a b : Reg)
  /-- R134. Writes a one-hot class of the operand. -/
  | fclass (ty : BitVec 2) (d a : Reg)
  /-- R133. Writes 1 when the pair is unordered. -/
  | fcun (ty : BitVec 2) (d a b : Reg)
  /-- R131. fadd with a literal operand. -/
  | faddLit (ty : BitVec 2) (d a : Reg) (lit : BitVec 64)
  /-- R131. fsub with a literal operand. -/
  | fsubLit (ty : BitVec 2) (d a : Reg) (lit : BitVec 64)
  /-- R131. fmul with a literal operand. -/
  | fmulLit (ty : BitVec 2) (d a : Reg) (lit : BitVec 64)
  /-- R131. fdiv with a literal operand. -/
  | fdivLit (ty : BitVec 2) (d a : Reg) (lit : BitVec 64)
  /-- R131. fmin with a literal operand. -/
  | fminLit (ty : BitVec 2) (d a : Reg) (lit : BitVec 64)
  /-- R131. fmax with a literal operand. -/
  | fmaxLit (ty : BitVec 2) (d a : Reg) (lit : BitVec 64)
  /-- R132. fsgn with a literal operand. -/
  | fsgnLit (ty : BitVec 2) (d a : Reg) (lit : BitVec 64)
  /-- R132. fsgnn with a literal operand. -/
  | fsgnnLit (ty : BitVec 2) (d a : Reg) (lit : BitVec 64)
  /-- R132. fsgnx with a literal operand. -/
  | fsgnxLit (ty : BitVec 2) (d a : Reg) (lit : BitVec 64)
  /-- R133. feq with a literal operand. -/
  | feqLit (ty : BitVec 2) (d a : Reg) (lit : BitVec 64)
  /-- R133. flt with a literal operand. -/
  | fltLit (ty : BitVec 2) (d a : Reg) (lit : BitVec 64)
  /-- R133. fle with a literal operand. -/
  | fleLit (ty : BitVec 2) (d a : Reg) (lit : BitVec 64)
  /-- R133. fcun with a literal operand. -/
  | fcunLit (ty : BitVec 2) (d a : Reg) (lit : BitVec 64)
  /-- R139. Raises software cause 0x1E0 + code. -/
  | trap (code : BitVec 5)
  /-- R139. Raises SYSCALL with the code in s.eval. -/
  | sys (code : BitVec 6)
  /-- R57. Returns from a trap, restoring mode, workspace and shadows. -/
  | eret
  /-- R140. Stalls until an interrupt is pending. -/
  | wfi
  /-- R141. Reads the package time counter. -/
  | rdtime (d : Reg)
  /-- R141. Reads performance counter n. -/
  | rdcnt (d : Reg) (code : BitVec 6)
  /-- R139. Raises BREAKPOINT with the code. -/
  | brk (code : BitVec 6)
  /-- R81. Extended form of any INT or MULDIV function with relative operands. -/
  | intx (fn : BitVec 7) (d a b : GOp)
  /-- R75. INTX with a 64-bit literal in place of B. -/
  | intxLit (fn : BitVec 7) (d a : GOp) (lit : BitVec 64)
  /-- R136. Fused multiply-add rounded once. -/
  | fma (t1 : BitVec 4) (rm : BitVec 3) (d a b c : GOp)
  /-- R136. Fused multiply-subtract. -/
  | fms (t1 : BitVec 4) (rm : BitVec 3) (d a b c : GOp)
  /-- R136. Negated fused multiply-add. -/
  | fnma (t1 : BitVec 4) (rm : BitVec 3) (d a b c : GOp)
  /-- R136. Negated fused multiply-subtract. -/
  | fnms (t1 : BitVec 4) (rm : BitVec 3) (d a b c : GOp)
  /-- R137. Converts gA from type T2 to T1. -/
  | fcvt (t1 t2 : BitVec 4) (rm : BitVec 3) (sat : Bool) (d a : GOp)
  /-- R138. Selects gA or gB by gC. -/
  | sel (d a b c : GOp)
  /-- R138. Rounds to an integral value. -/
  | fround (t1 : BitVec 4) (rm : BitVec 3) (d a : GOp)
  /-- R150. Captures a body and replays it n times with stepped fields. -/
  | rep (cr : Bool) (a : GOp) (nc : BitVec 12) (len : BitVec 4) (sd sa sb sc : BitVec 3)
  /-- R161. Lane-wise integer add. -/
  | vadd (t1 : BitVec 4) (mz : Bool) (mk : BitVec 3) (d a b : VReg)
  /-- R161. Lane-wise integer subtract. -/
  | vsub (t1 : BitVec 4) (mz : Bool) (mk : BitVec 3) (d a b : VReg)
  /-- R161. Lane-wise integer multiply. -/
  | vmul (t1 : BitVec 4) (mz : Bool) (mk : BitVec 3) (d a b : VReg)
  /-- R161. Lane-wise and. -/
  | vand (t1 : BitVec 4) (mz : Bool) (mk : BitVec 3) (d a b : VReg)
  /-- R161. Lane-wise or. -/
  | vor (t1 : BitVec 4) (mz : Bool) (mk : BitVec 3) (d a b : VReg)
  /-- R161. Lane-wise xor. -/
  | vxor (t1 : BitVec 4) (mz : Bool) (mk : BitVec 3) (d a b : VReg)
  /-- R161. Lane-wise left shift. -/
  | vshl (t1 : BitVec 4) (mz : Bool) (mk : BitVec 3) (d a b : VReg)
  /-- R161. Lane-wise logical right shift. -/
  | vshr (t1 : BitVec 4) (mz : Bool) (mk : BitVec 3) (d a b : VReg)
  /-- R161. Lane-wise arithmetic right shift. -/
  | vsar (t1 : BitVec 4) (mz : Bool) (mk : BitVec 3) (d a b : VReg)
  /-- R161. Lane-wise minimum. -/
  | vmin (t1 : BitVec 4) (mz : Bool) (mk : BitVec 3) (d a b : VReg)
  /-- R161. Lane-wise maximum. -/
  | vmax (t1 : BitVec 4) (mz : Bool) (mk : BitVec 3) (d a b : VReg)
  /-- R163. Vector floating-point add. -/
  | vfadd (t1 : BitVec 4) (rm : BitVec 3) (mz : Bool) (mk : BitVec 3) (d a b : VReg)
  /-- R163. Vector floating-point subtract. -/
  | vfsub (t1 : BitVec 4) (rm : BitVec 3) (mz : Bool) (mk : BitVec 3) (d a b : VReg)
  /-- R163. Vector floating-point multiply. -/
  | vfmul (t1 : BitVec 4) (rm : BitVec 3) (mz : Bool) (mk : BitVec 3) (d a b : VReg)
  /-- R163. Vector floating-point divide. -/
  | vfdiv (t1 : BitVec 4) (rm : BitVec 3) (mz : Bool) (mk : BitVec 3) (d a b : VReg)
  /-- R163. Vector square root. -/
  | vfsqrt (t1 : BitVec 4) (rm : BitVec 3) (mz : Bool) (mk : BitVec 3) (d a : VReg)
  /-- R163. Vector fused multiply-add. -/
  | vfma (t1 : BitVec 4) (rm : BitVec 3) (mz : Bool) (mk : BitVec 3) (d a b c : VReg)
  /-- R163. Vector fused multiply-subtract. -/
  | vfms (t1 : BitVec 4) (rm : BitVec 3) (mz : Bool) (mk : BitVec 3) (d a b c : VReg)
  /-- R163. Vector negated fused multiply-add. -/
  | vfnma (t1 : BitVec 4) (rm : BitVec 3) (mz : Bool) (mk : BitVec 3) (d a b c : VReg)
  /-- R163. Vector minimumNumber. -/
  | vfmin (t1 : BitVec 4) (mz : Bool) (mk : BitVec 3) (d a b : VReg)
  /-- R163. Vector maximumNumber. -/
  | vfmax (t1 : BitVec 4) (mz : Bool) (mk : BitVec 3) (d a b : VReg)
  /-- R163. Clears each element's sign bit. -/
  | vfabs (t1 : BitVec 4) (mz : Bool) (mk : BitVec 3) (d a : VReg)
  /-- R163. Inverts each element's sign bit. -/
  | vfneg (t1 : BitVec 4) (mz : Bool) (mk : BitVec 3) (d a : VReg)
  /-- R164. Integer equality into a mask. -/
  | vceq (t1 : BitVec 4) (mz : Bool) (mk : BitVec 3) (d : MReg) (a b : VReg)
  /-- R164. Integer less-than into a mask. -/
  | vclt (t1 : BitVec 4) (mz : Bool) (mk : BitVec 3) (d : MReg) (a b : VReg)
  /-- R164. Integer less-or-equal into a mask. -/
  | vcle (t1 : BitVec 4) (mz : Bool) (mk : BitVec 3) (d : MReg) (a b : VReg)
  /-- R164. Unsigned less-than into a mask. -/
  | vcltn (t1 : BitVec 4) (mz : Bool) (mk : BitVec 3) (d : MReg) (a b : VReg)
  /-- R164. Floating-point equality into a mask. -/
  | vfeq (t1 : BitVec 4) (mz : Bool) (mk : BitVec 3) (d : MReg) (a b : VReg)
  /-- R164. Floating-point less-than into a mask. -/
  | vflt (t1 : BitVec 4) (mz : Bool) (mk : BitVec 3) (d : MReg) (a b : VReg)
  /-- R164. Floating-point less-or-equal into a mask. -/
  | vfle (t1 : BitVec 4) (mz : Bool) (mk : BitVec 3) (d : MReg) (a b : VReg)
  /-- R164. Unordered test into a mask. -/
  | vfun (t1 : BitVec 4) (mz : Bool) (mk : BitVec 3) (d : MReg) (a b : VReg)
  /-- R164. Mask and. -/
  | mand (mz : Bool) (mk : BitVec 3) (d a b : MReg)
  /-- R164. Mask or. -/
  | mor (mz : Bool) (mk : BitVec 3) (d a b : MReg)
  /-- R164. Mask xor. -/
  | mxor (mz : Bool) (mk : BitVec 3) (d a b : MReg)
  /-- R164. Mask not. -/
  | mnot (mz : Bool) (mk : BitVec 3) (d a : MReg)
  /-- R165. Writes a mask of the k lowest bits, k the selected count. -/
  | mpop (mk : BitVec 3) (d a : MReg)
  /-- R165. Writes the lowest selected bit alone. -/
  | mfirst (mk : BitVec 3) (d a : MReg)
  /-- R166. Converts elements between types. -/
  | vcvt (t1 t2 : BitVec 4) (rm : BitVec 3) (sat mz : Bool) (mk : BitVec 3) (d a : VReg)
  /-- R167. Converts 64 elements and packs them densely. -/
  | vpack (t1 t2 : BitVec 4) (rm : BitVec 3) (sat mz : Bool) (mk : BitVec 3) (d a b : VReg)
  /-- R168. Unpacks 64 packed elements into two registers. -/
  | vunpack (t1 t2 : BitVec 4) (mz : Bool) (mk : BitVec 3) (d a : VReg)
  /-- R169. Floating-point tree sum into gD. -/
  | vredadd (t1 : BitVec 4) (rm mk : BitVec 3) (d : GOp) (a : VReg)
  /-- R169. Tree maximum into gD. -/
  | vredmax (t1 : BitVec 4) (mk : BitVec 3) (d : GOp) (a : VReg)
  /-- R169. Tree minimum into gD. -/
  | vredmin (t1 : BitVec 4) (mk : BitVec 3) (d : GOp) (a : VReg)
  /-- R169. Integer sum modulo 2^64 into gD. -/
  | vredaddi (t1 : BitVec 4) (mk : BitVec 3) (d : GOp) (a : VReg)
  /-- R171. Permutes elements by indices. -/
  | vperm (t1 : BitVec 4) (mz : Bool) (mk : BitVec 3) (d a b : VReg)
  /-- R171. Broadcasts a g register. -/
  | vbcast (t1 : BitVec 4) (mz : Bool) (mk : BitVec 3) (d : VReg) (a : GOp)
  /-- R171. Extracts one element to gD. -/
  | vext (t1 : BitVec 4) (d : GOp) (a : VReg) (idx : BitVec 6)
  /-- R171. Inserts gA as one element. -/
  | vins (t1 : BitVec 4) (d : VReg) (a : GOp) (idx : BitVec 6)
  /-- R171. Butterfly exchange by e xor d. -/
  | vbfly (t1 : BitVec 4) (mz : Bool) (mk : BitVec 3) (d a : VReg) (x : BitVec 6)
  /-- R171. Slides elements across two registers. -/
  | vslide (t1 : BitVec 4) (mz : Bool) (mk : BitVec 3) (d a b : VReg) (sh : BitVec 6)
  /-- R172. Complex multiply, one rounding per part. -/
  | vcmul (t1 : BitVec 4) (rm : BitVec 3) (mz : Bool) (mk : BitVec 3) (d a b : VReg)
  /-- R172. Complex fused multiply-add. -/
  | vcfma (t1 : BitVec 4) (rm : BitVec 3) (mz : Bool) (mk : BitVec 3) (d a b c : VReg)
  /-- R172. Complex conjugate. -/
  | vcconj (t1 : BitVec 4) (mz : Bool) (mk : BitVec 3) (d a : VReg)
  /-- R172. Multiply by the conjugate. -/
  | vcmulj (t1 : BitVec 4) (rm : BitVec 3) (mz : Bool) (mk : BitVec 3) (d a b : VReg)
  /-- R175. Contiguous or strided local vector load. -/
  | vldl (t1 : BitVec 4) (mz : Bool) (mk : BitVec 3) (d : VReg) (a b : GOp) (off : BitVec 32)
  /-- R175. Contiguous or strided local vector store. -/
  | vstl (t1 : BitVec 4) (mk : BitVec 3) (d : VReg) (a b : GOp) (off : BitVec 32)
  /-- R175. Local gather by lane offsets. -/
  | vgath (t1 : BitVec 4) (mz : Bool) (mk : BitVec 3) (d : VReg) (a : GOp) (b : VReg) (off : BitVec 32)
  /-- R175. Local scatter by lane offsets. -/
  | vscat (t1 : BitVec 4) (mk : BitVec 3) (d : VReg) (a : GOp) (b : VReg) (off : BitVec 32)
  /-- R191. Starts a thread and queues its handle. -/
  | spawn (d a b : GOp)
  /-- R192. Checks, waits and retires the thread. -/
  | endT
  /-- R193. Suspends the thread to the tail of its queue. -/
  | yieldT
  /-- R197. Joins a barrier channel. -/
  | join (d : GOp) (ch : BitVec 6)
  /-- R197. Leaves a barrier channel. -/
  | leave (d : GOp) (ch : BitVec 6)
  /-- R205. Waits to form a stitch with a mask of cores. -/
  | stitch (d a : GOp) (limit : BitVec 12)
  /-- R206. Leaves the stitch. -/
  | unstitch
  /-- R194. Reads the handle, frame or join signal. -/
  | selfT (d : GOp) (sel : BitVec 2)
  /-- R201. Records an arrival on a barrier channel. -/
  | arrive (d : GOp) (ch : BitVec 6)
  /-- R201. Arrives and announces pending bytes. -/
  | arriveb (d a : GOp) (ch : BitVec 6)
  /-- R202. Waits until a phase's release reaches the core. -/
  | waitT (a : GOp)
  /-- R203. Sets a channel threshold or resets a broken channel. -/
  | btx (d a : GOp) (ch : BitVec 6)
  /-- R202. Tests whether a phase has been released. -/
  | bpoll (d a : GOp)
  /-- R208. Initialises a channel object. -/
  | chinit (a b c : GOp) (k : BitVec 4)
  /-- R209. Sends a 64-byte message, blocking when full. -/
  | chsend (d a b : GOp)
  /-- R210. Receives a message, blocking when empty. -/
  | chrecv (d a b : GOp)
  /-- R210. Reads the message count and peer liveness. -/
  | chpoll (d a : GOp)
  /-- R215. Atomically decrements a signal, firing at zero. -/
  | sigdec (d a b : GOp)
  /-- R216. Waits until a signal counter is at or below zero. -/
  | sigwait (d a : GOp)
  /-- R224. Ends the superstep at the seam channel. -/
  | seam (d a : GOp)
  /-- R226. Sends an exchange message at a fixed cycle. -/
  | xsend (a b : GOp) (cyc : BitVec 16) (ln : BitVec 3)
  /-- R227. Arms a capture of an exchange message. -/
  | xrecv (a b : GOp) (cyc : BitVec 16) (ln : BitVec 3)
  /-- R228. Stalls until an exchange cycle. -/
  | xwait (cyc : BitVec 16)
  /-- R229. Ends the exchange phase and reports records. -/
  | xend
  /-- R279. Inserts a rights entry into a target table. -/
  | grant (d a b c : GOp) (rights : BitVec 6)
  /-- R280. Trims rights and starts a shutter. -/
  | revoke (d a b c : GOp)
  /-- R281. Waits for the core's shutters to complete. -/
  | rvsync
  /-- R283. Reports the rights found for a granule. -/
  | rchk (d a b : GOp)
  /-- R282. Replaces own rights with a quarantined entry. -/
  | retire (d a b : GOp)
  /-- R316. Announces an ordered add. -/
  | ordadd (t1 : BitVec 4) (rm : BitVec 3) (d a b : GOp)
  /-- R316. Announces an ordered minimum. -/
  | ordmin (t1 : BitVec 4) (d a b : GOp)
  /-- R316. Announces an ordered maximum. -/
  | ordmax (t1 : BitVec 4) (d a b : GOp)
  /-- R316. Announces an ordered swap. -/
  | ordswap (t1 : BitVec 4) (d a b : GOp)
  /-- R316. Announces an ordered read. -/
  | ordget (t1 : BitVec 4) (d a : GOp)
  /-- R260. 64-bit compare-and-swap. -/
  | cas (d a b c : GOp)
  /-- R260. 32-bit compare-and-swap. -/
  | casW (d a b c : GOp)
  /-- R260. 64-bit wrapping increment to a bound. -/
  | incw (d a b : GOp)
  /-- R260. 32-bit wrapping increment. -/
  | incwW (d a b : GOp)
  /-- R260. 64-bit bounded add with status. -/
  | faddb (d a b c st : GOp)
  /-- R260. 32-bit bounded add with status. -/
  | faddbW (d a b c st : GOp)
  /-- R337. Enqueues a global-to-local copy. -/
  | copyGl (d a b c : GOp) (term : BitVec 4) (he rs : Bool) (ch : BitVec 1)
  /-- R337. Enqueues a local-to-global copy. -/
  | copyLg (d a b c : GOp) (term : BitVec 4) (he rs : Bool) (ch : BitVec 1)
  /-- R337. Enqueues a local-to-local copy. -/
  | copyLl (d a b c : GOp) (term : BitVec 4) (he rs : Bool) (ch : BitVec 1)
  /-- R337. Enqueues a global-to-global copy. -/
  | copyGg (d a b c : GOp) (term : BitVec 4) (he rs : Bool) (ch : BitVec 1)
  /-- R343. Stalls until selected engines complete or fault. -/
  | cpwait (sel : BitVec 2)
  /-- R344. Reads an engine state field. -/
  | cpstat (d : GOp) (sel : BitVec 5)
  /-- R352. Enqueues an element conversion. -/
  | convE (t1 t2 : BitVec 4) (rm : BitVec 3) (sat : Bool) (d a b : GOp) (term : BitVec 4) (he rs : Bool)
  /-- R353. Enqueues a block-scaled quantisation. -/
  | quant (t1 t2 : BitVec 4) (rm : BitVec 3) (sat : Bool) (d a b : GOp) (term : BitVec 4) (he rs : Bool)
  /-- R354. Enqueues a dequantisation. -/
  | dequant (t1 t2 : BitVec 4) (rm : BitVec 3) (d a b : GOp) (term : BitVec 4) (he rs : Bool)
  /-- R355. Enqueues a re-blocking along the other dimension. -/
  | retile (t1 t2 : BitVec 4) (rm : BitVec 3) (sat : Bool) (d a b : GOp) (term : BitVec 4) (he rs : Bool)
  /-- R358. Configures an event counter, term or the timer. -/
  | evcfg (a : GOp) (sel : BitVec 5)
  /-- R359. Arms an event term. -/
  | evarm (t : BitVec 4)
  /-- R360. Stalls until a term has a credit, then takes it. -/
  | evwait (t : BitVec 4)
  /-- R360. Reads a count, credit or timer. -/
  | evread (d : GOp) (sel : BitVec 5)
  /-- R375. Enqueues a weight-slot load. -/
  | mload (a b : GOp) (tr : Bool) (term : BitVec 4) (he rs : Bool)
  /-- R376. Enqueues an activation stream into the bank. -/
  | mstream (a b : GOp) (row0 : BitVec 8) (tr : Bool) (term : BitVec 4) (he rs : Bool)
  /-- R378. Enqueues a bank store with bound checks. -/
  | mstore (rm : BitVec 3) (a b : GOp) (row0 : BitVec 8) (j : BitVec 2) (be zr : Bool) (term : BitVec 4) (he rs : Bool)
  /-- R377. Enqueues a clearing of bank rows. -/
  | mzero (row0 : BitVec 8) (count : BitVec 9) (term : BitVec 4) (he rs : Bool)
  /-- R383. Saves the matrix queue into a local image. -/
  | msave (a : GOp)
  /-- R384. Restores the matrix queue from an image. -/
  | mrest (a : GOp)
  /-- R385. Reads a queue field, optionally waiting. -/
  | mstat (d : GOp) (sel : BitVec 4)
  /-- R381. Arms an injected block-sum error. -/
  | minj (row col : BitVec 6) (blk : BitVec 3) (p : BitVec 6)
  /-- R379. Sets a bound pair and action. -/
  | bndset (a : GOp) (j act : BitVec 2)
  /-- R379. Reads a bound pair or its status. -/
  | bndread (d : GOp) (sel : BitVec 3)
  /-- R408. Writes back owner tokens of a range to the home. -/
  | l1wb (a b : GOp)
  /-- R408. Returns all tokens of a range and drops the lines. -/
  | l1inv (a b : GOp)
  /-- R409. Drops translations locally or starts a package shootdown. -/
  | tlbinv (scope : BitVec 3) (a b : GOp)
  /-- R410. Drops RLB entries locally or package-wide. -/
  | rlbinv (scope : BitVec 3) (a : GOp)
  /-- R399. Reads pre-emption state or acknowledges a pre-emption. -/
  | snapctl (d : GOp) (op : BitVec 1)
  /-- R412. Appends a log record or flips stored data bits. -/
  | errlog (a b : GOp) (op : BitVec 1)
  /-- R391. The cluster controller saves the core and ends its launch. -/
  | doubleTrapHandling (site : Nat)
  /-- R390. A pending PREEMPT is taken at a quiet instruction boundary. -/
  | preemptInterrupt (site : Nat)
  /-- R140. A wfi ends when an interrupt becomes pending. -/
  | wfiWake (site : Nat)
  /-- R127. An align stall ends and the gathered cores re-form a stitch. -/
  | alignGather (sites : List Nat)
  /-- R205. Every core of the mask waits at the stitch and the stitch forms. -/
  | stitchForm (site : Nat)
  /-- R205. The stitch limit passes and the core continues alone. -/
  | stitchLimitExpiry (site : Nat)
  /-- R187. An idle serving core takes a handle and dispatches its thread. -/
  | dispatch (site : Nat)
  /-- R213. A probe is forwarded, discarded or marks a cycle. -/
  | deadlockProbe (idx : Nat)
  /-- R199. A phase release reaches a core and ends its waits. -/
  | barrierRelease (chan site : Nat)
  /-- R224. The seam release reaches the core and the exchange phase begins. -/
  | seamComplete (site : Nat)
  /-- R226. At the named cycle the message is injected. -/
  | xsendInject (site : Nat)
  /-- R227. An exchange message arrives, fills an arm or is dropped. -/
  | exchArrival (idx : Nat)
  /-- R227. An arm's horizon passes and waiting accesses proceed. -/
  | exchHorizon (site idx : Nat)
  /-- R229. xend's waits end and its records are checked. -/
  | xendComplete (site : Nat)
  /-- R237. A consumed uncorrectable error rolls a protected gang back. -/
  | rollback (gang : Nat)
  /-- R231. The governor changes island dividers while a seam is withheld. -/
  | dividerChange (islands : List Nat) (div : Nat)
  /-- R309. The home applies a posted type-W store. -/
  | postedStoreApply (site : Nat)
  /-- R249. A translation shootdown completes. -/
  | tlbShootdownComplete (id : Nat)
  /-- R273. A shutter completes across the package. -/
  | shutterComplete (id : Nat)
  /-- R410. A package rlbinv round completes. -/
  | rlbinvRoundComplete (id : Nat)
  /-- R281. rvsync's wait for shutters ends. -/
  | rvsyncComplete (site : Nat)
  /-- R312. A fence's waited work has performed. -/
  | fenceComplete (site : Nat)
  /-- R343. cpwait's engines complete or fault. -/
  | cpwaitComplete (site : Nat)
  /-- R360. A term gains a credit for a waiting evwait. -/
  | evwaitComplete (site : Nat)
  /-- R385. A waiting mstat finds its queue empty or faulted. -/
  | mstatWaitComplete (site : Nat)
  /-- R408. Every token that l1wb or l1inv sent has arrived. -/
  | l1wbComplete (site : Nat)
  /-- R288. A holder answers, ignores or drops a transient request. -/
  | transientRequest (req holder : Nat)
  /-- R289. 512 cycles pass unsatisfied and the request reissues or turns persistent. -/
  | transientRequestFail (req : Nat)
  /-- R291. The home enters a persistent request in its table. -/
  | persistentRequest (req : Nat)
  /-- R292. An agent receives an activation and forwards tokens. -/
  | persistentActivation (sector agent : Nat)
  /-- R292. The home deactivates a request and activates the next. -/
  | persistentDeactivation (sector : Nat)
  /-- R290. An agent receives tokens, with or without a request. -/
  | tokenReceipt (msg : Nat)
  /-- R287. The home updates its holder hint. -/
  | hintUpdate (idx : Nat)
  /-- R298. Two idle halves merge after 16,384 cycles. -/
  | regionMerge (cluster base size : Nat)
  /-- R301. A line arrives from HBM into the level-two cache. -/
  | hbmFill (line : Nat)
  /-- R308. An uncorrectable token or owner fault resets a sector. -/
  | sectorReset (sector : Nat)
  /-- R308. The last acknowledgement ends the reset and poisons the sector. -/
  | sectorResetEnd (sector : Nat)
  /-- R307. Writing CLR clears the hash and recount counters. -/
  | l2StatClear (die : Nat)
  /-- R318. At tick 64w+128 a home applies window w in key order. -/
  | ordWindowApply (die window : Nat)
  /-- R319. An ordered operation's result record lands. -/
  | ordRecordLand (idx : Nat)
  /-- R320. A MOVED announcement returns and is announced again. -/
  | ordReannounce (idx : Nat)
  /-- R332. A held copy or converter command starts running. -/
  | engineCommandStart (site eng : Nat)
  /-- R336. A copy element is checked and lands, with its tag. -/
  | copyElement (site ch : Nat)
  /-- R350. A converter element is produced and written. -/
  | convElement (site : Nat)
  /-- R342. A command completes: signal, pulse, next command. -/
  | engineCommandComplete (site eng : Nat)
  /-- R358. The event timer's period expires and it pulses. -/
  | evTimerPulse (site : Nat)
  /-- R361. The power governor grants leave to the head request. -/
  | leaveGrant (quad : Nat)
  /-- R362. A 10 µs period renews the activity budgets. -/
  | activityPeriodStart (die : Nat)
  /-- R366. The arbiter grants the array to a queue's next unit. -/
  | mxUnitGrant (cluster : Nat)
  /-- R375. The weight slot is filled and latched. -/
  | mxLoadExec (site : Nat)
  /-- R376. A tile is fetched, checked and accumulated into the bank. -/
  | mxTileExec (site : Nat)
  /-- R378. Bank rows are bound-checked, rounded and written. -/
  | mxStoreExec (site : Nat)
  /-- R367. A write of queue weights stores 1 for 0. -/
  | mxWeightWrite (quad q : Nat) (value : BitVec 64)
  /-- R401. 100 µs without acknowledgement quiesces the core. -/
  | preemptTimeout (site : Nat)
  /-- R402. Issue stops without a handler and the state block is written. -/
  | quiesce (site reason : Nat)
  /-- R400. Once all cores stopped, the controller copies context images out. -/
  | contextSave (vd region : Nat)
  /-- R397. A context image is restored and the core resumes. -/
  | contextRestore (site : Nat)
  /-- R403. A scrub engine reads, corrects or poisons a sector. -/
  | scrubSector (sector : Nat)
  /-- R415. sch.cmd enables a virtual device. -/
  | vdEnable (vd : Nat)
  /-- R415. sch.cmd disables a device and quiesces its cores. -/
  | vdDisable (vd : Nat)
  /-- R417. sch.cmd installs a reservation under the admission test. -/
  | reservationInstall (vd slot : Nat)
  /-- R417. sch.cmd removes a reservation. -/
  | reservationRemove (vd slot : Nat)
  /-- R418. A period start renews a reservation's budget and deadline. -/
  | reservationPeriodStart (vd slot : Nat)
  /-- R418. A remaining budget reaches 0 and the cores are quiesced. -/
  | budgetExhausted (vd slot region : Nat)
  /-- R421. A write to a watched ring line makes the scheduler reread TAIL. -/
  | ringTailChange (vd queue : Nat)
  /-- R426. A dependency signal's line changes and is reread. -/
  | dependencySatisfied (launch dep : Nat)
  /-- R432. A launch's threads have ended; status and signal are written. -/
  | launchComplete (launch : Nat)
  /-- R433. A fault ends a launch and stops its cores. -/
  | launchFaultEnd (launch : Nat)
  /-- R441. mig.cmd starts a migration, or refuses it. -/
  | migrationStart (die desc : Nat)
  /-- R441. mig.cmd releases the old frame of a moved page. -/
  | migrationRelease (die desc : Nat)
  /-- R441. At the copy point the engine copies the page. -/
  | migrationCopy (die desc : Nat)
  /-- R441. After the copy the engine starts the shootdown. -/
  | migrationSwitch (die desc : Nat)
  /-- R441. The shootdown ends and the new frame serves its requests. -/
  | migrationMoved (die desc : Nat)
  /-- R440. Writing 1 to DROP clears it. -/
  | migStatClear (die : Nat)
  /-- R450. A type F or H access is unanswered for 100 µs and aborts. -/
  | fabricTimeout (site : Nat) (performed : Bool)
  /-- R449. A fabric peer's access is served as a host access in device bias.  op: 0 load, 1 store, 2 to 13 an atomic, 14 a store of poisoned
  data. -/
  | peerAccess (port op n pa : Nat) (v1 v2 : BitVec 512)
  /-- R451. The home answers a host read by bias. -/
  | hostRead (sector : Nat)
  /-- R451. The home answers a host read for ownership. -/
  | hostReadOwn (sector : Nat)
  /-- R451. The home accepts a host write or write-back. -/
  | hostWrite (sector : Nat) (data : BitVec 512) (mask : BitVec 64)
  /-- R455. A host snoop of a type-H line reaches every holding slice. -/
  | hostSnoop (line : Nat) (excl : Bool)
  /-- R453. hb.cmd flips a granule to device bias. -/
  | biasToDevice (gran : Nat)
  /-- R453. hb.cmd flips a granule to host bias. -/
  | biasToHost (gran : Nat)
  /-- R452. hb.cmd exposes a granule in device bias. -/
  | biasExpose (gran : Nat)
  /-- R452. hb.cmd flips to device bias and withdraws exposure. -/
  | biasWithdraw (gran : Nat)
  /-- R453. Collection or back-invalidation ends and the bias bit changes. -/
  | biasFlipComplete (gran : Nat)
  /-- R452. Writing 1 to DROP clears it. -/
  | hbStatClear
  /-- R437. A flit failing its CRC is resent. -/
  | flitRetry (link : Nat)
  /-- R437. A link that fails its retries is retrained. -/
  | linkRetrain (link : Nat)
  /-- R447. A CXL port trains, or is held down for a third host. -/
  | linkTrain (port rate : Nat) (flit256 host : Bool)
  /-- R456. Setting EN clears trace positions and writes a TIME record. -/
  | traceEnable (die : Nat)
  /-- R459. Every 10 µs a stopped unit retries its pages. -/
  | traceRetry (die : Nat)
  /-- R461. A power-gated die wakes and resyncs its time counter. -/
  | dieWake (die : Nat)
  /-- R464. Power-on runs the seven start steps. -/
  | coldStart
  /-- R464. A start step times out and the start fails. -/
  | startStepTimeout (step die : Nat)
  /-- R465. A core takes coordinates from its first discovery packet. -/
  | discoveryPacket (src dst : Nat)
  /-- R466. A core writes and forwards the boot image and checks its digest. -/
  | bootImageHop (site : Nat) (ok : Bool)
  /-- R467. The management controller requests a warm start. -/
  | warmStart (stateOk : Bool)
  /-- R471. ks.cmd draws a key for a free slot. -/
  | keySlotAssign (slot : Nat)
  /-- R471. ks.cmd drops a key and begins its scrub. -/
  | keySlotDiscard (slot : Nat)
  /-- R468. The hub signs an attestation report after advancing its index. -/
  | attestationSign (advanced : Bool)
  /-- R472. A write to a device register without behaviour of its own. -/
  | registerWrite (pa : Nat) (value : BitVec 64)
  /-- R228. The exchange cycle count reaches the cycle named by a stalled xwait, and the instruction completes. -/
  | xwaitComplete (site : Nat)
  /-- R461. A compute die is power-gated, its copy of the package time counter stops and its trace unit records nothing. -/
  | diePowerGate (die : Nat)
  /-- R444. A fabric message from another device's migration engine marks a frame of this device incoming, so that its requests wait at the home.
  The mark holds the frame in its bits from 8 up, and the key slot of the page there in bits 7:0. -/
  | migrationIncomingMark (mark : Nat)
  /-- R444. A fabric message from the driving device ends phase 4, and the incoming frame serves its waiting requests in arrival order. -/
  | migrationIncomingRelease (frame : Nat)
  /-- R467. Package power is lost, and all module state is gone except the external flash, including its failed-start count. -/
  | powerLoss
  deriving DecidableEq, Repr

end Sys2Proof
end

