-- ==== Sys2Proof/Machine/Fields.lean ====
section
/-! DEFINITION. Which field values make an instruction: the checks that the formats leave to each instruction
(03 R64 to R82 and each instruction's own description). A value refused here raises ILLEGAL_FIELD at step 8 of R84. -/

namespace Sys2Proof

/-- The instruction is an event: a step the module takes by itself, with no encoding (95). -/
def isEventRow : Instr → Bool
  | .doubleTrapHandling _ => true
  | .preemptInterrupt _ => true
  | .wfiWake _ => true
  | .alignGather _ => true
  | .stitchForm _ => true
  | .stitchLimitExpiry _ => true
  | .dispatch _ => true
  | .deadlockProbe _ => true
  | .barrierRelease _ _ => true
  | .seamComplete _ => true
  | .xsendInject _ => true
  | .exchArrival _ => true
  | .exchHorizon _ _ => true
  | .xendComplete _ => true
  | .rollback _ => true
  | .dividerChange _ _ => true
  | .postedStoreApply _ => true
  | .tlbShootdownComplete _ => true
  | .shutterComplete _ => true
  | .rlbinvRoundComplete _ => true
  | .rvsyncComplete _ => true
  | .fenceComplete _ => true
  | .cpwaitComplete _ => true
  | .evwaitComplete _ => true
  | .mstatWaitComplete _ => true
  | .l1wbComplete _ => true
  | .transientRequest _ _ => true
  | .transientRequestFail _ => true
  | .persistentRequest _ => true
  | .persistentActivation _ _ => true
  | .persistentDeactivation _ => true
  | .tokenReceipt _ => true
  | .hintUpdate _ => true
  | .regionMerge _ _ _ => true
  | .hbmFill _ => true
  | .sectorReset _ => true
  | .sectorResetEnd _ => true
  | .l2StatClear _ => true
  | .ordWindowApply _ _ => true
  | .ordRecordLand _ => true
  | .ordReannounce _ => true
  | .engineCommandStart _ _ => true
  | .copyElement _ _ => true
  | .convElement _ => true
  | .engineCommandComplete _ _ => true
  | .evTimerPulse _ => true
  | .leaveGrant _ => true
  | .activityPeriodStart _ => true
  | .mxUnitGrant _ => true
  | .mxLoadExec _ => true
  | .mxTileExec _ => true
  | .mxStoreExec _ => true
  | .mxWeightWrite _ _ _ => true
  | .preemptTimeout _ => true
  | .quiesce _ _ => true
  | .contextSave _ _ => true
  | .contextRestore _ => true
  | .scrubSector _ => true
  | .vdEnable _ => true
  | .vdDisable _ => true
  | .reservationInstall _ _ => true
  | .reservationRemove _ _ => true
  | .reservationPeriodStart _ _ => true
  | .budgetExhausted _ _ _ => true
  | .ringTailChange _ _ => true
  | .dependencySatisfied _ _ => true
  | .launchComplete _ => true
  | .launchFaultEnd _ => true
  | .migrationStart _ _ => true
  | .migrationRelease _ _ => true
  | .migrationCopy _ _ => true
  | .migrationSwitch _ _ => true
  | .migrationMoved _ _ => true
  | .migStatClear _ => true
  | .fabricTimeout _ _ => true
  | .peerAccess _ _ _ _ _ _ => true
  | .hostRead _ => true
  | .hostReadOwn _ => true
  | .hostWrite _ _ _ => true
  | .hostSnoop _ _ => true
  | .biasToDevice _ => true
  | .biasToHost _ => true
  | .biasExpose _ => true
  | .biasWithdraw _ => true
  | .biasFlipComplete _ => true
  | .hbStatClear => true
  | .flitRetry _ => true
  | .linkRetrain _ => true
  | .linkTrain _ _ _ _ => true
  | .traceEnable _ => true
  | .traceRetry _ => true
  | .dieWake _ => true
  | .coldStart => true
  | .startStepTimeout _ _ => true
  | .discoveryPacket _ _ => true
  | .bootImageHop _ _ => true
  | .warmStart _ => true
  | .keySlotAssign _ => true
  | .keySlotDiscard _ => true
  | .attestationSign _ => true
  | .registerWrite _ _ => true
  | .xwaitComplete _ => true
  | .diePowerGate _ => true
  | .migrationIncomingMark _ => true
  | .migrationIncomingRelease _ => true
  | .powerLoss => true
  | _ => false

/-- The fields hold values that the encodings admit.  An event has no encoding, so no word stands for it.  TERM may hold any value with
HE = 0 (03 R74; log 64), and RM one of the modes in vpack between integer types too (07 R167; log 96). -/
def fieldsOk : Instr → Bool
  | .add _ _ _ => true
  | .sub _ _ _ => true
  | .addW _ _ _ => true
  | .subW _ _ _ => true
  | .and _ _ _ => true
  | .or _ _ _ => true
  | .xor _ _ _ => true
  | .andn _ _ _ => true
  | .shl _ _ _ => true
  | .shr _ _ _ => true
  | .sar _ _ _ => true
  | .shlW _ _ _ => true
  | .shrW _ _ _ => true
  | .sarW _ _ _ => true
  | .slt _ _ _ => true
  | .sltn _ _ _ => true
  | .min _ _ _ => true
  | .max _ _ _ => true
  | .minn _ _ _ => true
  | .maxn _ _ _ => true
  | .clz _ _ => true
  | .ctz _ _ => true
  | .popc _ _ => true
  | .rev _ _ => true
  | .sextB _ _ => true
  | .sextH _ _ => true
  | .sextW _ _ => true
  | .zextB _ _ => true
  | .zextH _ _ => true
  | .zextW _ _ => true
  | .rol _ _ _ => true
  | .ror _ _ _ => true
  | .addLit _ _ _ => true
  | .subLit _ _ _ => true
  | .addWLit _ _ _ => true
  | .subWLit _ _ _ => true
  | .andLit _ _ _ => true
  | .orLit _ _ _ => true
  | .xorLit _ _ _ => true
  | .andnLit _ _ _ => true
  | .shlLit _ _ _ => true
  | .shrLit _ _ _ => true
  | .sarLit _ _ _ => true
  | .shlWLit _ _ _ => true
  | .shrWLit _ _ _ => true
  | .sarWLit _ _ _ => true
  | .sltLit _ _ _ => true
  | .sltnLit _ _ _ => true
  | .minLit _ _ _ => true
  | .maxLit _ _ _ => true
  | .minnLit _ _ _ => true
  | .maxnLit _ _ _ => true
  | .rolLit _ _ _ => true
  | .rorLit _ _ _ => true
  | .mul _ _ _ => true
  | .mulh _ _ _ => true
  | .mulhn _ _ _ => true
  | .mulW _ _ _ => true
  | .div _ _ _ => true
  | .divn _ _ _ => true
  | .rem _ _ _ => true
  | .remn _ _ _ => true
  | .divW _ _ _ => true
  | .divnW _ _ _ => true
  | .remW _ _ _ => true
  | .remnW _ _ _ => true
  | .mulLit _ _ _ => true
  | .mulhLit _ _ _ => true
  | .mulhnLit _ _ _ => true
  | .mulWLit _ _ _ => true
  | .divLit _ _ _ => true
  | .divnLit _ _ _ => true
  | .remLit _ _ _ => true
  | .remnLit _ _ _ => true
  | .divWLit _ _ _ => true
  | .divnWLit _ _ _ => true
  | .remWLit _ _ _ => true
  | .remnWLit _ _ _ => true
  | .addi _ _ _ => true
  | .addiW _ _ _ => true
  | .andi _ _ _ => true
  | .ori _ _ _ => true
  | .xori _ _ _ => true
  | .slti _ _ _ => true
  | .sltni _ _ _ => true
  | .li _ _ => true
  | .addiLit _ _ _ => true
  | .addiWLit _ _ _ => true
  | .andiLit _ _ _ => true
  | .oriLit _ _ _ => true
  | .xoriLit _ _ _ => true
  | .sltiLit _ _ _ => true
  | .sltniLit _ _ _ => true
  | .liLit _ _ => true
  | .shli _ _ _ => true
  | .shri _ _ _ => true
  | .sari _ _ _ => true
  | .shliW _ _ _ => true
  | .shriW _ _ _ => true
  | .sariW _ _ _ => true
  | .bfx _ _ _ _ => true
  | .bfi _ _ _ _ => true
  | .beq _ _ _ => true
  | .bne _ _ _ => true
  | .blt _ _ _ => true
  | .bge _ _ _ => true
  | .bltn _ _ _ => true
  | .bgen _ _ _ => true
  | .j _ => true
  | .jal _ => true
  | .jr _ => true
  | .jlr _ => true
  | .align _ => true
  | .ldlB _ _ _ => true
  | .ldlH _ _ _ => true
  | .ldlW _ _ _ => true
  | .ldlD _ _ _ => true
  | .ldlBz _ _ _ => true
  | .ldlHz _ _ _ => true
  | .ldlWz _ _ _ => true
  | .stlB _ _ _ => true
  | .stlH _ _ _ => true
  | .stlW _ _ _ => true
  | .stlD _ _ _ => true
  | .rds _ num => Special.assigned num
  | .wrs _ num => Special.writable num
  | .ldB _ _ _ => true
  | .ldH _ _ _ => true
  | .ldW _ _ _ => true
  | .ldD _ _ _ => true
  | .ldBz _ _ _ => true
  | .ldHz _ _ _ => true
  | .ldWz _ _ _ => true
  | .stB _ _ _ => true
  | .stH _ _ _ => true
  | .stW _ _ _ => true
  | .stD _ _ _ => true
  | .amoswap _ _ _ => true
  | .amoadd _ _ _ => true
  | .amoand _ _ _ => true
  | .amoor _ _ _ => true
  | .amoxor _ _ _ => true
  | .amomin _ _ _ => true
  | .amomax _ _ _ => true
  | .amominn _ _ _ => true
  | .amomaxn _ _ _ => true
  | .amoswapW _ _ _ => true
  | .amoaddW _ _ _ => true
  | .amoandW _ _ _ => true
  | .amoorW _ _ _ => true
  | .amoxorW _ _ _ => true
  | .amominW _ _ _ => true
  | .amomaxW _ _ _ => true
  | .amominnW _ _ _ => true
  | .amomaxnW _ _ _ => true
  | .fence kind scope => decide (kind.toNat ≤ 3) && decide (scope.toNat ≤ 4)
  | .fadd _ _ _ _ => true
  | .fsub _ _ _ _ => true
  | .fmul _ _ _ _ => true
  | .fdiv _ _ _ _ => true
  | .fsqrt _ _ _ => true
  | .fmin _ _ _ _ => true
  | .fmax _ _ _ _ => true
  | .fsgn _ _ _ _ => true
  | .fsgnn _ _ _ _ => true
  | .fsgnx _ _ _ _ => true
  | .feq _ _ _ _ => true
  | .flt _ _ _ _ => true
  | .fle _ _ _ _ => true
  | .fclass _ _ _ => true
  | .fcun _ _ _ _ => true
  | .faddLit _ _ _ _ => true
  | .fsubLit _ _ _ _ => true
  | .fmulLit _ _ _ _ => true
  | .fdivLit _ _ _ _ => true
  | .fminLit _ _ _ _ => true
  | .fmaxLit _ _ _ _ => true
  | .fsgnLit _ _ _ _ => true
  | .fsgnnLit _ _ _ _ => true
  | .fsgnxLit _ _ _ _ => true
  | .feqLit _ _ _ _ => true
  | .fltLit _ _ _ _ => true
  | .fleLit _ _ _ _ => true
  | .fcunLit _ _ _ _ => true
  | .trap _ => true
  | .sys _ => true
  | .eret => true
  | .wfi => true
  | .rdtime _ => true
  | .rdcnt _ _ => true
  | .brk _ => true
  | .intx fn _ _ b => IntFn.valid fn && (!IntFn.unary fn || b == ⟨false, 0⟩)
  | .intxLit fn _ _ _ => IntFn.valid fn && !IntFn.unary fn
  | .fma t1 rm _ _ _ _ => Ty.isFp16to64 t1 && decide (rm.toNat ≤ 5)
  | .fms t1 rm _ _ _ _ => Ty.isFp16to64 t1 && decide (rm.toNat ≤ 5)
  | .fnma t1 rm _ _ _ _ => Ty.isFp16to64 t1 && decide (rm.toNat ≤ 5)
  | .fnms t1 rm _ _ _ _ => Ty.isFp16to64 t1 && decide (rm.toNat ≤ 5)
  | .fcvt t1 t2 rm _ _ _ => !(Ty.isInt t1 && Ty.isInt t2) && decide (rm.toNat ≤ 5)
  | .sel _ _ _ _ => true
  | .fround t1 rm _ _ => Ty.isFp16to64 t1 && decide (rm.toNat ≤ 5)
  | .rep cr a nc _ _ _ _ _ => (if cr then nc == 0 else a == ⟨false, 0⟩)
  | .vadd t1 _ _ _ _ _ => Ty.isLane32 t1
  | .vsub t1 _ _ _ _ _ => Ty.isLane32 t1
  | .vmul t1 _ _ _ _ _ => Ty.isLane32 t1
  | .vand t1 _ _ _ _ _ => Ty.isLane32 t1
  | .vor t1 _ _ _ _ _ => Ty.isLane32 t1
  | .vxor t1 _ _ _ _ _ => Ty.isLane32 t1
  | .vshl t1 _ _ _ _ _ => Ty.isLane32 t1
  | .vshr t1 _ _ _ _ _ => Ty.isLane32 t1
  | .vsar t1 _ _ _ _ _ => Ty.isLane32 t1
  | .vmin t1 _ _ _ _ _ => Ty.isLane32 t1
  | .vmax t1 _ _ _ _ _ => Ty.isLane32 t1
  | .vfadd t1 rm _ _ _ _ _ => Ty.isFp16to64 t1 && decide (rm.toNat ≤ 5)
  | .vfsub t1 rm _ _ _ _ _ => Ty.isFp16to64 t1 && decide (rm.toNat ≤ 5)
  | .vfmul t1 rm _ _ _ _ _ => Ty.isFp16to64 t1 && decide (rm.toNat ≤ 5)
  | .vfdiv t1 rm _ _ _ _ _ => Ty.isFp16to64 t1 && decide (rm.toNat ≤ 5)
  | .vfsqrt t1 rm _ _ _ _ => Ty.isFp16to64 t1 && decide (rm.toNat ≤ 5)
  | .vfma t1 rm _ _ _ _ _ _ => Ty.isFp16to64 t1 && decide (rm.toNat ≤ 5)
  | .vfms t1 rm _ _ _ _ _ _ => Ty.isFp16to64 t1 && decide (rm.toNat ≤ 5)
  | .vfnma t1 rm _ _ _ _ _ _ => Ty.isFp16to64 t1 && decide (rm.toNat ≤ 5)
  | .vfmin t1 _ _ _ _ _ => Ty.isFp16to64 t1
  | .vfmax t1 _ _ _ _ _ => Ty.isFp16to64 t1
  | .vfabs t1 _ _ _ _ => Ty.isFp16to64 t1
  | .vfneg t1 _ _ _ _ => Ty.isFp16to64 t1
  | .vceq t1 _ _ d _ _ => Ty.isLane32 t1 && d != 0
  | .vclt t1 _ _ d _ _ => Ty.isLane32 t1 && d != 0
  | .vcle t1 _ _ d _ _ => Ty.isLane32 t1 && d != 0
  | .vcltn t1 _ _ d _ _ => Ty.isLane32 t1 && d != 0
  | .vfeq t1 _ _ d _ _ => Ty.isFp16to64 t1 && d != 0
  | .vflt t1 _ _ d _ _ => Ty.isFp16to64 t1 && d != 0
  | .vfle t1 _ _ d _ _ => Ty.isFp16to64 t1 && d != 0
  | .vfun t1 _ _ d _ _ => Ty.isFp16to64 t1 && d != 0
  | .mand _ _ d _ _ => d != 0
  | .mor _ _ d _ _ => d != 0
  | .mxor _ _ d _ _ => d != 0
  | .mnot _ _ d _ => d != 0
  | .mpop _ d _ => d != 0
  | .mfirst _ d _ => d != 0
  | .vcvt t1 t2 rm _ _ _ _ _ => !(Ty.isInt t1 && Ty.isInt t2) && decide (rm.toNat ≤ 5)
  | .vpack t1 t2 rm _ _ _ _ _ _ => Ty.isPackWide t2 && Ty.isPackNarrow t1 && decide (rm.toNat ≤ 5)
  | .vunpack t1 t2 _ _ d _ => Ty.isPackNarrow t2 && (t1 == 10 || ((t1 == 2 || t1 == 6) && Ty.isInt t2)) && d != 15
  | .vredadd t1 rm _ _ _ => Ty.isFp16to64 t1 && decide (rm.toNat ≤ 5)
  | .vredmax t1 _ _ _ => Ty.isFp16to64 t1
  | .vredmin t1 _ _ _ => Ty.isFp16to64 t1
  | .vredaddi t1 _ _ _ => Ty.isRedInt t1
  | .vperm t1 _ _ _ _ _ => Ty.isElem t1
  | .vbcast t1 _ _ _ _ => Ty.isElem t1
  | .vext t1 _ _ idx => Ty.isElem t1 && decide (idx.toNat < Ty.elems t1)
  | .vins t1 _ _ idx => Ty.isElem t1 && decide (idx.toNat < Ty.elems t1)
  | .vbfly t1 _ _ _ _ x => Ty.isElem t1 && decide (x.toNat < Ty.elems t1)
  | .vslide t1 _ _ _ _ _ sh => Ty.isElem t1 && decide (sh.toNat ≤ Ty.elems t1)
  | .vcmul t1 rm _ _ _ _ _ => (t1 == 8 || t1 == 9 || t1 == 10) && decide (rm.toNat ≤ 5)
  | .vcfma t1 rm _ _ _ _ _ _ => (t1 == 8 || t1 == 9 || t1 == 10) && decide (rm.toNat ≤ 5)
  | .vcconj t1 _ _ _ _ => (t1 == 8 || t1 == 9 || t1 == 10)
  | .vcmulj t1 rm _ _ _ _ _ => (t1 == 8 || t1 == 9 || t1 == 10) && decide (rm.toNat ≤ 5)
  | .vldl t1 _ _ _ _ _ _ => Ty.isElem t1
  | .vstl t1 _ _ _ _ _ => Ty.isElem t1
  | .vgath t1 _ _ _ _ _ _ => Ty.isElem t1
  | .vscat t1 _ _ _ _ _ => Ty.isElem t1
  | .spawn _ _ _ => true
  | .endT => true
  | .yieldT => true
  | .join _ ch => decide (ch.toNat ≤ 39)
  | .leave _ ch => decide (ch.toNat ≤ 39)
  | .stitch _ _ _ => true
  | .unstitch => true
  | .selfT _ sel => decide (sel.toNat ≤ 2)
  | .arrive _ ch => decide (ch.toNat ≤ 39)
  | .arriveb _ _ ch => decide (ch.toNat ≤ 39)
  | .waitT _ => true
  | .btx _ _ ch => decide (ch.toNat ≤ 39)
  | .bpoll _ _ => true
  | .chinit _ _ _ k => decide (k.toNat ≤ 12)
  | .chsend _ _ _ => true
  | .chrecv _ _ _ => true
  | .chpoll _ _ => true
  | .sigdec _ _ _ => true
  | .sigwait _ _ => true
  | .seam _ _ => true
  | .xsend _ _ _ _ => true
  | .xrecv _ _ _ _ => true
  | .xwait _ => true
  | .xend => true
  | .grant _ _ _ _ rights => rights != 0
  | .revoke _ _ _ _ => true
  | .rvsync => true
  | .rchk _ _ _ => true
  | .retire _ _ _ => true
  | .ordadd t1 rm _ _ _ => Ty.isOrd t1 && decide (rm.toNat ≤ 5) && (Ty.isFp t1 || rm == 0)
  | .ordmin t1 _ _ _ => Ty.isOrd t1
  | .ordmax t1 _ _ _ => Ty.isOrd t1
  | .ordswap t1 _ _ _ => Ty.isOrd t1
  | .ordget t1 _ _ => Ty.isOrd t1
  | .cas _ _ _ _ => true
  | .casW _ _ _ _ => true
  | .incw _ _ _ => true
  | .incwW _ _ _ => true
  | .faddb _ _ _ _ _ => true
  | .faddbW _ _ _ _ _ => true
  | .copyGl _ _ _ _ _ _ _ _ => true
  | .copyLg _ _ _ _ _ _ _ _ => true
  | .copyLl _ _ _ _ _ _ _ _ => true
  | .copyGg _ _ _ _ _ _ _ _ => true
  | .cpwait _ => true
  | .cpstat _ sel => decide (sel.toNat % 8 ≤ 4) && decide (sel.toNat < 24)
  | .convE t1 t2 rm _ _ _ _ _ _ _ => !(Ty.isInt t1 && Ty.isInt t2) && decide (rm.toNat ≤ 5)
  | .quant t1 t2 rm sat _ _ _ _ _ _ => (t1 == 0 || Ty.isNarrowFp t1) && (t2 == 8 || t2 == 9 || t2 == 10) && decide (rm.toNat ≤ 5) && (!sat || t1 == 13)
  | .dequant t1 t2 rm _ _ _ _ _ _ => (t1 == 8 || t1 == 9 || t1 == 10) && (t2 == 0 || Ty.isNarrowFp t2) && decide (rm.toNat ≤ 5)
  | .retile t1 t2 rm sat _ _ _ _ _ _ => (t1 == 0 || Ty.isNarrowFp t1) && t2 == t1 && decide (rm.toNat ≤ 5) && (!sat || t1 == 13)
  | .evcfg _ sel => decide (sel.toNat ≤ 24)
  | .evarm _ => true
  | .evwait _ => true
  | .evread _ sel => decide (sel.toNat ≤ 24)
  | .mload _ _ _ _ _ _ => true
  | .mstream _ _ _ _ _ _ _ => true
  | .mstore rm _ _ _ _ _ _ _ _ _ => decide (rm.toNat ≤ 5)
  | .mzero row0 count _ _ _ => decide (1 ≤ count.toNat) && decide (row0.toNat + count.toNat ≤ 256)
  | .msave _ => true
  | .mrest _ => true
  | .mstat _ sel => decide (sel.toNat % 8 ≤ 4)
  | .minj _ _ _ _ => true
  | .bndset _ _ _ => true
  | .bndread _ _ => true
  | .l1wb _ _ => true
  | .l1inv _ _ => true
  | .tlbinv scope _ _ => (scope == 0 || scope == 3)
  | .rlbinv scope _ => (scope == 0 || scope == 3)
  | .snapctl _ _ => true
  | .errlog _ _ _ => true
  | .doubleTrapHandling _ => false
  | .preemptInterrupt _ => false
  | .wfiWake _ => false
  | .alignGather _ => false
  | .stitchForm _ => false
  | .stitchLimitExpiry _ => false
  | .dispatch _ => false
  | .deadlockProbe _ => false
  | .barrierRelease _ _ => false
  | .seamComplete _ => false
  | .xsendInject _ => false
  | .exchArrival _ => false
  | .exchHorizon _ _ => false
  | .xendComplete _ => false
  | .rollback _ => false
  | .dividerChange _ _ => false
  | .postedStoreApply _ => false
  | .tlbShootdownComplete _ => false
  | .shutterComplete _ => false
  | .rlbinvRoundComplete _ => false
  | .rvsyncComplete _ => false
  | .fenceComplete _ => false
  | .cpwaitComplete _ => false
  | .evwaitComplete _ => false
  | .mstatWaitComplete _ => false
  | .l1wbComplete _ => false
  | .transientRequest _ _ => false
  | .transientRequestFail _ => false
  | .persistentRequest _ => false
  | .persistentActivation _ _ => false
  | .persistentDeactivation _ => false
  | .tokenReceipt _ => false
  | .hintUpdate _ => false
  | .regionMerge _ _ _ => false
  | .hbmFill _ => false
  | .sectorReset _ => false
  | .sectorResetEnd _ => false
  | .l2StatClear _ => false
  | .ordWindowApply _ _ => false
  | .ordRecordLand _ => false
  | .ordReannounce _ => false
  | .engineCommandStart _ _ => false
  | .copyElement _ _ => false
  | .convElement _ => false
  | .engineCommandComplete _ _ => false
  | .evTimerPulse _ => false
  | .leaveGrant _ => false
  | .activityPeriodStart _ => false
  | .mxUnitGrant _ => false
  | .mxLoadExec _ => false
  | .mxTileExec _ => false
  | .mxStoreExec _ => false
  | .mxWeightWrite _ _ _ => false
  | .preemptTimeout _ => false
  | .quiesce _ _ => false
  | .contextSave _ _ => false
  | .contextRestore _ => false
  | .scrubSector _ => false
  | .vdEnable _ => false
  | .vdDisable _ => false
  | .reservationInstall _ _ => false
  | .reservationRemove _ _ => false
  | .reservationPeriodStart _ _ => false
  | .budgetExhausted _ _ _ => false
  | .ringTailChange _ _ => false
  | .dependencySatisfied _ _ => false
  | .launchComplete _ => false
  | .launchFaultEnd _ => false
  | .migrationStart _ _ => false
  | .migrationRelease _ _ => false
  | .migrationCopy _ _ => false
  | .migrationSwitch _ _ => false
  | .migrationMoved _ _ => false
  | .migStatClear _ => false
  | .fabricTimeout _ _ => false
  | .peerAccess _ _ _ _ _ _ => false
  | .hostRead _ => false
  | .hostReadOwn _ => false
  | .hostWrite _ _ _ => false
  | .hostSnoop _ _ => false
  | .biasToDevice _ => false
  | .biasToHost _ => false
  | .biasExpose _ => false
  | .biasWithdraw _ => false
  | .biasFlipComplete _ => false
  | .hbStatClear => false
  | .flitRetry _ => false
  | .linkRetrain _ => false
  | .linkTrain _ _ _ _ => false
  | .traceEnable _ => false
  | .traceRetry _ => false
  | .dieWake _ => false
  | .coldStart => false
  | .startStepTimeout _ _ => false
  | .discoveryPacket _ _ => false
  | .bootImageHop _ _ => false
  | .warmStart _ => false
  | .keySlotAssign _ => false
  | .keySlotDiscard _ => false
  | .attestationSign _ => false
  | .registerWrite _ _ => false
  | .xwaitComplete _ => false
  | .diePowerGate _ => false
  | .migrationIncomingMark _ => false
  | .migrationIncomingRelease _ => false
  | .powerLoss => false

end Sys2Proof
end

