-- ==== Sys2Proof/WellFormed.lean ====
section
/-! DEFINITION. Well-formed instructions: those whose fields hold values that the encodings admit (03 R64 to R82).
An ill-formed term stands for no word. -/

namespace Sys2Proof

/-- The instruction has an encoding and its fields hold values that the encoding admits. -/
def Instr.wf (i : Instr) : Bool := fieldsOk i

/-- The row is a step that the module takes by itself, with no encoding (95). -/
def Instr.isEvent (i : Instr) : Bool := isEventRow i

end Sys2Proof
end

