-- ==== Sys2Proof/Decode.lean ====
section
/-! DEFINITION. The decoder and the encoder, from the formats and maps of 03 R59 to R82 and the order of 03 R84. -/

namespace Sys2Proof

/-- The fields of an extended instruction: words 0, 1 and 2 (03 R67). -/
structure XF where
  op : BitVec 6
  sub : BitVec 7
  opt : BitVec 6 := 0
  b : BitVec 6 := 0
  a : BitVec 6 := 0
  d : BitVec 6 := 0
  rm : BitVec 3 := 0
  t2 : BitVec 4 := 0
  t1 : BitVec 4 := 0
  mz : Bool := false
  mask : BitVec 3 := 0
  relC : Bool := false
  relB : Bool := false
  relA : Bool := false
  relD : Bool := false
  c : BitVec 6 := 0
  w2 : BitVec 32 := 0
  deriving DecidableEq, Repr

/-- Word 0 of an extended instruction with length code lc (03 R67). -/
def XF.word0 (x : XF) (lc : BitVec 2) : Word := x.opt ++ x.b ++ x.a ++ x.d ++ x.op ++ lc

/-- Word 1 of an extended instruction (03 R67): SUB, RM, T2, T1, MZ, MK, REL (C, B, A, D), C. -/
def XF.word1 (x : XF) : Word :=
  x.sub ++ x.rm ++ x.t2 ++ x.t1 ++ BitVec.ofBool x.mz ++ x.mask ++ BitVec.ofBool x.relC ++ BitVec.ofBool x.relB
    ++ BitVec.ofBool x.relA ++ BitVec.ofBool x.relD ++ x.c

/-- The three words of an extended instruction, LC = 0b10 (03 R59, R67). -/
def XF.words (x : XF) : List Word := [x.word0 2, x.word1, x.w2]

/-- The five words of an extended instruction with a literal, LC = 0b11 (03 R59, R75). -/
def XF.litWords (x : XF) (lit : DWord) : List Word :=
  [x.word0 3, x.word1, x.w2, lit.extractLsb' 0 32, lit.extractLsb' 32 32]

/-- A base word followed by its literal, bits 31:0 first (03 R60, R66). -/
def litWords (w : Word) (lit : DWord) : List Word := [w, lit.extractLsb' 0 32, lit.extractLsb' 32 32]

/-- The fields that words 0, 1 and 2 hold (03 R67). -/
def XF.of (w0 w1 w2 : Word) : XF where
  op := w0.extractLsb' 2 6
  sub := w1.extractLsb' 25 7
  opt := w0.extractLsb' 26 6
  b := w0.extractLsb' 20 6
  a := w0.extractLsb' 14 6
  d := w0.extractLsb' 8 6
  rm := w1.extractLsb' 22 3
  t2 := w1.extractLsb' 18 4
  t1 := w1.extractLsb' 14 4
  mz := w1.getLsbD 13
  mask := w1.extractLsb' 10 3
  relC := w1.getLsbD 9
  relB := w1.getLsbD 8
  relA := w1.getLsbD 7
  relD := w1.getLsbD 6
  c := w1.extractLsb' 0 6
  w2 := w2

/-- The four operand fields with their REL flags (03 R70). -/
def XF.gD (x : XF) : GOp := ⟨x.relD, x.d⟩
def XF.gA (x : XF) : GOp := ⟨x.relA, x.a⟩
def XF.gB (x : XF) : GOp := ⟨x.relB, x.b⟩
def XF.gC (x : XF) : GOp := ⟨x.relC, x.c⟩

/-- What the base map gives at a major and function: the instruction, and the form with a literal where the map
marks one as accepted (03 R76 to R78). -/
structure Entry where
  plain : Instr
  lit : Option Instr
  deriving DecidableEq, Repr

/-- The words of an instruction, the first at the lowest address (03 R63, R66, R67, R75).  An event has none. -/
def encode : Instr → List Word
  | .add d a b => [0#6 ++ b ++ a ++ d ++ 1#6 ++ 0#2]
  | .sub d a b => [1#6 ++ b ++ a ++ d ++ 1#6 ++ 0#2]
  | .addW d a b => [2#6 ++ b ++ a ++ d ++ 1#6 ++ 0#2]
  | .subW d a b => [3#6 ++ b ++ a ++ d ++ 1#6 ++ 0#2]
  | .and d a b => [4#6 ++ b ++ a ++ d ++ 1#6 ++ 0#2]
  | .or d a b => [5#6 ++ b ++ a ++ d ++ 1#6 ++ 0#2]
  | .xor d a b => [6#6 ++ b ++ a ++ d ++ 1#6 ++ 0#2]
  | .andn d a b => [7#6 ++ b ++ a ++ d ++ 1#6 ++ 0#2]
  | .shl d a b => [8#6 ++ b ++ a ++ d ++ 1#6 ++ 0#2]
  | .shr d a b => [9#6 ++ b ++ a ++ d ++ 1#6 ++ 0#2]
  | .sar d a b => [10#6 ++ b ++ a ++ d ++ 1#6 ++ 0#2]
  | .shlW d a b => [11#6 ++ b ++ a ++ d ++ 1#6 ++ 0#2]
  | .shrW d a b => [12#6 ++ b ++ a ++ d ++ 1#6 ++ 0#2]
  | .sarW d a b => [13#6 ++ b ++ a ++ d ++ 1#6 ++ 0#2]
  | .slt d a b => [14#6 ++ b ++ a ++ d ++ 1#6 ++ 0#2]
  | .sltn d a b => [15#6 ++ b ++ a ++ d ++ 1#6 ++ 0#2]
  | .min d a b => [16#6 ++ b ++ a ++ d ++ 1#6 ++ 0#2]
  | .max d a b => [17#6 ++ b ++ a ++ d ++ 1#6 ++ 0#2]
  | .minn d a b => [18#6 ++ b ++ a ++ d ++ 1#6 ++ 0#2]
  | .maxn d a b => [19#6 ++ b ++ a ++ d ++ 1#6 ++ 0#2]
  | .clz d a => [20#6 ++ 0#6 ++ a ++ d ++ 1#6 ++ 0#2]
  | .ctz d a => [21#6 ++ 0#6 ++ a ++ d ++ 1#6 ++ 0#2]
  | .popc d a => [22#6 ++ 0#6 ++ a ++ d ++ 1#6 ++ 0#2]
  | .rev d a => [23#6 ++ 0#6 ++ a ++ d ++ 1#6 ++ 0#2]
  | .sextB d a => [24#6 ++ 0#6 ++ a ++ d ++ 1#6 ++ 0#2]
  | .sextH d a => [25#6 ++ 0#6 ++ a ++ d ++ 1#6 ++ 0#2]
  | .sextW d a => [26#6 ++ 0#6 ++ a ++ d ++ 1#6 ++ 0#2]
  | .zextB d a => [27#6 ++ 0#6 ++ a ++ d ++ 1#6 ++ 0#2]
  | .zextH d a => [28#6 ++ 0#6 ++ a ++ d ++ 1#6 ++ 0#2]
  | .zextW d a => [29#6 ++ 0#6 ++ a ++ d ++ 1#6 ++ 0#2]
  | .rol d a b => [30#6 ++ b ++ a ++ d ++ 1#6 ++ 0#2]
  | .ror d a b => [31#6 ++ b ++ a ++ d ++ 1#6 ++ 0#2]
  | .addLit d a lit => litWords (0#6 ++ 0#6 ++ a ++ d ++ 1#6 ++ 1#2) lit
  | .subLit d a lit => litWords (1#6 ++ 0#6 ++ a ++ d ++ 1#6 ++ 1#2) lit
  | .addWLit d a lit => litWords (2#6 ++ 0#6 ++ a ++ d ++ 1#6 ++ 1#2) lit
  | .subWLit d a lit => litWords (3#6 ++ 0#6 ++ a ++ d ++ 1#6 ++ 1#2) lit
  | .andLit d a lit => litWords (4#6 ++ 0#6 ++ a ++ d ++ 1#6 ++ 1#2) lit
  | .orLit d a lit => litWords (5#6 ++ 0#6 ++ a ++ d ++ 1#6 ++ 1#2) lit
  | .xorLit d a lit => litWords (6#6 ++ 0#6 ++ a ++ d ++ 1#6 ++ 1#2) lit
  | .andnLit d a lit => litWords (7#6 ++ 0#6 ++ a ++ d ++ 1#6 ++ 1#2) lit
  | .shlLit d a lit => litWords (8#6 ++ 0#6 ++ a ++ d ++ 1#6 ++ 1#2) lit
  | .shrLit d a lit => litWords (9#6 ++ 0#6 ++ a ++ d ++ 1#6 ++ 1#2) lit
  | .sarLit d a lit => litWords (10#6 ++ 0#6 ++ a ++ d ++ 1#6 ++ 1#2) lit
  | .shlWLit d a lit => litWords (11#6 ++ 0#6 ++ a ++ d ++ 1#6 ++ 1#2) lit
  | .shrWLit d a lit => litWords (12#6 ++ 0#6 ++ a ++ d ++ 1#6 ++ 1#2) lit
  | .sarWLit d a lit => litWords (13#6 ++ 0#6 ++ a ++ d ++ 1#6 ++ 1#2) lit
  | .sltLit d a lit => litWords (14#6 ++ 0#6 ++ a ++ d ++ 1#6 ++ 1#2) lit
  | .sltnLit d a lit => litWords (15#6 ++ 0#6 ++ a ++ d ++ 1#6 ++ 1#2) lit
  | .minLit d a lit => litWords (16#6 ++ 0#6 ++ a ++ d ++ 1#6 ++ 1#2) lit
  | .maxLit d a lit => litWords (17#6 ++ 0#6 ++ a ++ d ++ 1#6 ++ 1#2) lit
  | .minnLit d a lit => litWords (18#6 ++ 0#6 ++ a ++ d ++ 1#6 ++ 1#2) lit
  | .maxnLit d a lit => litWords (19#6 ++ 0#6 ++ a ++ d ++ 1#6 ++ 1#2) lit
  | .rolLit d a lit => litWords (30#6 ++ 0#6 ++ a ++ d ++ 1#6 ++ 1#2) lit
  | .rorLit d a lit => litWords (31#6 ++ 0#6 ++ a ++ d ++ 1#6 ++ 1#2) lit
  | .mul d a b => [0#6 ++ b ++ a ++ d ++ 2#6 ++ 0#2]
  | .mulh d a b => [1#6 ++ b ++ a ++ d ++ 2#6 ++ 0#2]
  | .mulhn d a b => [2#6 ++ b ++ a ++ d ++ 2#6 ++ 0#2]
  | .mulW d a b => [3#6 ++ b ++ a ++ d ++ 2#6 ++ 0#2]
  | .div d a b => [4#6 ++ b ++ a ++ d ++ 2#6 ++ 0#2]
  | .divn d a b => [5#6 ++ b ++ a ++ d ++ 2#6 ++ 0#2]
  | .rem d a b => [6#6 ++ b ++ a ++ d ++ 2#6 ++ 0#2]
  | .remn d a b => [7#6 ++ b ++ a ++ d ++ 2#6 ++ 0#2]
  | .divW d a b => [8#6 ++ b ++ a ++ d ++ 2#6 ++ 0#2]
  | .divnW d a b => [9#6 ++ b ++ a ++ d ++ 2#6 ++ 0#2]
  | .remW d a b => [10#6 ++ b ++ a ++ d ++ 2#6 ++ 0#2]
  | .remnW d a b => [11#6 ++ b ++ a ++ d ++ 2#6 ++ 0#2]
  | .mulLit d a lit => litWords (0#6 ++ 0#6 ++ a ++ d ++ 2#6 ++ 1#2) lit
  | .mulhLit d a lit => litWords (1#6 ++ 0#6 ++ a ++ d ++ 2#6 ++ 1#2) lit
  | .mulhnLit d a lit => litWords (2#6 ++ 0#6 ++ a ++ d ++ 2#6 ++ 1#2) lit
  | .mulWLit d a lit => litWords (3#6 ++ 0#6 ++ a ++ d ++ 2#6 ++ 1#2) lit
  | .divLit d a lit => litWords (4#6 ++ 0#6 ++ a ++ d ++ 2#6 ++ 1#2) lit
  | .divnLit d a lit => litWords (5#6 ++ 0#6 ++ a ++ d ++ 2#6 ++ 1#2) lit
  | .remLit d a lit => litWords (6#6 ++ 0#6 ++ a ++ d ++ 2#6 ++ 1#2) lit
  | .remnLit d a lit => litWords (7#6 ++ 0#6 ++ a ++ d ++ 2#6 ++ 1#2) lit
  | .divWLit d a lit => litWords (8#6 ++ 0#6 ++ a ++ d ++ 2#6 ++ 1#2) lit
  | .divnWLit d a lit => litWords (9#6 ++ 0#6 ++ a ++ d ++ 2#6 ++ 1#2) lit
  | .remWLit d a lit => litWords (10#6 ++ 0#6 ++ a ++ d ++ 2#6 ++ 1#2) lit
  | .remnWLit d a lit => litWords (11#6 ++ 0#6 ++ a ++ d ++ 2#6 ++ 1#2) lit
  | .addi d a imm => [imm ++ a ++ d ++ 3#6 ++ 0#2]
  | .addiW d a imm => [imm ++ a ++ d ++ 4#6 ++ 0#2]
  | .andi d a imm => [imm ++ a ++ d ++ 5#6 ++ 0#2]
  | .ori d a imm => [imm ++ a ++ d ++ 6#6 ++ 0#2]
  | .xori d a imm => [imm ++ a ++ d ++ 7#6 ++ 0#2]
  | .slti d a imm => [imm ++ a ++ d ++ 9#6 ++ 0#2]
  | .sltni d a imm => [imm ++ a ++ d ++ 10#6 ++ 0#2]
  | .li d imm => [imm ++ 0#6 ++ d ++ 11#6 ++ 0#2]
  | .addiLit d a lit => litWords (0#12 ++ a ++ d ++ 3#6 ++ 1#2) lit
  | .addiWLit d a lit => litWords (0#12 ++ a ++ d ++ 4#6 ++ 1#2) lit
  | .andiLit d a lit => litWords (0#12 ++ a ++ d ++ 5#6 ++ 1#2) lit
  | .oriLit d a lit => litWords (0#12 ++ a ++ d ++ 6#6 ++ 1#2) lit
  | .xoriLit d a lit => litWords (0#12 ++ a ++ d ++ 7#6 ++ 1#2) lit
  | .sltiLit d a lit => litWords (0#12 ++ a ++ d ++ 9#6 ++ 1#2) lit
  | .sltniLit d a lit => litWords (0#12 ++ a ++ d ++ 10#6 ++ 1#2) lit
  | .liLit d lit => litWords (0#12 ++ 0#6 ++ d ++ 11#6 ++ 1#2) lit
  | .shli d a amt => [0#6 ++ amt ++ a ++ d ++ 8#6 ++ 0#2]
  | .shri d a amt => [1#6 ++ amt ++ a ++ d ++ 8#6 ++ 0#2]
  | .sari d a amt => [2#6 ++ amt ++ a ++ d ++ 8#6 ++ 0#2]
  | .shliW d a amt => [3#6 ++ 0#1 ++ amt ++ a ++ d ++ 8#6 ++ 0#2]
  | .shriW d a amt => [4#6 ++ 0#1 ++ amt ++ a ++ d ++ 8#6 ++ 0#2]
  | .sariW d a amt => [5#6 ++ 0#1 ++ amt ++ a ++ d ++ 8#6 ++ 0#2]
  | .bfx d a p l => [p ++ l ++ a ++ d ++ 12#6 ++ 0#2]
  | .bfi d a p l => [p ++ l ++ a ++ d ++ 13#6 ++ 0#2]
  | .beq a1 a2 off => [off ++ a2 ++ a1 ++ 16#6 ++ 0#2]
  | .bne a1 a2 off => [off ++ a2 ++ a1 ++ 17#6 ++ 0#2]
  | .blt a1 a2 off => [off ++ a2 ++ a1 ++ 18#6 ++ 0#2]
  | .bge a1 a2 off => [off ++ a2 ++ a1 ++ 19#6 ++ 0#2]
  | .bltn a1 a2 off => [off ++ a2 ++ a1 ++ 20#6 ++ 0#2]
  | .bgen a1 a2 off => [off ++ a2 ++ a1 ++ 21#6 ++ 0#2]
  | .j off => [off ++ 22#6 ++ 0#2]
  | .jal off => [off ++ 23#6 ++ 0#2]
  | .jr a => [0#6 ++ 0#6 ++ a ++ 0#6 ++ 24#6 ++ 0#2]
  | .jlr a => [1#6 ++ 0#6 ++ a ++ 0#6 ++ 24#6 ++ 0#2]
  | .align count => [count ++ 0#6 ++ 0#6 ++ 25#6 ++ 0#2]
  | .ldlB d a imm => [imm ++ a ++ d ++ 32#6 ++ 0#2]
  | .ldlH d a imm => [imm ++ a ++ d ++ 33#6 ++ 0#2]
  | .ldlW d a imm => [imm ++ a ++ d ++ 34#6 ++ 0#2]
  | .ldlD d a imm => [imm ++ a ++ d ++ 35#6 ++ 0#2]
  | .ldlBz d a imm => [imm ++ a ++ d ++ 36#6 ++ 0#2]
  | .ldlHz d a imm => [imm ++ a ++ d ++ 37#6 ++ 0#2]
  | .ldlWz d a imm => [imm ++ a ++ d ++ 38#6 ++ 0#2]
  | .stlB d a imm => [imm ++ a ++ d ++ 40#6 ++ 0#2]
  | .stlH d a imm => [imm ++ a ++ d ++ 41#6 ++ 0#2]
  | .stlW d a imm => [imm ++ a ++ d ++ 42#6 ++ 0#2]
  | .stlD d a imm => [imm ++ a ++ d ++ 43#6 ++ 0#2]
  | .rds d num => [num ++ 0#6 ++ d ++ 44#6 ++ 0#2]
  | .wrs a num => [num ++ a ++ 0#6 ++ 45#6 ++ 0#2]
  | .ldB d a imm => [imm ++ a ++ d ++ 48#6 ++ 0#2]
  | .ldH d a imm => [imm ++ a ++ d ++ 49#6 ++ 0#2]
  | .ldW d a imm => [imm ++ a ++ d ++ 50#6 ++ 0#2]
  | .ldD d a imm => [imm ++ a ++ d ++ 51#6 ++ 0#2]
  | .ldBz d a imm => [imm ++ a ++ d ++ 52#6 ++ 0#2]
  | .ldHz d a imm => [imm ++ a ++ d ++ 53#6 ++ 0#2]
  | .ldWz d a imm => [imm ++ a ++ d ++ 54#6 ++ 0#2]
  | .stB d a imm => [imm ++ a ++ d ++ 56#6 ++ 0#2]
  | .stH d a imm => [imm ++ a ++ d ++ 57#6 ++ 0#2]
  | .stW d a imm => [imm ++ a ++ d ++ 58#6 ++ 0#2]
  | .stD d a imm => [imm ++ a ++ d ++ 59#6 ++ 0#2]
  | .amoswap d a b => [0#6 ++ b ++ a ++ d ++ 60#6 ++ 0#2]
  | .amoadd d a b => [1#6 ++ b ++ a ++ d ++ 60#6 ++ 0#2]
  | .amoand d a b => [2#6 ++ b ++ a ++ d ++ 60#6 ++ 0#2]
  | .amoor d a b => [3#6 ++ b ++ a ++ d ++ 60#6 ++ 0#2]
  | .amoxor d a b => [4#6 ++ b ++ a ++ d ++ 60#6 ++ 0#2]
  | .amomin d a b => [5#6 ++ b ++ a ++ d ++ 60#6 ++ 0#2]
  | .amomax d a b => [6#6 ++ b ++ a ++ d ++ 60#6 ++ 0#2]
  | .amominn d a b => [7#6 ++ b ++ a ++ d ++ 60#6 ++ 0#2]
  | .amomaxn d a b => [8#6 ++ b ++ a ++ d ++ 60#6 ++ 0#2]
  | .amoswapW d a b => [16#6 ++ b ++ a ++ d ++ 60#6 ++ 0#2]
  | .amoaddW d a b => [17#6 ++ b ++ a ++ d ++ 60#6 ++ 0#2]
  | .amoandW d a b => [18#6 ++ b ++ a ++ d ++ 60#6 ++ 0#2]
  | .amoorW d a b => [19#6 ++ b ++ a ++ d ++ 60#6 ++ 0#2]
  | .amoxorW d a b => [20#6 ++ b ++ a ++ d ++ 60#6 ++ 0#2]
  | .amominW d a b => [21#6 ++ b ++ a ++ d ++ 60#6 ++ 0#2]
  | .amomaxW d a b => [22#6 ++ b ++ a ++ d ++ 60#6 ++ 0#2]
  | .amominnW d a b => [23#6 ++ b ++ a ++ d ++ 60#6 ++ 0#2]
  | .amomaxnW d a b => [24#6 ++ b ++ a ++ d ++ 60#6 ++ 0#2]
  | .fence kind scope => [0#6 ++ kind ++ scope ++ 0#6 ++ 0#6 ++ 61#6 ++ 0#2]
  | .fadd ty d a b => [0#4 ++ ty ++ b ++ a ++ d ++ 62#6 ++ 0#2]
  | .fsub ty d a b => [1#4 ++ ty ++ b ++ a ++ d ++ 62#6 ++ 0#2]
  | .fmul ty d a b => [2#4 ++ ty ++ b ++ a ++ d ++ 62#6 ++ 0#2]
  | .fdiv ty d a b => [3#4 ++ ty ++ b ++ a ++ d ++ 62#6 ++ 0#2]
  | .fsqrt ty d a => [4#4 ++ ty ++ 0#6 ++ a ++ d ++ 62#6 ++ 0#2]
  | .fmin ty d a b => [5#4 ++ ty ++ b ++ a ++ d ++ 62#6 ++ 0#2]
  | .fmax ty d a b => [6#4 ++ ty ++ b ++ a ++ d ++ 62#6 ++ 0#2]
  | .fsgn ty d a b => [7#4 ++ ty ++ b ++ a ++ d ++ 62#6 ++ 0#2]
  | .fsgnn ty d a b => [8#4 ++ ty ++ b ++ a ++ d ++ 62#6 ++ 0#2]
  | .fsgnx ty d a b => [9#4 ++ ty ++ b ++ a ++ d ++ 62#6 ++ 0#2]
  | .feq ty d a b => [10#4 ++ ty ++ b ++ a ++ d ++ 62#6 ++ 0#2]
  | .flt ty d a b => [11#4 ++ ty ++ b ++ a ++ d ++ 62#6 ++ 0#2]
  | .fle ty d a b => [12#4 ++ ty ++ b ++ a ++ d ++ 62#6 ++ 0#2]
  | .fclass ty d a => [13#4 ++ ty ++ 0#6 ++ a ++ d ++ 62#6 ++ 0#2]
  | .fcun ty d a b => [14#4 ++ ty ++ b ++ a ++ d ++ 62#6 ++ 0#2]
  | .faddLit ty d a lit => litWords (0#4 ++ ty ++ 0#6 ++ a ++ d ++ 62#6 ++ 1#2) lit
  | .fsubLit ty d a lit => litWords (1#4 ++ ty ++ 0#6 ++ a ++ d ++ 62#6 ++ 1#2) lit
  | .fmulLit ty d a lit => litWords (2#4 ++ ty ++ 0#6 ++ a ++ d ++ 62#6 ++ 1#2) lit
  | .fdivLit ty d a lit => litWords (3#4 ++ ty ++ 0#6 ++ a ++ d ++ 62#6 ++ 1#2) lit
  | .fminLit ty d a lit => litWords (5#4 ++ ty ++ 0#6 ++ a ++ d ++ 62#6 ++ 1#2) lit
  | .fmaxLit ty d a lit => litWords (6#4 ++ ty ++ 0#6 ++ a ++ d ++ 62#6 ++ 1#2) lit
  | .fsgnLit ty d a lit => litWords (7#4 ++ ty ++ 0#6 ++ a ++ d ++ 62#6 ++ 1#2) lit
  | .fsgnnLit ty d a lit => litWords (8#4 ++ ty ++ 0#6 ++ a ++ d ++ 62#6 ++ 1#2) lit
  | .fsgnxLit ty d a lit => litWords (9#4 ++ ty ++ 0#6 ++ a ++ d ++ 62#6 ++ 1#2) lit
  | .feqLit ty d a lit => litWords (10#4 ++ ty ++ 0#6 ++ a ++ d ++ 62#6 ++ 1#2) lit
  | .fltLit ty d a lit => litWords (11#4 ++ ty ++ 0#6 ++ a ++ d ++ 62#6 ++ 1#2) lit
  | .fleLit ty d a lit => litWords (12#4 ++ ty ++ 0#6 ++ a ++ d ++ 62#6 ++ 1#2) lit
  | .fcunLit ty d a lit => litWords (14#4 ++ ty ++ 0#6 ++ a ++ d ++ 62#6 ++ 1#2) lit
  | .trap code => [0#6 ++ 0#1 ++ code ++ 0#6 ++ 0#6 ++ 63#6 ++ 0#2]
  | .sys code => [1#6 ++ code ++ 0#6 ++ 0#6 ++ 63#6 ++ 0#2]
  | .eret => [2#6 ++ 0#6 ++ 0#6 ++ 0#6 ++ 63#6 ++ 0#2]
  | .wfi => [3#6 ++ 0#6 ++ 0#6 ++ 0#6 ++ 63#6 ++ 0#2]
  | .rdtime d => [4#6 ++ 0#6 ++ 0#6 ++ d ++ 63#6 ++ 0#2]
  | .rdcnt d code => [5#6 ++ code ++ 0#6 ++ d ++ 63#6 ++ 0#2]
  | .brk code => [6#6 ++ code ++ 0#6 ++ 0#6 ++ 63#6 ++ 0#2]
  | .intx fn d a b => XF.words { op := 2, sub := fn, d := d.n, relD := d.rel, a := a.n, relA := a.rel, b := b.n, relB := b.rel }
  | .intxLit fn d a lit => XF.litWords { op := 2, sub := fn, d := d.n, relD := d.rel, a := a.n, relA := a.rel } lit
  | .fma t1 rm d a b c => XF.words { op := 1, sub := 0, t1 := t1, rm := rm, d := d.n, relD := d.rel, a := a.n, relA := a.rel, b := b.n, relB := b.rel, c := c.n, relC := c.rel }
  | .fms t1 rm d a b c => XF.words { op := 1, sub := 1, t1 := t1, rm := rm, d := d.n, relD := d.rel, a := a.n, relA := a.rel, b := b.n, relB := b.rel, c := c.n, relC := c.rel }
  | .fnma t1 rm d a b c => XF.words { op := 1, sub := 2, t1 := t1, rm := rm, d := d.n, relD := d.rel, a := a.n, relA := a.rel, b := b.n, relB := b.rel, c := c.n, relC := c.rel }
  | .fnms t1 rm d a b c => XF.words { op := 1, sub := 3, t1 := t1, rm := rm, d := d.n, relD := d.rel, a := a.n, relA := a.rel, b := b.n, relB := b.rel, c := c.n, relC := c.rel }
  | .fcvt t1 t2 rm sat d a => XF.words { op := 1, sub := 4, t1 := t1, t2 := t2, rm := rm, opt := 0#5 ++ BitVec.ofBool sat, d := d.n, relD := d.rel, a := a.n, relA := a.rel }
  | .sel d a b c => XF.words { op := 1, sub := 5, d := d.n, relD := d.rel, a := a.n, relA := a.rel, b := b.n, relB := b.rel, c := c.n, relC := c.rel }
  | .fround t1 rm d a => XF.words { op := 1, sub := 6, t1 := t1, rm := rm, d := d.n, relD := d.rel, a := a.n, relA := a.rel }
  | .rep cr a nc len sd sa sb sc => XF.words { op := 3, sub := 0, a := a.n, relA := a.rel, w2 := nc ++ BitVec.ofBool cr ++ 0#3 ++ len ++ sd ++ sa ++ sb ++ sc }
  | .vadd t1 mz mk d a b => XF.words { op := 4, sub := 0, t1 := t1, mz := mz, mask := mk, d := d.setWidth 6, a := a.setWidth 6, b := b.setWidth 6 }
  | .vsub t1 mz mk d a b => XF.words { op := 4, sub := 1, t1 := t1, mz := mz, mask := mk, d := d.setWidth 6, a := a.setWidth 6, b := b.setWidth 6 }
  | .vmul t1 mz mk d a b => XF.words { op := 4, sub := 2, t1 := t1, mz := mz, mask := mk, d := d.setWidth 6, a := a.setWidth 6, b := b.setWidth 6 }
  | .vand t1 mz mk d a b => XF.words { op := 4, sub := 3, t1 := t1, mz := mz, mask := mk, d := d.setWidth 6, a := a.setWidth 6, b := b.setWidth 6 }
  | .vor t1 mz mk d a b => XF.words { op := 4, sub := 4, t1 := t1, mz := mz, mask := mk, d := d.setWidth 6, a := a.setWidth 6, b := b.setWidth 6 }
  | .vxor t1 mz mk d a b => XF.words { op := 4, sub := 5, t1 := t1, mz := mz, mask := mk, d := d.setWidth 6, a := a.setWidth 6, b := b.setWidth 6 }
  | .vshl t1 mz mk d a b => XF.words { op := 4, sub := 6, t1 := t1, mz := mz, mask := mk, d := d.setWidth 6, a := a.setWidth 6, b := b.setWidth 6 }
  | .vshr t1 mz mk d a b => XF.words { op := 4, sub := 7, t1 := t1, mz := mz, mask := mk, d := d.setWidth 6, a := a.setWidth 6, b := b.setWidth 6 }
  | .vsar t1 mz mk d a b => XF.words { op := 4, sub := 8, t1 := t1, mz := mz, mask := mk, d := d.setWidth 6, a := a.setWidth 6, b := b.setWidth 6 }
  | .vmin t1 mz mk d a b => XF.words { op := 4, sub := 9, t1 := t1, mz := mz, mask := mk, d := d.setWidth 6, a := a.setWidth 6, b := b.setWidth 6 }
  | .vmax t1 mz mk d a b => XF.words { op := 4, sub := 10, t1 := t1, mz := mz, mask := mk, d := d.setWidth 6, a := a.setWidth 6, b := b.setWidth 6 }
  | .vfadd t1 rm mz mk d a b => XF.words { op := 5, sub := 0, t1 := t1, rm := rm, mz := mz, mask := mk, d := d.setWidth 6, a := a.setWidth 6, b := b.setWidth 6 }
  | .vfsub t1 rm mz mk d a b => XF.words { op := 5, sub := 1, t1 := t1, rm := rm, mz := mz, mask := mk, d := d.setWidth 6, a := a.setWidth 6, b := b.setWidth 6 }
  | .vfmul t1 rm mz mk d a b => XF.words { op := 5, sub := 2, t1 := t1, rm := rm, mz := mz, mask := mk, d := d.setWidth 6, a := a.setWidth 6, b := b.setWidth 6 }
  | .vfdiv t1 rm mz mk d a b => XF.words { op := 5, sub := 3, t1 := t1, rm := rm, mz := mz, mask := mk, d := d.setWidth 6, a := a.setWidth 6, b := b.setWidth 6 }
  | .vfsqrt t1 rm mz mk d a => XF.words { op := 5, sub := 4, t1 := t1, rm := rm, mz := mz, mask := mk, d := d.setWidth 6, a := a.setWidth 6 }
  | .vfma t1 rm mz mk d a b c => XF.words { op := 5, sub := 5, t1 := t1, rm := rm, mz := mz, mask := mk, d := d.setWidth 6, a := a.setWidth 6, b := b.setWidth 6, c := c.setWidth 6 }
  | .vfms t1 rm mz mk d a b c => XF.words { op := 5, sub := 6, t1 := t1, rm := rm, mz := mz, mask := mk, d := d.setWidth 6, a := a.setWidth 6, b := b.setWidth 6, c := c.setWidth 6 }
  | .vfnma t1 rm mz mk d a b c => XF.words { op := 5, sub := 7, t1 := t1, rm := rm, mz := mz, mask := mk, d := d.setWidth 6, a := a.setWidth 6, b := b.setWidth 6, c := c.setWidth 6 }
  | .vfmin t1 mz mk d a b => XF.words { op := 5, sub := 8, t1 := t1, mz := mz, mask := mk, d := d.setWidth 6, a := a.setWidth 6, b := b.setWidth 6 }
  | .vfmax t1 mz mk d a b => XF.words { op := 5, sub := 9, t1 := t1, mz := mz, mask := mk, d := d.setWidth 6, a := a.setWidth 6, b := b.setWidth 6 }
  | .vfabs t1 mz mk d a => XF.words { op := 5, sub := 10, t1 := t1, mz := mz, mask := mk, d := d.setWidth 6, a := a.setWidth 6 }
  | .vfneg t1 mz mk d a => XF.words { op := 5, sub := 11, t1 := t1, mz := mz, mask := mk, d := d.setWidth 6, a := a.setWidth 6 }
  | .vceq t1 mz mk d a b => XF.words { op := 6, sub := 0, t1 := t1, mz := mz, mask := mk, d := d.setWidth 6, a := a.setWidth 6, b := b.setWidth 6 }
  | .vclt t1 mz mk d a b => XF.words { op := 6, sub := 1, t1 := t1, mz := mz, mask := mk, d := d.setWidth 6, a := a.setWidth 6, b := b.setWidth 6 }
  | .vcle t1 mz mk d a b => XF.words { op := 6, sub := 2, t1 := t1, mz := mz, mask := mk, d := d.setWidth 6, a := a.setWidth 6, b := b.setWidth 6 }
  | .vcltn t1 mz mk d a b => XF.words { op := 6, sub := 3, t1 := t1, mz := mz, mask := mk, d := d.setWidth 6, a := a.setWidth 6, b := b.setWidth 6 }
  | .vfeq t1 mz mk d a b => XF.words { op := 6, sub := 4, t1 := t1, mz := mz, mask := mk, d := d.setWidth 6, a := a.setWidth 6, b := b.setWidth 6 }
  | .vflt t1 mz mk d a b => XF.words { op := 6, sub := 5, t1 := t1, mz := mz, mask := mk, d := d.setWidth 6, a := a.setWidth 6, b := b.setWidth 6 }
  | .vfle t1 mz mk d a b => XF.words { op := 6, sub := 6, t1 := t1, mz := mz, mask := mk, d := d.setWidth 6, a := a.setWidth 6, b := b.setWidth 6 }
  | .vfun t1 mz mk d a b => XF.words { op := 6, sub := 7, t1 := t1, mz := mz, mask := mk, d := d.setWidth 6, a := a.setWidth 6, b := b.setWidth 6 }
  | .mand mz mk d a b => XF.words { op := 6, sub := 8, mz := mz, mask := mk, d := d.setWidth 6, a := a.setWidth 6, b := b.setWidth 6 }
  | .mor mz mk d a b => XF.words { op := 6, sub := 9, mz := mz, mask := mk, d := d.setWidth 6, a := a.setWidth 6, b := b.setWidth 6 }
  | .mxor mz mk d a b => XF.words { op := 6, sub := 10, mz := mz, mask := mk, d := d.setWidth 6, a := a.setWidth 6, b := b.setWidth 6 }
  | .mnot mz mk d a => XF.words { op := 6, sub := 11, mz := mz, mask := mk, d := d.setWidth 6, a := a.setWidth 6 }
  | .mpop mk d a => XF.words { op := 6, sub := 12, mask := mk, d := d.setWidth 6, a := a.setWidth 6 }
  | .mfirst mk d a => XF.words { op := 6, sub := 13, mask := mk, d := d.setWidth 6, a := a.setWidth 6 }
  | .vcvt t1 t2 rm sat mz mk d a => XF.words { op := 7, sub := 0, t1 := t1, t2 := t2, rm := rm, opt := 0#5 ++ BitVec.ofBool sat, mz := mz, mask := mk, d := d.setWidth 6, a := a.setWidth 6 }
  | .vpack t1 t2 rm sat mz mk d a b => XF.words { op := 7, sub := 1, t1 := t1, t2 := t2, rm := rm, opt := 0#5 ++ BitVec.ofBool sat, mz := mz, mask := mk, d := d.setWidth 6, a := a.setWidth 6, b := b.setWidth 6 }
  | .vunpack t1 t2 mz mk d a => XF.words { op := 7, sub := 2, t1 := t1, t2 := t2, mz := mz, mask := mk, d := d.setWidth 6, a := a.setWidth 6 }
  | .vredadd t1 rm mk d a => XF.words { op := 8, sub := 0, t1 := t1, rm := rm, mask := mk, d := d.n, relD := d.rel, a := a.setWidth 6 }
  | .vredmax t1 mk d a => XF.words { op := 8, sub := 1, t1 := t1, mask := mk, d := d.n, relD := d.rel, a := a.setWidth 6 }
  | .vredmin t1 mk d a => XF.words { op := 8, sub := 2, t1 := t1, mask := mk, d := d.n, relD := d.rel, a := a.setWidth 6 }
  | .vredaddi t1 mk d a => XF.words { op := 8, sub := 3, t1 := t1, mask := mk, d := d.n, relD := d.rel, a := a.setWidth 6 }
  | .vperm t1 mz mk d a b => XF.words { op := 9, sub := 0, t1 := t1, mz := mz, mask := mk, d := d.setWidth 6, a := a.setWidth 6, b := b.setWidth 6 }
  | .vbcast t1 mz mk d a => XF.words { op := 9, sub := 1, t1 := t1, mz := mz, mask := mk, d := d.setWidth 6, a := a.n, relA := a.rel }
  | .vext t1 d a idx => XF.words { op := 9, sub := 2, t1 := t1, d := d.n, relD := d.rel, a := a.setWidth 6, w2 := 0#26 ++ idx }
  | .vins t1 d a idx => XF.words { op := 9, sub := 3, t1 := t1, d := d.setWidth 6, a := a.n, relA := a.rel, w2 := 0#26 ++ idx }
  | .vbfly t1 mz mk d a x => XF.words { op := 9, sub := 4, t1 := t1, mz := mz, mask := mk, d := d.setWidth 6, a := a.setWidth 6, w2 := 0#26 ++ x }
  | .vslide t1 mz mk d a b sh => XF.words { op := 9, sub := 5, t1 := t1, mz := mz, mask := mk, d := d.setWidth 6, a := a.setWidth 6, b := b.setWidth 6, w2 := 0#26 ++ sh }
  | .vcmul t1 rm mz mk d a b => XF.words { op := 10, sub := 0, t1 := t1, rm := rm, mz := mz, mask := mk, d := d.setWidth 6, a := a.setWidth 6, b := b.setWidth 6 }
  | .vcfma t1 rm mz mk d a b c => XF.words { op := 10, sub := 1, t1 := t1, rm := rm, mz := mz, mask := mk, d := d.setWidth 6, a := a.setWidth 6, b := b.setWidth 6, c := c.setWidth 6 }
  | .vcconj t1 mz mk d a => XF.words { op := 10, sub := 2, t1 := t1, mz := mz, mask := mk, d := d.setWidth 6, a := a.setWidth 6 }
  | .vcmulj t1 rm mz mk d a b => XF.words { op := 10, sub := 3, t1 := t1, rm := rm, mz := mz, mask := mk, d := d.setWidth 6, a := a.setWidth 6, b := b.setWidth 6 }
  | .vldl t1 mz mk d a b off => XF.words { op := 11, sub := 0, t1 := t1, mz := mz, mask := mk, d := d.setWidth 6, a := a.n, relA := a.rel, b := b.n, relB := b.rel, w2 := off }
  | .vstl t1 mk d a b off => XF.words { op := 11, sub := 1, t1 := t1, mask := mk, d := d.setWidth 6, a := a.n, relA := a.rel, b := b.n, relB := b.rel, w2 := off }
  | .vgath t1 mz mk d a b off => XF.words { op := 11, sub := 2, t1 := t1, mz := mz, mask := mk, d := d.setWidth 6, a := a.n, relA := a.rel, b := b.setWidth 6, w2 := off }
  | .vscat t1 mk d a b off => XF.words { op := 11, sub := 3, t1 := t1, mask := mk, d := d.setWidth 6, a := a.n, relA := a.rel, b := b.setWidth 6, w2 := off }
  | .spawn d a b => XF.words { op := 16, sub := 0, d := d.n, relD := d.rel, a := a.n, relA := a.rel, b := b.n, relB := b.rel }
  | .endT => XF.words { op := 16, sub := 1 }
  | .yieldT => XF.words { op := 16, sub := 2 }
  | .join d ch => XF.words { op := 16, sub := 3, d := d.n, relD := d.rel, w2 := 0#26 ++ ch }
  | .leave d ch => XF.words { op := 16, sub := 4, d := d.n, relD := d.rel, w2 := 0#26 ++ ch }
  | .stitch d a limit => XF.words { op := 16, sub := 5, d := d.n, relD := d.rel, a := a.n, relA := a.rel, w2 := 0#20 ++ limit }
  | .unstitch => XF.words { op := 16, sub := 6 }
  | .selfT d sel => XF.words { op := 16, sub := 7, d := d.n, relD := d.rel, w2 := 0#30 ++ sel }
  | .arrive d ch => XF.words { op := 17, sub := 0, d := d.n, relD := d.rel, w2 := 0#26 ++ ch }
  | .arriveb d a ch => XF.words { op := 17, sub := 1, d := d.n, relD := d.rel, a := a.n, relA := a.rel, w2 := 0#26 ++ ch }
  | .waitT a => XF.words { op := 17, sub := 2, a := a.n, relA := a.rel }
  | .btx d a ch => XF.words { op := 17, sub := 3, d := d.n, relD := d.rel, a := a.n, relA := a.rel, w2 := 0#26 ++ ch }
  | .bpoll d a => XF.words { op := 17, sub := 4, d := d.n, relD := d.rel, a := a.n, relA := a.rel }
  | .chinit a b c k => XF.words { op := 18, sub := 0, a := a.n, relA := a.rel, b := b.n, relB := b.rel, c := c.n, relC := c.rel, w2 := 0#28 ++ k }
  | .chsend d a b => XF.words { op := 18, sub := 1, d := d.n, relD := d.rel, a := a.n, relA := a.rel, b := b.n, relB := b.rel }
  | .chrecv d a b => XF.words { op := 18, sub := 2, d := d.n, relD := d.rel, a := a.n, relA := a.rel, b := b.n, relB := b.rel }
  | .chpoll d a => XF.words { op := 18, sub := 3, d := d.n, relD := d.rel, a := a.n, relA := a.rel }
  | .sigdec d a b => XF.words { op := 19, sub := 0, d := d.n, relD := d.rel, a := a.n, relA := a.rel, b := b.n, relB := b.rel }
  | .sigwait d a => XF.words { op := 19, sub := 1, d := d.n, relD := d.rel, a := a.n, relA := a.rel }
  | .seam d a => XF.words { op := 20, sub := 0, d := d.n, relD := d.rel, a := a.n, relA := a.rel }
  | .xsend a b cyc ln => XF.words { op := 20, sub := 1, a := a.n, relA := a.rel, b := b.n, relB := b.rel, w2 := 0#13 ++ ln ++ cyc }
  | .xrecv a b cyc ln => XF.words { op := 20, sub := 2, a := a.n, relA := a.rel, b := b.n, relB := b.rel, w2 := 0#13 ++ ln ++ cyc }
  | .xwait cyc => XF.words { op := 20, sub := 3, w2 := 0#16 ++ cyc }
  | .xend => XF.words { op := 20, sub := 4 }
  | .grant d a b c rights => XF.words { op := 24, sub := 0, d := d.n, relD := d.rel, a := a.n, relA := a.rel, b := b.n, relB := b.rel, c := c.n, relC := c.rel, w2 := 0#26 ++ rights }
  | .revoke d a b c => XF.words { op := 24, sub := 1, d := d.n, relD := d.rel, a := a.n, relA := a.rel, b := b.n, relB := b.rel, c := c.n, relC := c.rel }
  | .rvsync => XF.words { op := 24, sub := 2 }
  | .rchk d a b => XF.words { op := 24, sub := 3, d := d.n, relD := d.rel, a := a.n, relA := a.rel, b := b.n, relB := b.rel }
  | .retire d a b => XF.words { op := 24, sub := 4, d := d.n, relD := d.rel, a := a.n, relA := a.rel, b := b.n, relB := b.rel }
  | .ordadd t1 rm d a b => XF.words { op := 25, sub := 0, t1 := t1, rm := rm, d := d.n, relD := d.rel, a := a.n, relA := a.rel, b := b.n, relB := b.rel, opt := 6 }
  | .ordmin t1 d a b => XF.words { op := 25, sub := 1, t1 := t1, d := d.n, relD := d.rel, a := a.n, relA := a.rel, b := b.n, relB := b.rel, opt := 6 }
  | .ordmax t1 d a b => XF.words { op := 25, sub := 2, t1 := t1, d := d.n, relD := d.rel, a := a.n, relA := a.rel, b := b.n, relB := b.rel, opt := 6 }
  | .ordswap t1 d a b => XF.words { op := 25, sub := 3, t1 := t1, d := d.n, relD := d.rel, a := a.n, relA := a.rel, b := b.n, relB := b.rel, opt := 6 }
  | .ordget t1 d a => XF.words { op := 25, sub := 4, t1 := t1, d := d.n, relD := d.rel, a := a.n, relA := a.rel, opt := 6 }
  | .cas d a b c => XF.words { op := 26, sub := 0, d := d.n, relD := d.rel, a := a.n, relA := a.rel, b := b.n, relB := b.rel, c := c.n, relC := c.rel }
  | .casW d a b c => XF.words { op := 26, sub := 1, d := d.n, relD := d.rel, a := a.n, relA := a.rel, b := b.n, relB := b.rel, c := c.n, relC := c.rel }
  | .incw d a b => XF.words { op := 26, sub := 2, d := d.n, relD := d.rel, a := a.n, relA := a.rel, b := b.n, relB := b.rel }
  | .incwW d a b => XF.words { op := 26, sub := 3, d := d.n, relD := d.rel, a := a.n, relA := a.rel, b := b.n, relB := b.rel }
  | .faddb d a b c st => XF.words { op := 26, sub := 4, d := d.n, relD := d.rel, a := a.n, relA := a.rel, b := b.n, relB := b.rel, c := c.n, relC := c.rel, w2 := 0#25 ++ BitVec.ofBool st.rel ++ st.n }
  | .faddbW d a b c st => XF.words { op := 26, sub := 5, d := d.n, relD := d.rel, a := a.n, relA := a.rel, b := b.n, relB := b.rel, c := c.n, relC := c.rel, w2 := 0#25 ++ BitVec.ofBool st.rel ++ st.n }
  | .copyGl d a b c term he rs ch => XF.words { op := 32, sub := 0, d := d.n, relD := d.rel, a := a.n, relA := a.rel, b := b.n, relB := b.rel, c := c.n, relC := c.rel, w2 := 0#24 ++ term ++ 0#1 ++ BitVec.ofBool he ++ BitVec.ofBool rs ++ ch }
  | .copyLg d a b c term he rs ch => XF.words { op := 32, sub := 1, d := d.n, relD := d.rel, a := a.n, relA := a.rel, b := b.n, relB := b.rel, c := c.n, relC := c.rel, w2 := 0#24 ++ term ++ 0#1 ++ BitVec.ofBool he ++ BitVec.ofBool rs ++ ch }
  | .copyLl d a b c term he rs ch => XF.words { op := 32, sub := 2, d := d.n, relD := d.rel, a := a.n, relA := a.rel, b := b.n, relB := b.rel, c := c.n, relC := c.rel, w2 := 0#24 ++ term ++ 0#1 ++ BitVec.ofBool he ++ BitVec.ofBool rs ++ ch }
  | .copyGg d a b c term he rs ch => XF.words { op := 32, sub := 3, d := d.n, relD := d.rel, a := a.n, relA := a.rel, b := b.n, relB := b.rel, c := c.n, relC := c.rel, w2 := 0#24 ++ term ++ 0#1 ++ BitVec.ofBool he ++ BitVec.ofBool rs ++ ch }
  | .cpwait sel => XF.words { op := 32, sub := 4, w2 := 0#30 ++ sel }
  | .cpstat d sel => XF.words { op := 32, sub := 5, d := d.n, relD := d.rel, w2 := 0#27 ++ sel }
  | .convE t1 t2 rm sat d a b term he rs => XF.words { op := 33, sub := 0, t1 := t1, t2 := t2, rm := rm, opt := 0#5 ++ BitVec.ofBool sat, d := d.n, relD := d.rel, a := a.n, relA := a.rel, b := b.n, relB := b.rel, w2 := 0#24 ++ term ++ 0#1 ++ BitVec.ofBool he ++ BitVec.ofBool rs ++ 0#1 }
  | .quant t1 t2 rm sat d a b term he rs => XF.words { op := 33, sub := 1, t1 := t1, t2 := t2, rm := rm, opt := 0#5 ++ BitVec.ofBool sat, d := d.n, relD := d.rel, a := a.n, relA := a.rel, b := b.n, relB := b.rel, w2 := 0#24 ++ term ++ 0#1 ++ BitVec.ofBool he ++ BitVec.ofBool rs ++ 0#1 }
  | .dequant t1 t2 rm d a b term he rs => XF.words { op := 33, sub := 2, t1 := t1, t2 := t2, rm := rm, d := d.n, relD := d.rel, a := a.n, relA := a.rel, b := b.n, relB := b.rel, w2 := 0#24 ++ term ++ 0#1 ++ BitVec.ofBool he ++ BitVec.ofBool rs ++ 0#1 }
  | .retile t1 t2 rm sat d a b term he rs => XF.words { op := 33, sub := 3, t1 := t1, t2 := t2, rm := rm, opt := 0#5 ++ BitVec.ofBool sat, d := d.n, relD := d.rel, a := a.n, relA := a.rel, b := b.n, relB := b.rel, w2 := 0#24 ++ term ++ 0#1 ++ BitVec.ofBool he ++ BitVec.ofBool rs ++ 0#1 }
  | .evcfg a sel => XF.words { op := 34, sub := 0, a := a.n, relA := a.rel, w2 := 0#27 ++ sel }
  | .evarm t => XF.words { op := 34, sub := 1, w2 := 0#28 ++ t }
  | .evwait t => XF.words { op := 34, sub := 2, w2 := 0#28 ++ t }
  | .evread d sel => XF.words { op := 34, sub := 3, d := d.n, relD := d.rel, w2 := 0#27 ++ sel }
  | .mload a b tr term he rs => XF.words { op := 35, sub := 0, a := a.n, relA := a.rel, b := b.n, relB := b.rel, w2 := 0#15 ++ BitVec.ofBool tr ++ 0#8 ++ term ++ 0#1 ++ BitVec.ofBool he ++ BitVec.ofBool rs ++ 0#1 }
  | .mstream a b row0 tr term he rs => XF.words { op := 35, sub := 1, a := a.n, relA := a.rel, b := b.n, relB := b.rel, w2 := 0#15 ++ BitVec.ofBool tr ++ row0 ++ term ++ 0#1 ++ BitVec.ofBool he ++ BitVec.ofBool rs ++ 0#1 }
  | .mstore rm a b row0 j be zr term he rs => XF.words { op := 35, sub := 2, rm := rm, a := a.n, relA := a.rel, b := b.n, relB := b.rel, w2 := 0#12 ++ BitVec.ofBool zr ++ BitVec.ofBool be ++ j ++ row0 ++ term ++ 0#1 ++ BitVec.ofBool he ++ BitVec.ofBool rs ++ 0#1 }
  | .mzero row0 count term he rs => XF.words { op := 35, sub := 3, w2 := 0#7 ++ count ++ row0 ++ term ++ 0#1 ++ BitVec.ofBool he ++ BitVec.ofBool rs ++ 0#1 }
  | .msave a => XF.words { op := 35, sub := 4, a := a.n, relA := a.rel }
  | .mrest a => XF.words { op := 35, sub := 5, a := a.n, relA := a.rel }
  | .mstat d sel => XF.words { op := 35, sub := 6, d := d.n, relD := d.rel, w2 := 0#28 ++ sel }
  | .minj row col blk p => XF.words { op := 35, sub := 7, w2 := 0#10 ++ p ++ 0#1 ++ blk ++ col ++ row }
  | .bndset a j act => XF.words { op := 36, sub := 0, a := a.n, relA := a.rel, w2 := 0#26 ++ act ++ 0#2 ++ j }
  | .bndread d sel => XF.words { op := 36, sub := 1, d := d.n, relD := d.rel, w2 := 0#29 ++ sel }
  | .l1wb a b => XF.words { op := 48, sub := 0, a := a.n, relA := a.rel, b := b.n, relB := b.rel }
  | .l1inv a b => XF.words { op := 48, sub := 1, a := a.n, relA := a.rel, b := b.n, relB := b.rel }
  | .tlbinv scope a b => XF.words { op := 48, sub := 2, opt := 0#2 ++ scope ++ 0#1, a := a.n, relA := a.rel, b := b.n, relB := b.rel }
  | .rlbinv scope a => XF.words { op := 48, sub := 3, opt := 0#2 ++ scope ++ 0#1, a := a.n, relA := a.rel }
  | .snapctl d op => XF.words { op := 48, sub := 4, d := d.n, relD := d.rel, w2 := 0#31 ++ op }
  | .errlog a b op => XF.words { op := 48, sub := 5, a := a.n, relA := a.rel, b := b.n, relB := b.rel, w2 := 0#31 ++ op }
  | _ => []

/-- Functions of base major 0x01 (03 R76 to R79). -/
def baseInt (w : Word) (lit : BitVec 64) : Nat → Option Entry
  | 0 => some (.mk (.add (w.extractLsb' 8 6) (w.extractLsb' 14 6) (w.extractLsb' 20 6)) (some (.addLit (w.extractLsb' 8 6) (w.extractLsb' 14 6) lit)))
  | 1 => some (.mk (.sub (w.extractLsb' 8 6) (w.extractLsb' 14 6) (w.extractLsb' 20 6)) (some (.subLit (w.extractLsb' 8 6) (w.extractLsb' 14 6) lit)))
  | 2 => some (.mk (.addW (w.extractLsb' 8 6) (w.extractLsb' 14 6) (w.extractLsb' 20 6)) (some (.addWLit (w.extractLsb' 8 6) (w.extractLsb' 14 6) lit)))
  | 3 => some (.mk (.subW (w.extractLsb' 8 6) (w.extractLsb' 14 6) (w.extractLsb' 20 6)) (some (.subWLit (w.extractLsb' 8 6) (w.extractLsb' 14 6) lit)))
  | 4 => some (.mk (.and (w.extractLsb' 8 6) (w.extractLsb' 14 6) (w.extractLsb' 20 6)) (some (.andLit (w.extractLsb' 8 6) (w.extractLsb' 14 6) lit)))
  | 5 => some (.mk (.or (w.extractLsb' 8 6) (w.extractLsb' 14 6) (w.extractLsb' 20 6)) (some (.orLit (w.extractLsb' 8 6) (w.extractLsb' 14 6) lit)))
  | 6 => some (.mk (.xor (w.extractLsb' 8 6) (w.extractLsb' 14 6) (w.extractLsb' 20 6)) (some (.xorLit (w.extractLsb' 8 6) (w.extractLsb' 14 6) lit)))
  | 7 => some (.mk (.andn (w.extractLsb' 8 6) (w.extractLsb' 14 6) (w.extractLsb' 20 6)) (some (.andnLit (w.extractLsb' 8 6) (w.extractLsb' 14 6) lit)))
  | 8 => some (.mk (.shl (w.extractLsb' 8 6) (w.extractLsb' 14 6) (w.extractLsb' 20 6)) (some (.shlLit (w.extractLsb' 8 6) (w.extractLsb' 14 6) lit)))
  | 9 => some (.mk (.shr (w.extractLsb' 8 6) (w.extractLsb' 14 6) (w.extractLsb' 20 6)) (some (.shrLit (w.extractLsb' 8 6) (w.extractLsb' 14 6) lit)))
  | 10 => some (.mk (.sar (w.extractLsb' 8 6) (w.extractLsb' 14 6) (w.extractLsb' 20 6)) (some (.sarLit (w.extractLsb' 8 6) (w.extractLsb' 14 6) lit)))
  | 11 => some (.mk (.shlW (w.extractLsb' 8 6) (w.extractLsb' 14 6) (w.extractLsb' 20 6)) (some (.shlWLit (w.extractLsb' 8 6) (w.extractLsb' 14 6) lit)))
  | 12 => some (.mk (.shrW (w.extractLsb' 8 6) (w.extractLsb' 14 6) (w.extractLsb' 20 6)) (some (.shrWLit (w.extractLsb' 8 6) (w.extractLsb' 14 6) lit)))
  | 13 => some (.mk (.sarW (w.extractLsb' 8 6) (w.extractLsb' 14 6) (w.extractLsb' 20 6)) (some (.sarWLit (w.extractLsb' 8 6) (w.extractLsb' 14 6) lit)))
  | 14 => some (.mk (.slt (w.extractLsb' 8 6) (w.extractLsb' 14 6) (w.extractLsb' 20 6)) (some (.sltLit (w.extractLsb' 8 6) (w.extractLsb' 14 6) lit)))
  | 15 => some (.mk (.sltn (w.extractLsb' 8 6) (w.extractLsb' 14 6) (w.extractLsb' 20 6)) (some (.sltnLit (w.extractLsb' 8 6) (w.extractLsb' 14 6) lit)))
  | 16 => some (.mk (.min (w.extractLsb' 8 6) (w.extractLsb' 14 6) (w.extractLsb' 20 6)) (some (.minLit (w.extractLsb' 8 6) (w.extractLsb' 14 6) lit)))
  | 17 => some (.mk (.max (w.extractLsb' 8 6) (w.extractLsb' 14 6) (w.extractLsb' 20 6)) (some (.maxLit (w.extractLsb' 8 6) (w.extractLsb' 14 6) lit)))
  | 18 => some (.mk (.minn (w.extractLsb' 8 6) (w.extractLsb' 14 6) (w.extractLsb' 20 6)) (some (.minnLit (w.extractLsb' 8 6) (w.extractLsb' 14 6) lit)))
  | 19 => some (.mk (.maxn (w.extractLsb' 8 6) (w.extractLsb' 14 6) (w.extractLsb' 20 6)) (some (.maxnLit (w.extractLsb' 8 6) (w.extractLsb' 14 6) lit)))
  | 20 => some (.mk (.clz (w.extractLsb' 8 6) (w.extractLsb' 14 6)) none)
  | 21 => some (.mk (.ctz (w.extractLsb' 8 6) (w.extractLsb' 14 6)) none)
  | 22 => some (.mk (.popc (w.extractLsb' 8 6) (w.extractLsb' 14 6)) none)
  | 23 => some (.mk (.rev (w.extractLsb' 8 6) (w.extractLsb' 14 6)) none)
  | 24 => some (.mk (.sextB (w.extractLsb' 8 6) (w.extractLsb' 14 6)) none)
  | 25 => some (.mk (.sextH (w.extractLsb' 8 6) (w.extractLsb' 14 6)) none)
  | 26 => some (.mk (.sextW (w.extractLsb' 8 6) (w.extractLsb' 14 6)) none)
  | 27 => some (.mk (.zextB (w.extractLsb' 8 6) (w.extractLsb' 14 6)) none)
  | 28 => some (.mk (.zextH (w.extractLsb' 8 6) (w.extractLsb' 14 6)) none)
  | 29 => some (.mk (.zextW (w.extractLsb' 8 6) (w.extractLsb' 14 6)) none)
  | 30 => some (.mk (.rol (w.extractLsb' 8 6) (w.extractLsb' 14 6) (w.extractLsb' 20 6)) (some (.rolLit (w.extractLsb' 8 6) (w.extractLsb' 14 6) lit)))
  | 31 => some (.mk (.ror (w.extractLsb' 8 6) (w.extractLsb' 14 6) (w.extractLsb' 20 6)) (some (.rorLit (w.extractLsb' 8 6) (w.extractLsb' 14 6) lit)))
  | _ => none

/-- Functions of base major 0x02 (03 R76 to R79). -/
def baseMulDiv (w : Word) (lit : BitVec 64) : Nat → Option Entry
  | 0 => some (.mk (.mul (w.extractLsb' 8 6) (w.extractLsb' 14 6) (w.extractLsb' 20 6)) (some (.mulLit (w.extractLsb' 8 6) (w.extractLsb' 14 6) lit)))
  | 1 => some (.mk (.mulh (w.extractLsb' 8 6) (w.extractLsb' 14 6) (w.extractLsb' 20 6)) (some (.mulhLit (w.extractLsb' 8 6) (w.extractLsb' 14 6) lit)))
  | 2 => some (.mk (.mulhn (w.extractLsb' 8 6) (w.extractLsb' 14 6) (w.extractLsb' 20 6)) (some (.mulhnLit (w.extractLsb' 8 6) (w.extractLsb' 14 6) lit)))
  | 3 => some (.mk (.mulW (w.extractLsb' 8 6) (w.extractLsb' 14 6) (w.extractLsb' 20 6)) (some (.mulWLit (w.extractLsb' 8 6) (w.extractLsb' 14 6) lit)))
  | 4 => some (.mk (.div (w.extractLsb' 8 6) (w.extractLsb' 14 6) (w.extractLsb' 20 6)) (some (.divLit (w.extractLsb' 8 6) (w.extractLsb' 14 6) lit)))
  | 5 => some (.mk (.divn (w.extractLsb' 8 6) (w.extractLsb' 14 6) (w.extractLsb' 20 6)) (some (.divnLit (w.extractLsb' 8 6) (w.extractLsb' 14 6) lit)))
  | 6 => some (.mk (.rem (w.extractLsb' 8 6) (w.extractLsb' 14 6) (w.extractLsb' 20 6)) (some (.remLit (w.extractLsb' 8 6) (w.extractLsb' 14 6) lit)))
  | 7 => some (.mk (.remn (w.extractLsb' 8 6) (w.extractLsb' 14 6) (w.extractLsb' 20 6)) (some (.remnLit (w.extractLsb' 8 6) (w.extractLsb' 14 6) lit)))
  | 8 => some (.mk (.divW (w.extractLsb' 8 6) (w.extractLsb' 14 6) (w.extractLsb' 20 6)) (some (.divWLit (w.extractLsb' 8 6) (w.extractLsb' 14 6) lit)))
  | 9 => some (.mk (.divnW (w.extractLsb' 8 6) (w.extractLsb' 14 6) (w.extractLsb' 20 6)) (some (.divnWLit (w.extractLsb' 8 6) (w.extractLsb' 14 6) lit)))
  | 10 => some (.mk (.remW (w.extractLsb' 8 6) (w.extractLsb' 14 6) (w.extractLsb' 20 6)) (some (.remWLit (w.extractLsb' 8 6) (w.extractLsb' 14 6) lit)))
  | 11 => some (.mk (.remnW (w.extractLsb' 8 6) (w.extractLsb' 14 6) (w.extractLsb' 20 6)) (some (.remnWLit (w.extractLsb' 8 6) (w.extractLsb' 14 6) lit)))
  | _ => none

/-- Functions of base major 0x08 (03 R76 to R79). -/
def baseShift (w : Word) : Nat → Option Entry
  | 0 => some (.mk (.shli (w.extractLsb' 8 6) (w.extractLsb' 14 6) (w.extractLsb' 20 6)) none)
  | 1 => some (.mk (.shri (w.extractLsb' 8 6) (w.extractLsb' 14 6) (w.extractLsb' 20 6)) none)
  | 2 => some (.mk (.sari (w.extractLsb' 8 6) (w.extractLsb' 14 6) (w.extractLsb' 20 6)) none)
  | 3 => some (.mk (.shliW (w.extractLsb' 8 6) (w.extractLsb' 14 6) (w.extractLsb' 20 5)) none)
  | 4 => some (.mk (.shriW (w.extractLsb' 8 6) (w.extractLsb' 14 6) (w.extractLsb' 20 5)) none)
  | 5 => some (.mk (.sariW (w.extractLsb' 8 6) (w.extractLsb' 14 6) (w.extractLsb' 20 5)) none)
  | _ => none

/-- Functions of base major 0x18 (03 R76 to R79). -/
def baseJr (w : Word) : Nat → Option Entry
  | 0 => some (.mk (.jr (w.extractLsb' 14 6)) none)
  | 1 => some (.mk (.jlr (w.extractLsb' 14 6)) none)
  | _ => none

/-- Functions of base major 0x3C (03 R76 to R79). -/
def baseAmo (w : Word) : Nat → Option Entry
  | 0 => some (.mk (.amoswap (w.extractLsb' 8 6) (w.extractLsb' 14 6) (w.extractLsb' 20 6)) none)
  | 1 => some (.mk (.amoadd (w.extractLsb' 8 6) (w.extractLsb' 14 6) (w.extractLsb' 20 6)) none)
  | 2 => some (.mk (.amoand (w.extractLsb' 8 6) (w.extractLsb' 14 6) (w.extractLsb' 20 6)) none)
  | 3 => some (.mk (.amoor (w.extractLsb' 8 6) (w.extractLsb' 14 6) (w.extractLsb' 20 6)) none)
  | 4 => some (.mk (.amoxor (w.extractLsb' 8 6) (w.extractLsb' 14 6) (w.extractLsb' 20 6)) none)
  | 5 => some (.mk (.amomin (w.extractLsb' 8 6) (w.extractLsb' 14 6) (w.extractLsb' 20 6)) none)
  | 6 => some (.mk (.amomax (w.extractLsb' 8 6) (w.extractLsb' 14 6) (w.extractLsb' 20 6)) none)
  | 7 => some (.mk (.amominn (w.extractLsb' 8 6) (w.extractLsb' 14 6) (w.extractLsb' 20 6)) none)
  | 8 => some (.mk (.amomaxn (w.extractLsb' 8 6) (w.extractLsb' 14 6) (w.extractLsb' 20 6)) none)
  | 16 => some (.mk (.amoswapW (w.extractLsb' 8 6) (w.extractLsb' 14 6) (w.extractLsb' 20 6)) none)
  | 17 => some (.mk (.amoaddW (w.extractLsb' 8 6) (w.extractLsb' 14 6) (w.extractLsb' 20 6)) none)
  | 18 => some (.mk (.amoandW (w.extractLsb' 8 6) (w.extractLsb' 14 6) (w.extractLsb' 20 6)) none)
  | 19 => some (.mk (.amoorW (w.extractLsb' 8 6) (w.extractLsb' 14 6) (w.extractLsb' 20 6)) none)
  | 20 => some (.mk (.amoxorW (w.extractLsb' 8 6) (w.extractLsb' 14 6) (w.extractLsb' 20 6)) none)
  | 21 => some (.mk (.amominW (w.extractLsb' 8 6) (w.extractLsb' 14 6) (w.extractLsb' 20 6)) none)
  | 22 => some (.mk (.amomaxW (w.extractLsb' 8 6) (w.extractLsb' 14 6) (w.extractLsb' 20 6)) none)
  | 23 => some (.mk (.amominnW (w.extractLsb' 8 6) (w.extractLsb' 14 6) (w.extractLsb' 20 6)) none)
  | 24 => some (.mk (.amomaxnW (w.extractLsb' 8 6) (w.extractLsb' 14 6) (w.extractLsb' 20 6)) none)
  | _ => none

/-- Functions of base major 0x3E (03 R76 to R79). -/
def baseFp (w : Word) (lit : BitVec 64) : Nat → Option Entry
  | 0 => some (.mk (.fadd (w.extractLsb' 26 2) (w.extractLsb' 8 6) (w.extractLsb' 14 6) (w.extractLsb' 20 6)) (some (.faddLit (w.extractLsb' 26 2) (w.extractLsb' 8 6) (w.extractLsb' 14 6) lit)))
  | 1 => some (.mk (.fsub (w.extractLsb' 26 2) (w.extractLsb' 8 6) (w.extractLsb' 14 6) (w.extractLsb' 20 6)) (some (.fsubLit (w.extractLsb' 26 2) (w.extractLsb' 8 6) (w.extractLsb' 14 6) lit)))
  | 2 => some (.mk (.fmul (w.extractLsb' 26 2) (w.extractLsb' 8 6) (w.extractLsb' 14 6) (w.extractLsb' 20 6)) (some (.fmulLit (w.extractLsb' 26 2) (w.extractLsb' 8 6) (w.extractLsb' 14 6) lit)))
  | 3 => some (.mk (.fdiv (w.extractLsb' 26 2) (w.extractLsb' 8 6) (w.extractLsb' 14 6) (w.extractLsb' 20 6)) (some (.fdivLit (w.extractLsb' 26 2) (w.extractLsb' 8 6) (w.extractLsb' 14 6) lit)))
  | 4 => some (.mk (.fsqrt (w.extractLsb' 26 2) (w.extractLsb' 8 6) (w.extractLsb' 14 6)) none)
  | 5 => some (.mk (.fmin (w.extractLsb' 26 2) (w.extractLsb' 8 6) (w.extractLsb' 14 6) (w.extractLsb' 20 6)) (some (.fminLit (w.extractLsb' 26 2) (w.extractLsb' 8 6) (w.extractLsb' 14 6) lit)))
  | 6 => some (.mk (.fmax (w.extractLsb' 26 2) (w.extractLsb' 8 6) (w.extractLsb' 14 6) (w.extractLsb' 20 6)) (some (.fmaxLit (w.extractLsb' 26 2) (w.extractLsb' 8 6) (w.extractLsb' 14 6) lit)))
  | 7 => some (.mk (.fsgn (w.extractLsb' 26 2) (w.extractLsb' 8 6) (w.extractLsb' 14 6) (w.extractLsb' 20 6)) (some (.fsgnLit (w.extractLsb' 26 2) (w.extractLsb' 8 6) (w.extractLsb' 14 6) lit)))
  | 8 => some (.mk (.fsgnn (w.extractLsb' 26 2) (w.extractLsb' 8 6) (w.extractLsb' 14 6) (w.extractLsb' 20 6)) (some (.fsgnnLit (w.extractLsb' 26 2) (w.extractLsb' 8 6) (w.extractLsb' 14 6) lit)))
  | 9 => some (.mk (.fsgnx (w.extractLsb' 26 2) (w.extractLsb' 8 6) (w.extractLsb' 14 6) (w.extractLsb' 20 6)) (some (.fsgnxLit (w.extractLsb' 26 2) (w.extractLsb' 8 6) (w.extractLsb' 14 6) lit)))
  | 10 => some (.mk (.feq (w.extractLsb' 26 2) (w.extractLsb' 8 6) (w.extractLsb' 14 6) (w.extractLsb' 20 6)) (some (.feqLit (w.extractLsb' 26 2) (w.extractLsb' 8 6) (w.extractLsb' 14 6) lit)))
  | 11 => some (.mk (.flt (w.extractLsb' 26 2) (w.extractLsb' 8 6) (w.extractLsb' 14 6) (w.extractLsb' 20 6)) (some (.fltLit (w.extractLsb' 26 2) (w.extractLsb' 8 6) (w.extractLsb' 14 6) lit)))
  | 12 => some (.mk (.fle (w.extractLsb' 26 2) (w.extractLsb' 8 6) (w.extractLsb' 14 6) (w.extractLsb' 20 6)) (some (.fleLit (w.extractLsb' 26 2) (w.extractLsb' 8 6) (w.extractLsb' 14 6) lit)))
  | 13 => some (.mk (.fclass (w.extractLsb' 26 2) (w.extractLsb' 8 6) (w.extractLsb' 14 6)) none)
  | 14 => some (.mk (.fcun (w.extractLsb' 26 2) (w.extractLsb' 8 6) (w.extractLsb' 14 6) (w.extractLsb' 20 6)) (some (.fcunLit (w.extractLsb' 26 2) (w.extractLsb' 8 6) (w.extractLsb' 14 6) lit)))
  | _ => none

/-- Functions of base major 0x3F (03 R76 to R79). -/
def baseSys (w : Word) : Nat → Option Entry
  | 0 => some (.mk (.trap (w.extractLsb' 20 5)) none)
  | 1 => some (.mk (.sys (w.extractLsb' 20 6)) none)
  | 2 => some (.mk (.eret) none)
  | 3 => some (.mk (.wfi) none)
  | 4 => some (.mk (.rdtime (w.extractLsb' 8 6)) none)
  | 5 => some (.mk (.rdcnt (w.extractLsb' 8 6) (w.extractLsb' 20 6)) none)
  | 6 => some (.mk (.brk (w.extractLsb' 20 6)) none)
  | _ => none

/-- The base map (03 R76): what the major OP of a word with LC bit 1 = 0 selects. -/
def baseEntry (w : Word) (lit : BitVec 64) : Nat → Option Entry
  | 1 => baseInt w lit (w.extractLsb' 26 6).toNat
  | 2 => baseMulDiv w lit (w.extractLsb' 26 6).toNat
  | 3 => some (.mk (.addi (w.extractLsb' 8 6) (w.extractLsb' 14 6) (w.extractLsb' 20 12)) (some (.addiLit (w.extractLsb' 8 6) (w.extractLsb' 14 6) lit)))
  | 4 => some (.mk (.addiW (w.extractLsb' 8 6) (w.extractLsb' 14 6) (w.extractLsb' 20 12)) (some (.addiWLit (w.extractLsb' 8 6) (w.extractLsb' 14 6) lit)))
  | 5 => some (.mk (.andi (w.extractLsb' 8 6) (w.extractLsb' 14 6) (w.extractLsb' 20 12)) (some (.andiLit (w.extractLsb' 8 6) (w.extractLsb' 14 6) lit)))
  | 6 => some (.mk (.ori (w.extractLsb' 8 6) (w.extractLsb' 14 6) (w.extractLsb' 20 12)) (some (.oriLit (w.extractLsb' 8 6) (w.extractLsb' 14 6) lit)))
  | 7 => some (.mk (.xori (w.extractLsb' 8 6) (w.extractLsb' 14 6) (w.extractLsb' 20 12)) (some (.xoriLit (w.extractLsb' 8 6) (w.extractLsb' 14 6) lit)))
  | 8 => baseShift w (w.extractLsb' 26 6).toNat
  | 9 => some (.mk (.slti (w.extractLsb' 8 6) (w.extractLsb' 14 6) (w.extractLsb' 20 12)) (some (.sltiLit (w.extractLsb' 8 6) (w.extractLsb' 14 6) lit)))
  | 10 => some (.mk (.sltni (w.extractLsb' 8 6) (w.extractLsb' 14 6) (w.extractLsb' 20 12)) (some (.sltniLit (w.extractLsb' 8 6) (w.extractLsb' 14 6) lit)))
  | 11 => some (.mk (.li (w.extractLsb' 8 6) (w.extractLsb' 20 12)) (some (.liLit (w.extractLsb' 8 6) lit)))
  | 12 => some (.mk (.bfx (w.extractLsb' 8 6) (w.extractLsb' 14 6) (w.extractLsb' 26 6) (w.extractLsb' 20 6)) none)
  | 13 => some (.mk (.bfi (w.extractLsb' 8 6) (w.extractLsb' 14 6) (w.extractLsb' 26 6) (w.extractLsb' 20 6)) none)
  | 16 => some (.mk (.beq (w.extractLsb' 8 6) (w.extractLsb' 14 6) (w.extractLsb' 20 12)) none)
  | 17 => some (.mk (.bne (w.extractLsb' 8 6) (w.extractLsb' 14 6) (w.extractLsb' 20 12)) none)
  | 18 => some (.mk (.blt (w.extractLsb' 8 6) (w.extractLsb' 14 6) (w.extractLsb' 20 12)) none)
  | 19 => some (.mk (.bge (w.extractLsb' 8 6) (w.extractLsb' 14 6) (w.extractLsb' 20 12)) none)
  | 20 => some (.mk (.bltn (w.extractLsb' 8 6) (w.extractLsb' 14 6) (w.extractLsb' 20 12)) none)
  | 21 => some (.mk (.bgen (w.extractLsb' 8 6) (w.extractLsb' 14 6) (w.extractLsb' 20 12)) none)
  | 22 => some (.mk (.j (w.extractLsb' 8 24)) none)
  | 23 => some (.mk (.jal (w.extractLsb' 8 24)) none)
  | 24 => baseJr w (w.extractLsb' 26 6).toNat
  | 25 => some (.mk (.align (w.extractLsb' 20 12)) none)
  | 32 => some (.mk (.ldlB (w.extractLsb' 8 6) (w.extractLsb' 14 6) (w.extractLsb' 20 12)) none)
  | 33 => some (.mk (.ldlH (w.extractLsb' 8 6) (w.extractLsb' 14 6) (w.extractLsb' 20 12)) none)
  | 34 => some (.mk (.ldlW (w.extractLsb' 8 6) (w.extractLsb' 14 6) (w.extractLsb' 20 12)) none)
  | 35 => some (.mk (.ldlD (w.extractLsb' 8 6) (w.extractLsb' 14 6) (w.extractLsb' 20 12)) none)
  | 36 => some (.mk (.ldlBz (w.extractLsb' 8 6) (w.extractLsb' 14 6) (w.extractLsb' 20 12)) none)
  | 37 => some (.mk (.ldlHz (w.extractLsb' 8 6) (w.extractLsb' 14 6) (w.extractLsb' 20 12)) none)
  | 38 => some (.mk (.ldlWz (w.extractLsb' 8 6) (w.extractLsb' 14 6) (w.extractLsb' 20 12)) none)
  | 40 => some (.mk (.stlB (w.extractLsb' 8 6) (w.extractLsb' 14 6) (w.extractLsb' 20 12)) none)
  | 41 => some (.mk (.stlH (w.extractLsb' 8 6) (w.extractLsb' 14 6) (w.extractLsb' 20 12)) none)
  | 42 => some (.mk (.stlW (w.extractLsb' 8 6) (w.extractLsb' 14 6) (w.extractLsb' 20 12)) none)
  | 43 => some (.mk (.stlD (w.extractLsb' 8 6) (w.extractLsb' 14 6) (w.extractLsb' 20 12)) none)
  | 44 => some (.mk (.rds (w.extractLsb' 8 6) (w.extractLsb' 20 12)) none)
  | 45 => some (.mk (.wrs (w.extractLsb' 14 6) (w.extractLsb' 20 12)) none)
  | 48 => some (.mk (.ldB (w.extractLsb' 8 6) (w.extractLsb' 14 6) (w.extractLsb' 20 12)) none)
  | 49 => some (.mk (.ldH (w.extractLsb' 8 6) (w.extractLsb' 14 6) (w.extractLsb' 20 12)) none)
  | 50 => some (.mk (.ldW (w.extractLsb' 8 6) (w.extractLsb' 14 6) (w.extractLsb' 20 12)) none)
  | 51 => some (.mk (.ldD (w.extractLsb' 8 6) (w.extractLsb' 14 6) (w.extractLsb' 20 12)) none)
  | 52 => some (.mk (.ldBz (w.extractLsb' 8 6) (w.extractLsb' 14 6) (w.extractLsb' 20 12)) none)
  | 53 => some (.mk (.ldHz (w.extractLsb' 8 6) (w.extractLsb' 14 6) (w.extractLsb' 20 12)) none)
  | 54 => some (.mk (.ldWz (w.extractLsb' 8 6) (w.extractLsb' 14 6) (w.extractLsb' 20 12)) none)
  | 56 => some (.mk (.stB (w.extractLsb' 8 6) (w.extractLsb' 14 6) (w.extractLsb' 20 12)) none)
  | 57 => some (.mk (.stH (w.extractLsb' 8 6) (w.extractLsb' 14 6) (w.extractLsb' 20 12)) none)
  | 58 => some (.mk (.stW (w.extractLsb' 8 6) (w.extractLsb' 14 6) (w.extractLsb' 20 12)) none)
  | 59 => some (.mk (.stD (w.extractLsb' 8 6) (w.extractLsb' 14 6) (w.extractLsb' 20 12)) none)
  | 60 => baseAmo w (w.extractLsb' 26 6).toNat
  | 61 => some (.mk (.fence (w.extractLsb' 23 3) (w.extractLsb' 20 3)) none)
  | 62 => baseFp w lit (w.extractLsb' 28 4).toNat
  | 63 => baseSys w (w.extractLsb' 26 6).toNat
  | _ => none

/-- Sub-functions of extended major 0x01 (03 R80). -/
def extFpx (x : XF) : Nat → Option Instr
  | 0 => some (.fma x.t1 x.rm x.gD x.gA x.gB x.gC)
  | 1 => some (.fms x.t1 x.rm x.gD x.gA x.gB x.gC)
  | 2 => some (.fnma x.t1 x.rm x.gD x.gA x.gB x.gC)
  | 3 => some (.fnms x.t1 x.rm x.gD x.gA x.gB x.gC)
  | 4 => some (.fcvt x.t1 x.t2 x.rm (x.opt.getLsbD 0) x.gD x.gA)
  | 5 => some (.sel x.gD x.gA x.gB x.gC)
  | 6 => some (.fround x.t1 x.rm x.gD x.gA)
  | _ => none

/-- Sub-functions of extended major 0x03 (03 R80). -/
def extRep (x : XF) : Nat → Option Instr
  | 0 => some (.rep (x.w2.getLsbD 19) x.gA (x.w2.extractLsb' 20 12) (x.w2.extractLsb' 12 4) (x.w2.extractLsb' 9 3) (x.w2.extractLsb' 6 3) (x.w2.extractLsb' 3 3) (x.w2.extractLsb' 0 3))
  | _ => none

/-- Sub-functions of extended major 0x04 (03 R80). -/
def extValu (x : XF) : Nat → Option Instr
  | 0 => some (.vadd x.t1 x.mz x.mask (x.d.setWidth 4) (x.a.setWidth 4) (x.b.setWidth 4))
  | 1 => some (.vsub x.t1 x.mz x.mask (x.d.setWidth 4) (x.a.setWidth 4) (x.b.setWidth 4))
  | 2 => some (.vmul x.t1 x.mz x.mask (x.d.setWidth 4) (x.a.setWidth 4) (x.b.setWidth 4))
  | 3 => some (.vand x.t1 x.mz x.mask (x.d.setWidth 4) (x.a.setWidth 4) (x.b.setWidth 4))
  | 4 => some (.vor x.t1 x.mz x.mask (x.d.setWidth 4) (x.a.setWidth 4) (x.b.setWidth 4))
  | 5 => some (.vxor x.t1 x.mz x.mask (x.d.setWidth 4) (x.a.setWidth 4) (x.b.setWidth 4))
  | 6 => some (.vshl x.t1 x.mz x.mask (x.d.setWidth 4) (x.a.setWidth 4) (x.b.setWidth 4))
  | 7 => some (.vshr x.t1 x.mz x.mask (x.d.setWidth 4) (x.a.setWidth 4) (x.b.setWidth 4))
  | 8 => some (.vsar x.t1 x.mz x.mask (x.d.setWidth 4) (x.a.setWidth 4) (x.b.setWidth 4))
  | 9 => some (.vmin x.t1 x.mz x.mask (x.d.setWidth 4) (x.a.setWidth 4) (x.b.setWidth 4))
  | 10 => some (.vmax x.t1 x.mz x.mask (x.d.setWidth 4) (x.a.setWidth 4) (x.b.setWidth 4))
  | _ => none

/-- Sub-functions of extended major 0x05 (03 R80). -/
def extVfp (x : XF) : Nat → Option Instr
  | 0 => some (.vfadd x.t1 x.rm x.mz x.mask (x.d.setWidth 4) (x.a.setWidth 4) (x.b.setWidth 4))
  | 1 => some (.vfsub x.t1 x.rm x.mz x.mask (x.d.setWidth 4) (x.a.setWidth 4) (x.b.setWidth 4))
  | 2 => some (.vfmul x.t1 x.rm x.mz x.mask (x.d.setWidth 4) (x.a.setWidth 4) (x.b.setWidth 4))
  | 3 => some (.vfdiv x.t1 x.rm x.mz x.mask (x.d.setWidth 4) (x.a.setWidth 4) (x.b.setWidth 4))
  | 4 => some (.vfsqrt x.t1 x.rm x.mz x.mask (x.d.setWidth 4) (x.a.setWidth 4))
  | 5 => some (.vfma x.t1 x.rm x.mz x.mask (x.d.setWidth 4) (x.a.setWidth 4) (x.b.setWidth 4) (x.c.setWidth 4))
  | 6 => some (.vfms x.t1 x.rm x.mz x.mask (x.d.setWidth 4) (x.a.setWidth 4) (x.b.setWidth 4) (x.c.setWidth 4))
  | 7 => some (.vfnma x.t1 x.rm x.mz x.mask (x.d.setWidth 4) (x.a.setWidth 4) (x.b.setWidth 4) (x.c.setWidth 4))
  | 8 => some (.vfmin x.t1 x.mz x.mask (x.d.setWidth 4) (x.a.setWidth 4) (x.b.setWidth 4))
  | 9 => some (.vfmax x.t1 x.mz x.mask (x.d.setWidth 4) (x.a.setWidth 4) (x.b.setWidth 4))
  | 10 => some (.vfabs x.t1 x.mz x.mask (x.d.setWidth 4) (x.a.setWidth 4))
  | 11 => some (.vfneg x.t1 x.mz x.mask (x.d.setWidth 4) (x.a.setWidth 4))
  | _ => none

/-- Sub-functions of extended major 0x06 (03 R80). -/
def extVcmp (x : XF) : Nat → Option Instr
  | 0 => some (.vceq x.t1 x.mz x.mask (x.d.setWidth 3) (x.a.setWidth 4) (x.b.setWidth 4))
  | 1 => some (.vclt x.t1 x.mz x.mask (x.d.setWidth 3) (x.a.setWidth 4) (x.b.setWidth 4))
  | 2 => some (.vcle x.t1 x.mz x.mask (x.d.setWidth 3) (x.a.setWidth 4) (x.b.setWidth 4))
  | 3 => some (.vcltn x.t1 x.mz x.mask (x.d.setWidth 3) (x.a.setWidth 4) (x.b.setWidth 4))
  | 4 => some (.vfeq x.t1 x.mz x.mask (x.d.setWidth 3) (x.a.setWidth 4) (x.b.setWidth 4))
  | 5 => some (.vflt x.t1 x.mz x.mask (x.d.setWidth 3) (x.a.setWidth 4) (x.b.setWidth 4))
  | 6 => some (.vfle x.t1 x.mz x.mask (x.d.setWidth 3) (x.a.setWidth 4) (x.b.setWidth 4))
  | 7 => some (.vfun x.t1 x.mz x.mask (x.d.setWidth 3) (x.a.setWidth 4) (x.b.setWidth 4))
  | 8 => some (.mand x.mz x.mask (x.d.setWidth 3) (x.a.setWidth 3) (x.b.setWidth 3))
  | 9 => some (.mor x.mz x.mask (x.d.setWidth 3) (x.a.setWidth 3) (x.b.setWidth 3))
  | 10 => some (.mxor x.mz x.mask (x.d.setWidth 3) (x.a.setWidth 3) (x.b.setWidth 3))
  | 11 => some (.mnot x.mz x.mask (x.d.setWidth 3) (x.a.setWidth 3))
  | 12 => some (.mpop x.mask (x.d.setWidth 3) (x.a.setWidth 3))
  | 13 => some (.mfirst x.mask (x.d.setWidth 3) (x.a.setWidth 3))
  | _ => none

/-- Sub-functions of extended major 0x07 (03 R80). -/
def extVcvt (x : XF) : Nat → Option Instr
  | 0 => some (.vcvt x.t1 x.t2 x.rm (x.opt.getLsbD 0) x.mz x.mask (x.d.setWidth 4) (x.a.setWidth 4))
  | 1 => some (.vpack x.t1 x.t2 x.rm (x.opt.getLsbD 0) x.mz x.mask (x.d.setWidth 4) (x.a.setWidth 4) (x.b.setWidth 4))
  | 2 => some (.vunpack x.t1 x.t2 x.mz x.mask (x.d.setWidth 4) (x.a.setWidth 4))
  | _ => none

/-- Sub-functions of extended major 0x08 (03 R80). -/
noncomputable def extVred (x : XF) : Nat → Option Instr
  | 0 => some (.vredadd x.t1 x.rm x.mask x.gD (x.a.setWidth 4))
  | 1 => some (.vredmax x.t1 x.mask x.gD (x.a.setWidth 4))
  | 2 => some (.vredmin x.t1 x.mask x.gD (x.a.setWidth 4))
  | 3 => some (.vredaddi x.t1 x.mask x.gD (x.a.setWidth 4))
  | _ => none

/-- Sub-functions of extended major 0x09 (03 R80). -/
noncomputable def extVperm (x : XF) : Nat → Option Instr
  | 0 => some (.vperm x.t1 x.mz x.mask (x.d.setWidth 4) (x.a.setWidth 4) (x.b.setWidth 4))
  | 1 => some (.vbcast x.t1 x.mz x.mask (x.d.setWidth 4) x.gA)
  | 2 => some (.vext x.t1 x.gD (x.a.setWidth 4) (x.w2.extractLsb' 0 6))
  | 3 => some (.vins x.t1 (x.d.setWidth 4) x.gA (x.w2.extractLsb' 0 6))
  | 4 => some (.vbfly x.t1 x.mz x.mask (x.d.setWidth 4) (x.a.setWidth 4) (x.w2.extractLsb' 0 6))
  | 5 => some (.vslide x.t1 x.mz x.mask (x.d.setWidth 4) (x.a.setWidth 4) (x.b.setWidth 4) (x.w2.extractLsb' 0 6))
  | _ => none

/-- Sub-functions of extended major 0x0A (03 R80). -/
noncomputable def extVcplx (x : XF) : Nat → Option Instr
  | 0 => some (.vcmul x.t1 x.rm x.mz x.mask (x.d.setWidth 4) (x.a.setWidth 4) (x.b.setWidth 4))
  | 1 => some (.vcfma x.t1 x.rm x.mz x.mask (x.d.setWidth 4) (x.a.setWidth 4) (x.b.setWidth 4) (x.c.setWidth 4))
  | 2 => some (.vcconj x.t1 x.mz x.mask (x.d.setWidth 4) (x.a.setWidth 4))
  | 3 => some (.vcmulj x.t1 x.rm x.mz x.mask (x.d.setWidth 4) (x.a.setWidth 4) (x.b.setWidth 4))
  | _ => none

/-- Sub-functions of extended major 0x0B (03 R80). -/
noncomputable def extVlocal (x : XF) : Nat → Option Instr
  | 0 => some (.vldl x.t1 x.mz x.mask (x.d.setWidth 4) x.gA x.gB (x.w2.extractLsb' 0 32))
  | 1 => some (.vstl x.t1 x.mask (x.d.setWidth 4) x.gA x.gB (x.w2.extractLsb' 0 32))
  | 2 => some (.vgath x.t1 x.mz x.mask (x.d.setWidth 4) x.gA (x.b.setWidth 4) (x.w2.extractLsb' 0 32))
  | 3 => some (.vscat x.t1 x.mask (x.d.setWidth 4) x.gA (x.b.setWidth 4) (x.w2.extractLsb' 0 32))
  | _ => none

/-- Sub-functions of extended major 0x10 (03 R80). -/
noncomputable def extThread (x : XF) : Nat → Option Instr
  | 0 => some (.spawn x.gD x.gA x.gB)
  | 1 => some (.endT)
  | 2 => some (.yieldT)
  | 3 => some (.join x.gD (x.w2.extractLsb' 0 6))
  | 4 => some (.leave x.gD (x.w2.extractLsb' 0 6))
  | 5 => some (.stitch x.gD x.gA (x.w2.extractLsb' 0 12))
  | 6 => some (.unstitch)
  | 7 => some (.selfT x.gD (x.w2.extractLsb' 0 2))
  | _ => none

/-- Sub-functions of extended major 0x11 (03 R80). -/
noncomputable def extBarrier (x : XF) : Nat → Option Instr
  | 0 => some (.arrive x.gD (x.w2.extractLsb' 0 6))
  | 1 => some (.arriveb x.gD x.gA (x.w2.extractLsb' 0 6))
  | 2 => some (.waitT x.gA)
  | 3 => some (.btx x.gD x.gA (x.w2.extractLsb' 0 6))
  | 4 => some (.bpoll x.gD x.gA)
  | _ => none

/-- Sub-functions of extended major 0x12 (03 R80). -/
noncomputable def extChan (x : XF) : Nat → Option Instr
  | 0 => some (.chinit x.gA x.gB x.gC (x.w2.extractLsb' 0 4))
  | 1 => some (.chsend x.gD x.gA x.gB)
  | 2 => some (.chrecv x.gD x.gA x.gB)
  | 3 => some (.chpoll x.gD x.gA)
  | _ => none

/-- Sub-functions of extended major 0x13 (03 R80). -/
noncomputable def extSignal (x : XF) : Nat → Option Instr
  | 0 => some (.sigdec x.gD x.gA x.gB)
  | 1 => some (.sigwait x.gD x.gA)
  | _ => none

/-- Sub-functions of extended major 0x14 (03 R80). -/
noncomputable def extExch (x : XF) : Nat → Option Instr
  | 0 => some (.seam x.gD x.gA)
  | 1 => some (.xsend x.gA x.gB (x.w2.extractLsb' 0 16) (x.w2.extractLsb' 16 3))
  | 2 => some (.xrecv x.gA x.gB (x.w2.extractLsb' 0 16) (x.w2.extractLsb' 16 3))
  | 3 => some (.xwait (x.w2.extractLsb' 0 16))
  | 4 => some (.xend)
  | _ => none

/-- Sub-functions of extended major 0x18 (03 R80). -/
noncomputable def extRights (x : XF) : Nat → Option Instr
  | 0 => some (.grant x.gD x.gA x.gB x.gC (x.w2.extractLsb' 0 6))
  | 1 => some (.revoke x.gD x.gA x.gB x.gC)
  | 2 => some (.rvsync)
  | 3 => some (.rchk x.gD x.gA x.gB)
  | 4 => some (.retire x.gD x.gA x.gB)
  | _ => none

/-- Sub-functions of extended major 0x19 (03 R80). -/
noncomputable def extOrd (x : XF) : Nat → Option Instr
  | 0 => some (.ordadd x.t1 x.rm x.gD x.gA x.gB)
  | 1 => some (.ordmin x.t1 x.gD x.gA x.gB)
  | 2 => some (.ordmax x.t1 x.gD x.gA x.gB)
  | 3 => some (.ordswap x.t1 x.gD x.gA x.gB)
  | 4 => some (.ordget x.t1 x.gD x.gA)
  | _ => none

/-- Sub-functions of extended major 0x1A (03 R80). -/
noncomputable def extAmox (x : XF) : Nat → Option Instr
  | 0 => some (.cas x.gD x.gA x.gB x.gC)
  | 1 => some (.casW x.gD x.gA x.gB x.gC)
  | 2 => some (.incw x.gD x.gA x.gB)
  | 3 => some (.incwW x.gD x.gA x.gB)
  | 4 => some (.faddb x.gD x.gA x.gB x.gC ⟨x.w2.getLsbD 6, x.w2.extractLsb' 0 6⟩)
  | 5 => some (.faddbW x.gD x.gA x.gB x.gC ⟨x.w2.getLsbD 6, x.w2.extractLsb' 0 6⟩)
  | _ => none

/-- Sub-functions of extended major 0x20 (03 R80). -/
noncomputable def extCopy (x : XF) : Nat → Option Instr
  | 0 => some (.copyGl x.gD x.gA x.gB x.gC (x.w2.extractLsb' 4 4) (x.w2.getLsbD 2) (x.w2.getLsbD 1) (x.w2.extractLsb' 0 1))
  | 1 => some (.copyLg x.gD x.gA x.gB x.gC (x.w2.extractLsb' 4 4) (x.w2.getLsbD 2) (x.w2.getLsbD 1) (x.w2.extractLsb' 0 1))
  | 2 => some (.copyLl x.gD x.gA x.gB x.gC (x.w2.extractLsb' 4 4) (x.w2.getLsbD 2) (x.w2.getLsbD 1) (x.w2.extractLsb' 0 1))
  | 3 => some (.copyGg x.gD x.gA x.gB x.gC (x.w2.extractLsb' 4 4) (x.w2.getLsbD 2) (x.w2.getLsbD 1) (x.w2.extractLsb' 0 1))
  | 4 => some (.cpwait (x.w2.extractLsb' 0 2))
  | 5 => some (.cpstat x.gD (x.w2.extractLsb' 0 5))
  | _ => none

/-- Sub-functions of extended major 0x21 (03 R80). -/
noncomputable def extConv (x : XF) : Nat → Option Instr
  | 0 => some (.convE x.t1 x.t2 x.rm (x.opt.getLsbD 0) x.gD x.gA x.gB (x.w2.extractLsb' 4 4) (x.w2.getLsbD 2) (x.w2.getLsbD 1))
  | 1 => some (.quant x.t1 x.t2 x.rm (x.opt.getLsbD 0) x.gD x.gA x.gB (x.w2.extractLsb' 4 4) (x.w2.getLsbD 2) (x.w2.getLsbD 1))
  | 2 => some (.dequant x.t1 x.t2 x.rm x.gD x.gA x.gB (x.w2.extractLsb' 4 4) (x.w2.getLsbD 2) (x.w2.getLsbD 1))
  | 3 => some (.retile x.t1 x.t2 x.rm (x.opt.getLsbD 0) x.gD x.gA x.gB (x.w2.extractLsb' 4 4) (x.w2.getLsbD 2) (x.w2.getLsbD 1))
  | _ => none

/-- Sub-functions of extended major 0x22 (03 R80). -/
noncomputable def extEvx (x : XF) : Nat → Option Instr
  | 0 => some (.evcfg x.gA (x.w2.extractLsb' 0 5))
  | 1 => some (.evarm (x.w2.extractLsb' 0 4))
  | 2 => some (.evwait (x.w2.extractLsb' 0 4))
  | 3 => some (.evread x.gD (x.w2.extractLsb' 0 5))
  | _ => none

/-- Sub-functions of extended major 0x23 (03 R80). -/
noncomputable def extMx (x : XF) (cap : Bool) : Nat → Option Instr
  | 0 => some (.mload x.gA x.gB (x.w2.getLsbD 16) (x.w2.extractLsb' 4 4) (x.w2.getLsbD 2) (x.w2.getLsbD 1))
  | 1 => some (.mstream x.gA x.gB (x.w2.extractLsb' 8 8) (x.w2.getLsbD 16) (x.w2.extractLsb' 4 4) (x.w2.getLsbD 2) (x.w2.getLsbD 1))
  | 2 => some (.mstore x.rm x.gA x.gB (x.w2.extractLsb' 8 8) (x.w2.extractLsb' 16 2) (x.w2.getLsbD 18) (x.w2.getLsbD 19) (x.w2.extractLsb' 4 4) (x.w2.getLsbD 2) (x.w2.getLsbD 1))
  | 3 => some (.mzero (x.w2.extractLsb' 8 8) (x.w2.extractLsb' 16 9) (x.w2.extractLsb' 4 4) (x.w2.getLsbD 2) (x.w2.getLsbD 1))
  | 4 => some (.msave x.gA)
  | 5 => some (.mrest x.gA)
  | 6 => some (.mstat x.gD (x.w2.extractLsb' 0 4))
  | 7 => if cap then some (.minj (x.w2.extractLsb' 0 6) (x.w2.extractLsb' 6 6) (x.w2.extractLsb' 12 3) (x.w2.extractLsb' 16 6)) else none
  | _ => none

/-- Sub-functions of extended major 0x24 (03 R80). -/
noncomputable def extBound (x : XF) : Nat → Option Instr
  | 0 => some (.bndset x.gA (x.w2.extractLsb' 0 2) (x.w2.extractLsb' 4 2))
  | 1 => some (.bndread x.gD (x.w2.extractLsb' 0 3))
  | _ => none

/-- Sub-functions of extended major 0x30 (03 R80). -/
noncomputable def extSysx (x : XF) (cap : Bool) : Nat → Option Instr
  | 0 => some (.l1wb x.gA x.gB)
  | 1 => some (.l1inv x.gA x.gB)
  | 2 => some (.tlbinv (x.opt.extractLsb' 1 3) x.gA x.gB)
  | 3 => some (.rlbinv (x.opt.extractLsb' 1 3) x.gA)
  | 4 => some (.snapctl x.gD (x.w2.extractLsb' 0 1))
  | 5 => if cap then some (.errlog x.gA x.gB (x.w2.extractLsb' 0 1)) else none
  | _ => none

/-- The extended map (03 R80).  cap: the error-injection capability is present (03 R83, 00 R7). -/
noncomputable def extEntry (cap : Bool) (x : XF) : Nat → Option Instr
  | 2 => if IntFn.valid x.sub then some (.intx x.sub x.gD x.gA x.gB) else none
  | 1 => extFpx x x.sub.toNat
  | 3 => extRep x x.sub.toNat
  | 4 => extValu x x.sub.toNat
  | 5 => extVfp x x.sub.toNat
  | 6 => extVcmp x x.sub.toNat
  | 7 => extVcvt x x.sub.toNat
  | 8 => extVred x x.sub.toNat
  | 9 => extVperm x x.sub.toNat
  | 10 => extVcplx x x.sub.toNat
  | 11 => extVlocal x x.sub.toNat
  | 16 => extThread x x.sub.toNat
  | 17 => extBarrier x x.sub.toNat
  | 18 => extChan x x.sub.toNat
  | 19 => extSignal x x.sub.toNat
  | 20 => extExch x x.sub.toNat
  | 24 => extRights x x.sub.toNat
  | 25 => extOrd x x.sub.toNat
  | 26 => extAmox x x.sub.toNat
  | 32 => extCopy x x.sub.toNat
  | 33 => extConv x x.sub.toNat
  | 34 => extEvx x x.sub.toNat
  | 35 => extMx x cap x.sub.toNat
  | 36 => extBound x x.sub.toNat
  | 48 => extSysx x cap x.sub.toNat
  | _ => none
/-- What decoding the words at an address gives: an instruction, or the cause of steps 6 to 8 of 03 R84. -/
inductive Decoded where
  /-- exactly one instruction (03 R86) -/
  | instr (i : Instr)
  /-- ILLEGAL_OPCODE: unassigned major, function, selector or SUB, or an absent feature (03 R84 step 6) -/
  | illegalOpcode
  /-- ILLEGAL_LENGTH: a literal that is not accepted (03 R84 step 7) -/
  | illegalLength
  /-- ILLEGAL_FIELD: a reserved or unused field nonzero, or a value that the field does not admit (03 R84 step 8) -/
  | illegalField
  /-- fewer words than the length code asks for -/
  | short
  deriving DecidableEq, Repr

/-- Step 8 of 03 R84: the candidate read from the fields is the instruction when its own words are those fetched
(so that every unused field is zero) and its fields hold admitted values. -/
def settle (ws : List Word) (i : Instr) : Decoded :=
  if i.wf && encode i == ws then .instr i else .illegalField

/-- The length in words that the length code of a first word gives (03 R59). -/
def lengthOf (w : Word) : Nat :=
  match (w.extractLsb' 0 2).toNat with
  | 0 => 1
  | 1 => 3
  | 2 => 3
  | _ => 5

/-- The major opcode, bits 7:2 of the first word (03 R59). -/
def majorOf (w : Word) : Nat := (w.extractLsb' 2 6).toNat

/-- A base word with LC = 0b00 (03 R63, R76). -/
def decodeBase (w : Word) : Decoded :=
  match baseEntry w 0 (majorOf w) with
  | none => .illegalOpcode
  | some e => settle [w] e.plain

/-- A base word with LC = 0b01 and its literal (03 R66, R76). -/
def decodeBaseLit (w l0 l1 : Word) : Decoded :=
  match baseEntry w (l1 ++ l0) (majorOf w) with
  | none => .illegalOpcode
  | some e =>
    match e.lit with
    | none => .illegalLength
    | some i => settle [w, l0, l1] i

/-- An extended instruction with LC = 0b10 (03 R67, R80). -/
noncomputable def decodeExt (cap : Bool) (w w1 w2 : Word) : Decoded :=
  match extEntry cap (XF.of w w1 w2) (majorOf w) with
  | none => .illegalOpcode
  | some i => settle [w, w1, w2] i

/-- An extended instruction with LC = 0b11: accepted only by the binary functions of INTX (03 R75). -/
noncomputable def decodeExtLit (cap : Bool) (w w1 w2 l0 l1 : Word) : Decoded :=
  match extEntry cap (XF.of w w1 w2) (majorOf w) with
  | none => .illegalOpcode
  | some (.intx fn d a _) =>
    if IntFn.unary fn then .illegalLength else settle [w, w1, w2, l0, l1] (.intxLit fn d a (l1 ++ l0))
  | some _ => .illegalLength

/-- The decoder: the instruction at the start of a list of words, the first at the lowest address, or the cause that
steps 6 to 8 of 03 R84 raise.  cap says whether the error-injection capability is present (03 R83). -/
noncomputable def decode (cap : Bool) : List Word → Decoded
  | [] => .short
  | w :: rest =>
    match (w.extractLsb' 0 2).toNat, rest with
    | 0, _ => decodeBase w
    | 1, l0 :: l1 :: _ => decodeBaseLit w l0 l1
    | 2, w1 :: w2 :: _ => decodeExt cap w w1 w2
    | 3, w1 :: w2 :: l0 :: l1 :: _ => decodeExtLit cap w w1 w2 l0 l1
    | _, _ => .short

/-- Word k of an instruction whose bits are numbered from the least significant bit of its first word. -/
def wordOfNat (w k : Nat) : Word := BitVec.ofNat 32 (w >>> (32 * k))

/-- The instruction that the decoder reads from the bits w of an instruction, nbits of them given, the others 0.
The error-injection capability is taken as present, as State.reset has it. -/
noncomputable def decodeTableWord (nbits w : Nat) : Option Instr :=
  let v := w % 2 ^ nbits
  match decode true [wordOfNat v 0, wordOfNat v 1, wordOfNat v 2, wordOfNat v 3, wordOfNat v 4] with
  | .instr i => some i
  | _ => none

end Sys2Proof
end

