-- ==== Sys2Proof/Machine/Numbers.lean ====
section
/-! DEFINITION. Numbers: the formats, the rounding, the special operands and the flags of 04 R88 to R102, and the
4-bit elements of 04 R108, R109.  Every operation forms its exact value first and rounds once at the end. -/

namespace Sys2Proof.Machine

/-- The five sticky flags in the order of s.fcsr bits 4:0: NV, DZ, OF, UF, NX (04 R103). -/
abbrev Flags := BitVec 5

/-- Invalid operation (04 R103). -/
def flagNV : Flags := 16
/-- Division by zero (04 R103). -/
def flagDZ : Flags := 8
/-- Overflow, which is also inexact (04 R94). -/
def flagOFNX : Flags := 5
/-- Tiny and inexact (04 R95). -/
def flagUFNX : Flags := 3
/-- Inexact (04 R103). -/
def flagNX : Flags := 1
/-- NV when the condition holds (04 R98). -/
def nvIf (b : Bool) : Flags := if b then flagNV else 0

/-- Which codes of the top exponent are special (04 R88). -/
inductive Specials where
  /-- infinities and NaNs as in IEEE 754-2019 -/
  | ieee
  /-- the one NaN code S.1111.111 of E4M3 -/
  | nanTop
  /-- no special code -/
  | none
  deriving DecidableEq, Repr

/-- A floating-point format: exponent and fraction widths, bias, specials, and the significand and the exponent of the
last place of its largest finite value (04 R88). -/
structure Fmt where
  ebits : Nat
  mbits : Nat
  bias : Int
  specials : Specials
  maxSig : Nat
  maxUlp : Int
  deriving DecidableEq, Repr

/-- The format of a floating-point type code (04 R88).  Codes 0 to 7 name no format and are never passed. -/
def fmtOf (t : BitVec 4) : Fmt :=
  match t.toNat with
  | 8 => { ebits := 5, mbits := 10, bias := 15, specials := .ieee, maxSig := 2047, maxUlp := 5 }
  | 9 => { ebits := 8, mbits := 7, bias := 127, specials := .ieee, maxSig := 255, maxUlp := 120 }
  | 10 => { ebits := 8, mbits := 23, bias := 127, specials := .ieee, maxSig := 16777215, maxUlp := 104 }
  | 12 => { ebits := 4, mbits := 3, bias := 7, specials := .nanTop, maxSig := 14, maxUlp := 5 }
  | 13 => { ebits := 5, mbits := 2, bias := 15, specials := .ieee, maxSig := 7, maxUlp := 13 }
  | 14 => { ebits := 3, mbits := 2, bias := 3, specials := .none, maxSig := 7, maxUlp := 2 }
  | 15 => { ebits := 2, mbits := 3, bias := 1, specials := .none, maxSig := 15, maxUlp := -1 }
  | _ => { ebits := 11, mbits := 52, bias := 1023, specials := .ieee, maxSig := 9007199254740991, maxUlp := 971 }

/-- The width in bits of a type (03 R72, 04 R88). -/
def tyWidth (t : BitVec 4) : Nat :=
  match t.toNat with
  | 0 => 8 | 1 => 16 | 2 => 32 | 3 => 64 | 4 => 8 | 5 => 16 | 6 => 32 | 7 => 64
  | 8 => 16 | 9 => 16 | 10 => 32 | 11 => 64 | 12 => 8 | 13 => 8 | _ => 6

/-- The low n bits of a 64-bit value, zero-extended. -/
def lowBits (n : Nat) (x : DWord) : DWord := BitVec.ofNat 64 (x.toNat % 2 ^ n)

/-- The low n bits of x read as two's complement. -/
def signedLow (n : Nat) (x : DWord) : Int :=
  let v := x.toNat % 2 ^ n
  if v < 2 ^ (n - 1) then (v : Int) else (v : Int) - (2 ^ n : Nat)

/-- The value of a bit string in a floating-point format: a NaN, an infinity, or (-1)^neg * sig * 2^exp. -/
inductive FV where
  | nan (signalling : Bool)
  | inf (neg : Bool)
  | fin (neg : Bool) (sig : Nat) (exp : Int)
  deriving DecidableEq, Repr

/-- FP(x) of 01 R29 in a format: 04 R88, R90, R91. -/
def fpValue (f : Fmt) (x : DWord) : FV :=
  let v := x.toNat
  let frac := v % 2 ^ f.mbits
  let e := v / 2 ^ f.mbits % 2 ^ f.ebits
  let neg := decide (v / 2 ^ (f.mbits + f.ebits) % 2 = 1)
  let top := e == 2 ^ f.ebits - 1
  let finite :=
    if e = 0 then FV.fin neg frac (1 - f.bias - f.mbits)
    else FV.fin neg (2 ^ f.mbits + frac) ((e : Int) - f.bias - f.mbits)
  match f.specials with
  | .ieee =>
    if top then (if frac = 0 then .inf neg else .nan (decide (frac < 2 ^ (f.mbits - 1)))) else finite
  | .nanTop => if top && frac == 2 ^ f.mbits - 1 then .nan false else finite
  | .none => finite

/-- FP(x) in the format of a type code. -/
def fp (t : BitVec 4) (x : DWord) : FV := fpValue (fmtOf t) x

/-- A result with the flags it raises. -/
structure FRes where
  bits : DWord
  flags : Flags
  deriving DecidableEq, Repr

/-- The sign bit of a format set over magnitude bits. -/
def withSign (f : Fmt) (neg : Bool) (mag : Nat) : DWord :=
  BitVec.ofNat 64 (mag + (if neg then 2 ^ (f.mbits + f.ebits) else 0))

/-- The canonical NaN of a format (04 R90): exponent all ones and the first fraction bit set, all fraction bits set in
E4M3. E3M2 and E2M3 have none, and a conversion to them gives +0 (04 R100). -/
def canonNaN (f : Fmt) : DWord :=
  match f.specials with
  | .ieee => BitVec.ofNat 64 ((2 ^ f.ebits - 1) * 2 ^ f.mbits + 2 ^ (f.mbits - 1))
  | .nanTop => BitVec.ofNat 64 (2 ^ (f.ebits + f.mbits) - 1)
  | .none => 0

/-- The infinity of an IEEE format. -/
def infBits (f : Fmt) (neg : Bool) : DWord := withSign f neg ((2 ^ f.ebits - 1) * 2 ^ f.mbits)

/-- The exponent of the last place of a subnormal: 1 - bias - m (04 R88). -/
def minUlp (f : Fmt) : Int := 1 - f.bias - f.mbits

/-- Bits of the magnitude n * 2^q, where n is a significand of at most m + 2 bits and q the exponent of its last
place, not below the subnormal spacing. -/
def encodeMag (f : Fmt) (n : Nat) (q : Int) : Nat := (q - minUlp f).toNat * 2 ^ f.mbits + n

/-- The largest finite value with a sign (04 R88). -/
def maxFinite (f : Fmt) (neg : Bool) : DWord := withSign f neg (encodeMag f f.maxSig f.maxUlp)

/-- A rounding mode of 03 R73; codes above 4 never reach a rounding. -/
abbrev RMode := BitVec 3

/-- Whether a magnitude n + r, 0 ≤ r < 1, rounds away from n (04 R93).  above: r > 1/2; tie: r = 1/2; inexact: r > 0. -/
def roundsUp (rm : RMode) (neg : Bool) (n : Nat) (above tie inexact : Bool) : Bool :=
  match rm.toNat with
  | 0 => above || (tie && n % 2 == 1)
  | 1 => false
  | 2 => inexact && !neg
  | 3 => inexact && neg
  | _ => above || tie

/-- The bits of n in binary. -/
def bitLen (n : Nat) : Nat := if n = 0 then 0 else Nat.log2 n + 1

/-- The significand of sig * 2^exp (plus a nonzero amount below its last place when sticky) rounded at the place 2^q,
and whether that is inexact (04 R93). -/
def roundAt (rm : RMode) (neg : Bool) (sig : Nat) (exp : Int) (sticky : Bool) (q : Int) : Nat × Bool :=
  if q ≤ exp then
    let n := sig * 2 ^ (exp - q).toNat
    (if roundsUp rm neg n false false sticky then n + 1 else n, sticky)
  else
    let sh := (q - exp).toNat
    let n := sig / 2 ^ sh
    let r := sig % 2 ^ sh
    let half := 2 ^ (sh - 1)
    let inexact := decide (r ≠ 0) || sticky
    let above := decide (half < r) || (decide (r = half) && sticky)
    let tie := decide (r = half) && !sticky
    (if roundsUp rm neg n above tie inexact then n + 1 else n, inexact)

/-- The result of an overflow (04 R94). -/
def overflowBits (f : Fmt) (rm : RMode) (sat neg : Bool) : DWord :=
  if f.specials ≠ .ieee || sat then maxFinite f neg
  else
    match rm.toNat with
    | 1 => maxFinite f neg
    | 2 => if neg then maxFinite f neg else infBits f neg
    | 3 => if neg then infBits f neg else maxFinite f neg
    | _ => infBits f neg

/-- Round of 01 R29 on a nonzero value: 04 R93 to R95. -/
def roundNonzero (f : Fmt) (rm : RMode) (sat neg : Bool) (sig : Nat) (exp : Int) (sticky : Bool) : FRes :=
  let p : Int := f.mbits + 1
  let qFree : Int := exp + bitLen sig - p
  let q : Int := if qFree < minUlp f then minUlp f else qFree
  let r := roundAt rm neg sig exp sticky q
  if f.maxUlp < q || (q == f.maxUlp && decide (f.maxSig < r.1)) then
    ⟨overflowBits f rm sat neg, flagOFNX⟩
  else
    let below := decide (qFree < minUlp f)
    let carried := decide (qFree = minUlp f - 1) && (roundAt rm neg sig exp sticky qFree).1 == 2 ^ (f.mbits + 1)
    let tiny := below && !carried
    ⟨withSign f neg (encodeMag f r.1 q), if r.2 then (if tiny then flagUFNX else flagNX) else 0⟩

/-- An exact number sig * 2^exp, sig a signed integer. -/
structure Dyadic where
  sig : Int
  exp : Int
  deriving DecidableEq, Repr

/-- The exact sum. -/
def Dyadic.add (x y : Dyadic) : Dyadic :=
  if x.exp ≤ y.exp then ⟨x.sig + y.sig * 2 ^ (y.exp - x.exp).toNat, x.exp⟩
  else ⟨x.sig * 2 ^ (x.exp - y.exp).toNat + y.sig, y.exp⟩

/-- The exact product. -/
def Dyadic.mul (x y : Dyadic) : Dyadic := ⟨x.sig * y.sig, x.exp + y.exp⟩

/-- The exact value with its sign changed. -/
def Dyadic.neg (x : Dyadic) : Dyadic := ⟨-x.sig, x.exp⟩

/-- The exact value of a finite operand. -/
def dyadicOf (neg : Bool) (sig : Nat) (exp : Int) : Dyadic := ⟨if neg then -(sig : Int) else sig, exp⟩

/-- Round of 01 R29; zeroNeg is the sign that an exact zero takes (04 R97). -/
def roundDyadic (f : Fmt) (rm : RMode) (sat : Bool) (y : Dyadic) (zeroNeg : Bool) : FRes :=
  if y.sig = 0 then ⟨withSign f zeroNeg 0, 0⟩
  else roundNonzero f rm sat (decide (y.sig < 0)) y.sig.natAbs y.exp false

/-- The value is a NaN. -/
def FV.isNaN : FV → Bool
  | .nan _ => true
  | _ => false

/-- The value is a signalling NaN (04 R90). -/
def FV.isSNaN : FV → Bool
  | .nan s => s
  | _ => false

/-- The sign bit as a truth value; a NaN's is not used. -/
def FV.sign : FV → Bool
  | .nan _ => false
  | .inf n => n
  | .fin n _ _ => n

/-- The value is a zero of either sign. -/
def FV.isZero : FV → Bool
  | .fin _ 0 _ => true
  | _ => false

/-- The value is an infinity. -/
def FV.isInf : FV → Bool
  | .inf _ => true
  | _ => false

/-- The value with its sign inverted. -/
def FV.negate : FV → FV
  | .nan s => .nan s
  | .inf n => .inf (!n)
  | .fin n m e => .fin (!n) m e

/-- The exact finite value; 0 stands for NaNs and infinities, which are settled before it is asked for. -/
def FV.dyadic : FV → Dyadic
  | .fin n m e => dyadicOf n m e
  | _ => ⟨0, 0⟩

/-- The sign of an exact zero sum of two terms: their common sign, else + except in RD (04 R97). -/
def zeroSumNeg (rm : RMode) (n1 n2 : Bool) : Bool := if n1 = n2 then n1 else rm == 3

/-- Addition of two values (04 R97, R98). -/
def fpAddV (f : Fmt) (rm : RMode) (x y : FV) : FRes :=
  match x, y with
  | .nan a, _ => ⟨canonNaN f, nvIf (a || y.isSNaN)⟩
  | _, .nan b => ⟨canonNaN f, nvIf b⟩
  | .inf a, .inf b => if a = b then ⟨infBits f a, 0⟩ else ⟨canonNaN f, flagNV⟩
  | .inf a, _ => ⟨infBits f a, 0⟩
  | _, .inf b => ⟨infBits f b, 0⟩
  | .fin a m e, .fin b n d =>
    roundDyadic f rm false ((dyadicOf a m e).add (dyadicOf b n d)) (zeroSumNeg rm a b)

/-- Multiplication of two values (04 R97, R98). -/
def fpMulV (f : Fmt) (rm : RMode) (x y : FV) : FRes :=
  match x, y with
  | .nan a, _ => ⟨canonNaN f, nvIf (a || y.isSNaN)⟩
  | _, .nan b => ⟨canonNaN f, nvIf b⟩
  | .inf a, y => if y.isZero then ⟨canonNaN f, flagNV⟩ else ⟨infBits f (a != y.sign), 0⟩
  | x, .inf b => if x.isZero then ⟨canonNaN f, flagNV⟩ else ⟨infBits f (x.sign != b), 0⟩
  | .fin a m e, .fin b n d =>
    roundDyadic f rm false ((dyadicOf a m e).mul (dyadicOf b n d)) (a != b)

/-- Division of two values (04 R97, R98). -/
def fpDivV (f : Fmt) (rm : RMode) (x y : FV) : FRes :=
  match x, y with
  | .nan a, _ => ⟨canonNaN f, nvIf (a || y.isSNaN)⟩
  | _, .nan b => ⟨canonNaN f, nvIf b⟩
  | .inf _, .inf _ => ⟨canonNaN f, flagNV⟩
  | .inf a, y => ⟨infBits f (a != y.sign), 0⟩
  | x, .inf b => ⟨withSign f (x.sign != b) 0, 0⟩
  | .fin a m e, .fin b n d =>
    if n = 0 then
      if m = 0 then ⟨canonNaN f, flagNV⟩ else ⟨infBits f (a != b), flagDZ⟩
    else if m = 0 then ⟨withSign f (a != b) 0, 0⟩
    else
      let k := 64 + bitLen n
      let num := m * 2 ^ k
      roundNonzero f rm false (a != b) (num / n) (e - k - d) (decide (num % n ≠ 0))

/-- The bits of the integer square root of n, from bit k - 1 down, added to r. -/
def isqrtBits (n : Nat) : Nat → Nat → Nat
  | 0, r => r
  | k + 1, r => if (r + 2 ^ k) * (r + 2 ^ k) ≤ n then isqrtBits n k (r + 2 ^ k) else isqrtBits n k r

/-- The integer square root. -/
def isqrt (n : Nat) : Nat := isqrtBits n (bitLen n / 2 + 1) 0

/-- Square root of a value (04 R97, R98; 05 R131). -/
def fpSqrtV (f : Fmt) (rm : RMode) (x : FV) : FRes :=
  match x with
  | .nan a => ⟨canonNaN f, nvIf a⟩
  | .inf true => ⟨canonNaN f, flagNV⟩
  | .inf false => ⟨infBits f false, 0⟩
  | .fin a 0 _ => ⟨withSign f a 0, 0⟩
  | .fin true _ _ => ⟨canonNaN f, flagNV⟩
  | .fin false m e =>
    let odd := e % 2
    let n := m * 2 ^ odd.toNat * 2 ^ 132
    let r := isqrt n
    roundNonzero f rm false false r ((e - odd - 132) / 2) (decide (r * r ≠ n))

/-- A fused multiply-add of values, rounded once (04 R97, R98; 05 R136).  The signs of the product and of the addend
are changed before this is called. -/
def fpFmaV (f : Fmt) (rm : RMode) (x y z : FV) : FRes :=
  let invalidProduct := (x.isInf && y.isZero) || (x.isZero && y.isInf)
  if x.isNaN || y.isNaN || z.isNaN then
    ⟨canonNaN f, nvIf (x.isSNaN || y.isSNaN || z.isSNaN || invalidProduct)⟩
  else if invalidProduct then ⟨canonNaN f, flagNV⟩
  else
    let pn := x.sign != y.sign
    if x.isInf || y.isInf then
      if z.isInf && z.sign != pn then ⟨canonNaN f, flagNV⟩ else ⟨infBits f pn, 0⟩
    else if z.isInf then ⟨infBits f z.sign, 0⟩
    else roundDyadic f rm false ((x.dyadic.mul y.dyadic).add z.dyadic) (zeroSumNeg rm pn z.sign)

/-- fadd, fsub, fmul, fdiv, fsqrt of a type in a mode (05 R131, 07 R163). -/
def fpAdd (t : BitVec 4) (rm : RMode) (x y : DWord) : FRes := fpAddV (fmtOf t) rm (fp t x) (fp t y)
def fpSub (t : BitVec 4) (rm : RMode) (x y : DWord) : FRes := fpAddV (fmtOf t) rm (fp t x) (fp t y).negate
def fpMul (t : BitVec 4) (rm : RMode) (x y : DWord) : FRes := fpMulV (fmtOf t) rm (fp t x) (fp t y)
def fpDiv (t : BitVec 4) (rm : RMode) (x y : DWord) : FRes := fpDivV (fmtOf t) rm (fp t x) (fp t y)
def fpSqrt (t : BitVec 4) (rm : RMode) (x : DWord) : FRes := fpSqrtV (fmtOf t) rm (fp t x)

/-- fma: (x*y) + (z) (05 R136). -/
def fpFma (t : BitVec 4) (rm : RMode) (x y z : DWord) : FRes := fpFmaV (fmtOf t) rm (fp t x) (fp t y) (fp t z)
/-- fms: (x*y) + (-z). -/
def fpFms (t : BitVec 4) (rm : RMode) (x y z : DWord) : FRes := fpFmaV (fmtOf t) rm (fp t x) (fp t y) (fp t z).negate
/-- fnma: (-x*y) + (-z), as the manual states the scalar and the vector form. -/
def fpFnma (t : BitVec 4) (rm : RMode) (x y z : DWord) : FRes :=
  fpFmaV (fmtOf t) rm (fp t x).negate (fp t y) (fp t z).negate
/-- fnms: (-x*y) + (z). -/
def fpFnms (t : BitVec 4) (rm : RMode) (x y z : DWord) : FRes := fpFmaV (fmtOf t) rm (fp t x).negate (fp t y) (fp t z)

/-- x < y for values that are not NaNs; -0 and +0 are equal. -/
def FV.lt : FV → FV → Bool
  | .inf a, .inf b => a && !b
  | .inf a, _ => a
  | _, .inf b => !b
  | x, y => decide ((x.dyadic.add y.dyadic.neg).sig < 0)

/-- x = y for values that are not NaNs; -0 and +0 are equal. -/
def FV.eq : FV → FV → Bool
  | .inf a, .inf b => a == b
  | .inf _, _ => false
  | _, .inf _ => false
  | x, y => decide ((x.dyadic.add y.dyadic.neg).sig = 0)

/-- x comes before y in the order of 04 R99, in which -0 is less than +0. -/
def FV.ltNum (x y : FV) : Bool := x.lt y || (x.isZero && y.isZero && x.sign && !y.sign)

/-- The low bits of an operand in its format. -/
def fpBits (t : BitVec 4) (x : DWord) : DWord := lowBits (tyWidth t) x

/-- minimumNumber and maximumNumber with the settlements of 04 R99; bits copied. -/
def fpMin (t : BitVec 4) (x y : DWord) : FRes :=
  let a := fp t x
  let b := fp t y
  let fl := nvIf (a.isSNaN || b.isSNaN)
  if a.isNaN && b.isNaN then ⟨canonNaN (fmtOf t), fl⟩
  else if a.isNaN then ⟨fpBits t y, fl⟩
  else if b.isNaN then ⟨fpBits t x, fl⟩
  else if b.ltNum a then ⟨fpBits t y, fl⟩ else ⟨fpBits t x, fl⟩
def fpMax (t : BitVec 4) (x y : DWord) : FRes :=
  let a := fp t x
  let b := fp t y
  let fl := nvIf (a.isSNaN || b.isSNaN)
  if a.isNaN && b.isNaN then ⟨canonNaN (fmtOf t), fl⟩
  else if a.isNaN then ⟨fpBits t y, fl⟩
  else if b.isNaN then ⟨fpBits t x, fl⟩
  else if a.ltNum b then ⟨fpBits t y, fl⟩ else ⟨fpBits t x, fl⟩

/-- The comparisons of 05 R133 and 07 R164, with their NV rules. -/
inductive FCmp where
  | eq | lt | le | un
  deriving DecidableEq, Repr

/-- A comparison's truth value and flags (05 R133). -/
def fpCmp (k : FCmp) (t : BitVec 4) (x y : DWord) : Bool × Flags :=
  let a := fp t x
  let b := fp t y
  let un := a.isNaN || b.isNaN
  let sn := a.isSNaN || b.isSNaN
  match k with
  | .eq => (!un && a.eq b, nvIf sn)
  | .lt => (!un && a.lt b, nvIf un)
  | .le => (!un && (a.lt b || a.eq b), nvIf un)
  | .un => (un, nvIf sn)

/-- The class of a value, one bit of ten (05 R134). -/
def fpClass (t : BitVec 4) (x : DWord) : DWord :=
  match fp t x with
  | .inf true => 1
  | .inf false => 0x80
  | .nan true => 0x100
  | .nan false => 0x200
  | .fin n m _ =>
    let normal := decide (2 ^ (fmtOf t).mbits ≤ m)
    if n then (if m = 0 then 8 else if normal then 2 else 4)
    else (if m = 0 then 0x10 else if normal then 0x40 else 0x20)

/-- A value rounded to an integer in a mode, and whether that changed it. -/
def roundToInt (rm : RMode) (neg : Bool) (sig : Nat) (exp : Int) : Int × Bool :=
  let r := roundAt rm neg sig exp false 0
  (if neg then -(r.1 : Int) else r.1, r.2)

/-- fround: a value rounded to an integral value of its format (05 R138). -/
def fpRoundInt (t : BitVec 4) (rm : RMode) (x : DWord) : FRes :=
  match fp t x with
  | .nan s => ⟨canonNaN (fmtOf t), nvIf s⟩
  | .inf _ => ⟨fpBits t x, 0⟩
  | .fin n m e =>
    if m = 0 || 0 ≤ e then ⟨fpBits t x, 0⟩
    else
      let r := roundAt rm n m e false 0
      if r.1 = 0 then ⟨withSign (fmtOf t) n 0, 0⟩
      else ⟨(roundNonzero (fmtOf t) 0 false n r.1 0 false).bits, 0⟩

/-- The smallest and the largest integer of an integer type (04 R92). -/
def intMin (t : BitVec 4) : Int := if decide (4 ≤ t.toNat) then 0 else -((2 ^ (tyWidth t - 1) : Nat) : Int)
def intMax (t : BitVec 4) : Int :=
  if decide (4 ≤ t.toNat) then ((2 ^ tyWidth t : Nat) : Int) - 1 else ((2 ^ (tyWidth t - 1) : Nat) : Int) - 1

/-- The integer that an operand of an integer type represents (04 R92). -/
def intValue (t : BitVec 4) (x : DWord) : Int :=
  if decide (4 ≤ t.toNat) then ((x.toNat % 2 ^ tyWidth t : Nat) : Int) else signedLow (tyWidth t) x

/-- An integer as 64 bits of two's complement: sign-extended for a signed type, zero-extended for an unsigned one. -/
def intBits (v : Int) : DWord := BitVec.ofInt 64 v

/-- A conversion from floating point to an integer type, which always saturates (04 R101). -/
def fpToInt (t : BitVec 4) (rm : RMode) (v : FV) : FRes :=
  match v with
  | .nan _ => ⟨0, flagNV⟩
  | .inf n => ⟨intBits (if n then intMin t else intMax t), flagNV⟩
  | .fin n m e =>
    let r := roundToInt rm n m e
    if r.1 < intMin t then ⟨intBits (intMin t), flagNV⟩
    else if intMax t < r.1 then ⟨intBits (intMax t), flagNV⟩
    else ⟨intBits r.1, if r.2 then flagNX else 0⟩

/-- A conversion from an integer to a floating-point format (04 R102). -/
def intToFp (f : Fmt) (rm : RMode) (sat : Bool) (v : Int) : FRes := roundDyadic f rm sat ⟨v, 0⟩ false

/-- A conversion between floating-point formats (04 R100). -/
def fpToFp (f : Fmt) (rm : RMode) (sat : Bool) (v : FV) : FRes :=
  match v with
  | .nan s =>
    match f.specials with
    | .none => ⟨0, flagNV⟩
    | _ => ⟨canonNaN f, nvIf s⟩
  | .inf n =>
    match f.specials with
    | .ieee => if sat then ⟨maxFinite f n, flagNV⟩ else ⟨infBits f n, 0⟩
    | .nanTop => if sat then ⟨maxFinite f n, flagNV⟩ else ⟨canonNaN f, flagNV⟩
    | .none => ⟨maxFinite f n, flagNV⟩
  | .fin n m e => if m = 0 then ⟨withSign f n 0, 0⟩ else roundNonzero f rm sat n m e false

/-- A conversion from a floating-point type to itself: the operand, a NaN made canonical (05 R137). -/
def fpSame (t : BitVec 4) (x : DWord) : FRes :=
  match fp t x with
  | .nan s => ⟨canonNaN (fmtOf t), nvIf s⟩
  | _ => ⟨lowBits (tyWidth t) x, 0⟩

/-- fcvt and vcvt from type t2 to type t1, not both integers (04 R100 to R102; 05 R137; 07 R166). -/
def convert (t1 t2 : BitVec 4) (rm : RMode) (sat : Bool) (x : DWord) : FRes :=
  if Ty.isInt t2 then intToFp (fmtOf t1) rm sat (intValue t2 x)
  else if Ty.isInt t1 then fpToInt t1 rm (fp t2 x)
  else if t1 = t2 then fpSame t1 x
  else fpToFp (fmtOf t1) rm sat (fp t2 x)

/-- The value clamped to the range of an integer type. -/
def clampInt (t : BitVec 4) (v : Int) : Int := if v < intMin t then intMin t else if intMax t < v then intMax t else v

/-- A conversion from an integer to a narrower integer: the low bits without SAT, clamped with SAT (07 R167). -/
def intToInt (t1 t2 : BitVec 4) (sat : Bool) (x : DWord) : DWord :=
  if sat then intBits (clampInt t1 (intValue t2 x)) else intBits (intValue t1 x)

/-- The conversion of vpack, where code 0 as a source acts as i32 (07 R167). -/
def packConvert (t1 t2 : BitVec 4) (rm : RMode) (sat : Bool) (x : DWord) : FRes :=
  let src : BitVec 4 := if t2 == 0 then 2 else t2
  if Ty.isInt src && Ty.isInt t1 then ⟨intToInt t1 src sat x, 0⟩ else convert t1 src rm sat x

/-- The exact conversion of vunpack (07 R168); of a negative integer to n32, as log 70 states. -/
def unpackConvert (t1 t2 : BitVec 4) (x : DWord) : FRes :=
  if Ty.isInt t1 then ⟨intBits (intValue t2 x), 0⟩ else convert t1 t2 0 false x

/-- The magnitude of a 4-bit code, in eighths (04 R109). -/
def nibbleEighths (ty mag : Nat) : Nat :=
  match ty, mag with
  | 1, 1 => 4 | 1, 2 => 8 | 1, 3 => 12 | 1, 4 => 16 | 1, 5 => 24 | 1, 6 => 32 | 1, 7 => 48
  | 2, 1 => 1 | 2, 2 => 2 | 2, 3 => 4 | 2, 4 => 8 | 2, 5 => 16 | 2, 6 => 32 | 2, 7 => 64
  | 3, 1 => 8 | 3, 2 => 16 | 3, 3 => 24 | 3, 4 => 32 | 3, 5 => 48 | 3, 6 => 64 | 3, 7 => 96
  | _, _ => 0

/-- The value of a 4-bit element before scaling (04 R109). -/
def nibbleValue (ty : Nat) (c : Nat) : FV :=
  if ty = 0 then
    (if c < 8 then .fin false c 0 else .fin true (16 - c) 0)
  else .fin (decide (8 ≤ c)) (nibbleEighths ty (c % 8)) (-3)

/-- A value multiplied by the scale 2^(s - 32) (04 R108). -/
def FV.scale (v : FV) (s : Nat) : FV :=
  match v with
  | .fin n m e => .fin n m (e + s - 32)
  | v => v

end Sys2Proof.Machine
end

