-- ==== Sys2Proof/Config.lean ====
section
/-! DEFINITION. What the manual leaves to the implementation: free values.  Each is a constant with no value that a
proof could see; the assumption log names it. -/

namespace Sys2Proof.Config

/-- How many ticks of the package time counter pass around a step, for each value of State.free (log 6). -/
opaque freeTicks : Nat → Nat

/-- How many cycles of an island pass around a step, for each value of State.free and each island (log 6). -/
opaque freeCycles : Nat → Nat → Nat

/-- What the first read of a word with three or more flipped bits meets (16 R412), for the flipped bits and the stored
word: 0 the word as stored, 1 one further bit altered, any other value LOCAL_ECC (log 10). -/
opaque eccOutcome : BitVec 64 → BitVec 64 → Nat

/-- The further bit altered in the second of those outcomes (16 R412; log 10). -/
opaque eccBit : BitVec 64 → BitVec 64 → BitVec 6

/-- The 40-bit hash of a swatch, of its 128 bytes as a number and its key slot (12 R299, R301; log 11). -/
opaque hash40 : Nat → Nat → Nat

/-- The nanoseconds that a unit of an activity occupies, for each value of State.free and each activity (14 R362; log 6). -/
opaque freeCharge : Nat → Nat → Nat

/-- The stall cycles from bank conflicts around a step, for each value of State.free (19 R463; log 6). -/
opaque freeBank : Nat → Nat

/-- The part of a gang's identifier that no rule fixes, for each value of State.free (17 R431; log 29). -/
opaque gangBits : Nat → BitVec 16

/-- What the words of the status, bound and command areas of a matrix queue's image are combined with, for each of the 80
words: the manual gives their contents and not their form (15 R383; log 21). -/
opaque imageWord : Nat → BitVec 64

/-- The fields of the trace record of a round that no rule gives, for each value of State.free: 0 the physical address, 1 FROM
and 2 TO (19 R458; log 13). -/
opaque roundField : Nat → Nat → BitVec 48

/-- The address in HBM of an entry of a core's undo log, by site and place (09 R235; log 34). -/
opaque undoAddr : Nat → Nat → BitVec 64

/-- The address that the log record of a link's correction holds, for each value of State.free (16 R405; log 81). -/
opaque linkField : Nat → BitVec 64

/-- Which of the sectors that remain the tile fetch unit reads next, for the base address of the operand, the position of the unit of
work and the number of sectors that follow (15 R372: in no fixed order; log 83). -/
opaque fetchOrder : Nat → Nat → Nat → Nat

/-- The silicon revision that the capability list reports (20 R474; log 32). -/
opaque siliconRevision : BitVec 8

end Sys2Proof.Config
end

