-- ==== Sys2Proof/Machine/Causes.lean ====
section
/-! DEFINITION. The cause codes of 16 R386. -/

namespace Sys2Proof.Machine

/-- A cause with its s.eval (16 R386). -/
structure Exc where
  cause : Nat
  eval : DWord
  deriving DecidableEq, Repr

/-- The cause codes, by the names of 16 R386. -/
def cILLEGAL_OPCODE : Nat := 0x001
def cILLEGAL_FIELD : Nat := 0x002
def cILLEGAL_LENGTH : Nat := 0x003
def cDS_CONTROL : Nat := 0x004
def cSHADOW_READ : Nat := 0x005
def cPRIVILEGE : Nat := 0x006
def cREG_BOUND : Nat := 0x007
def cREP_BODY : Nat := 0x008
def cSYSCALL : Nat := 0x009
def cBREAKPOINT : Nat := 0x00A
def cDOUBLE_TRAP : Nat := 0x00B
def cOVERLAY : Nat := 0x020
def cEXEC_ONLY : Nat := 0x021
def cLOCAL_RANGE : Nat := 0x022
def cLOCAL_ALIGN : Nat := 0x023
def cLOCAL_ECC : Nat := 0x024
def cNOT_PRESENT : Nat := 0x040
def cBAD_TYPE : Nat := 0x041
def cALIGN : Nat := 0x042
def cCRITICAL_LEAF : Nat := 0x043
def cMOVED_RETRY_LIMIT : Nat := 0x044
def cPTE_FORMAT : Nat := 0x045
def cRIGHT_READ : Nat := 0x060
def cRIGHT_WRITE : Nat := 0x061
def cRIGHT_ATOMIC : Nat := 0x062
def cRIGHT_ENGINE : Nat := 0x063
def cGRANT_DENIED : Nat := 0x064
def cTABLE_FULL : Nat := 0x065
def cOWNER_INVALID : Nat := 0x066
def cRIGHT_EXEC : Nat := 0x067
def cRETIRED : Nat := 0x068
def cRANGE_BAD : Nat := 0x069
def cFP_TRAP : Nat := 0x080
def cBOUND_TRAP : Nat := 0x090
def cDEADLOCK : Nat := 0x0A0
def cCHAN_DEAD : Nat := 0x0A1
def cBARRIER_MEMBERSHIP : Nat := 0x0A2
def cBARRIER_VALUE : Nat := 0x0A3
def cBARRIER_BROKEN : Nat := 0x0A4
def cTHREAD_RECORD : Nat := 0x0A5
def cSTITCH_MASK : Nat := 0x0A6
def cCHAN_PORT : Nat := 0x0A7
def cEXCH_LATE : Nat := 0x0A8
def cEXCH_COLLIDE : Nat := 0x0A9
def cEXCH_MISMATCH : Nat := 0x0AA
def cPHASE_GLOBAL : Nat := 0x0AB
def cEXCH_ROUTE : Nat := 0x0AC
def cRB_REFUSED : Nat := 0x0AD
def cSEAM_STATE : Nat := 0x0AE
def cCOPY_FAULT : Nat := 0x0C0
def cFOOTPRINT_VIOLATION : Nat := 0x0C1
def cCOPY_NEST : Nat := 0x0C2
def cCONV_FORMAT : Nat := 0x0C3
def cEV_CONFIG : Nat := 0x0C4
def cMX_ORIENT : Nat := 0x0C8
def cABFT_MULTI : Nat := 0x0C9
def cREMOTE_ABORT : Nat := 0x0E0
def cUNCORRECTABLE : Nat := 0x100
def cROLLBACK_REPEAT : Nat := 0x101
def cPREEMPT : Nat := 0x120
def cBUDGET_END : Nat := 0x121
def cHOST_ABORT : Nat := 0x140

end Sys2Proof.Machine
end

