-- ==== Sys2Proof/Machine/Mem.lean ====
section
/-! DEFINITION. Memory as plain data: a list of (address, byte) pairs, addresses rising, no entry equal to what an
unlisted address reads as.  One representation serves every memory of the module: scratchpads, device memory, host
memory. Bytes form wider values little-endian (00 R2). -/

namespace Sys2Proof.Machine

/-- A memory (00 R2). -/
abbrev Memory := List Host.Cell

/-- What an address that no entry lists reads as: 0 (device memory, 20 R470; the others by the assumption log). -/
def memDefault : Byte := 0

/-- The canonical form above a given lowest address. -/
def memWfFrom : Nat → Memory → Bool
  | _, [] => true
  | lo, (k, b) :: t => decide (lo ≤ k) && !(b == memDefault) && memWfFrom (k + 1) t

/-- The canonical form: addresses strictly rising, no entry equal to the default. -/
def Memory.wf (m : Memory) : Bool := memWfFrom 0 m

/-- The byte at an address. -/
def memGet : Memory → Nat → Byte
  | [], _ => memDefault
  | (k, b) :: t, a => if a < k then memDefault else if a = k then b else memGet t a

/-- An entry in front, unless it equals the default. -/
def memCons (a : Nat) (b : Byte) (m : Memory) : Memory := if b = memDefault then m else (a, b) :: m

/-- One byte written; the canonical form is kept. -/
def memSet : Memory → Nat → Byte → Memory
  | [], a, b => memCons a b []
  | (k, v) :: t, a, b =>
    if a < k then memCons a b ((k, v) :: t)
    else if a = k then memCons a b t
    else (k, v) :: memSet t a b

/-- n bytes from address a as a number, little-endian (00 R2). -/
def memRead (m : Memory) (a : Nat) : Nat → Nat
  | 0 => 0
  | n + 1 => (memGet m a).toNat + 256 * memRead m (a + 1) n

/-- The low n bytes of a number written from address a, little-endian (00 R2). -/
def memWrite (m : Memory) (a : Nat) : Nat → Nat → Memory
  | 0, _ => m
  | n + 1, v => memWrite (memSet m a (BitVec.ofNat 8 v)) (a + 1) n (v / 256)

/-- A 64-bit word. -/
def memRead64 (m : Memory) (a : Nat) : DWord := BitVec.ofNat 64 (memRead m a 8)

/-- A 64-bit word written. -/
def memWrite64 (m : Memory) (a : Nat) (v : DWord) : Memory := memWrite m a 8 v.toNat

/-- n bytes as a list, lowest address first. -/
def memBytes (m : Memory) (a : Nat) : Nat → List Byte
  | 0 => []
  | n + 1 => memGet m a :: memBytes m (a + 1) n

/-- A list of bytes written from an address. -/
def memPut : Memory → Nat → List Byte → Memory
  | m, _, [] => m
  | m, a, b :: t => memPut (memSet m a b) (a + 1) t

/-- n bytes copied from one memory into another. -/
def memCopy (src : Memory) (from_ : Nat) (dst : Memory) (target : Nat) (n : Nat) : Memory :=
  memPut dst target (memBytes src from_ n)

/-- A table from numbers to values, kept as a list of rising keys. -/
abbrev Table (α : Type) := List (Nat × α)

/-- The entry of a key. -/
def tabGet? {α : Type} : Table α → Nat → Option α
  | [], _ => none
  | (k, v) :: t, a => if a < k then none else if a = k then some v else tabGet? t a

/-- The entry of a key, or the value that stands for an absent one. -/
def tabGet {α : Type} (t : Table α) (a : Nat) (dflt : α) : α := (tabGet? t a).getD dflt

/-- An entry written, the keys kept rising. -/
def tabSet {α : Type} : Table α → Nat → α → Table α
  | [], a, v => [(a, v)]
  | (k, w) :: t, a, v =>
    if a < k then (a, v) :: (k, w) :: t else if a = k then (a, v) :: t else (k, w) :: tabSet t a v

/-- An entry removed. -/
def tabDel {α : Type} : Table α → Nat → Table α
  | [], _ => []
  | (k, w) :: t, a => if a = k then t else (k, w) :: tabDel t a

end Sys2Proof.Machine
end

