-- ==== Sys2Proof/Machine/MemState.lean ====
section
/-! DEFINITION. The state of the memory system: sectors and their tokens, messages and requests, swatches, translation
and rights entries, posted stores, rounds on the notification network, migrations (10, 11, 12, 18). -/

namespace Sys2Proof.Machine

/-- What one agent other than the home holds of a sector (12 R284, R285). -/
structure Holding where
  agent : Nat
  count : Nat
  owner : Bool
  data : Bool
  deriving DecidableEq, Repr

/-- Whose access asks an agent for tokens (12 R287, R291): a miss handler serves one. -/
inductive Asker where
  /-- of a core's site: 0 and 1 its copy channels, 2 the converter, 3 the matrix unit, 5 the core, 6 the device for it -/
  | eng (site e : Nat)
  /-- a posted store, or an ordered operation, of a core, which its home applies -/
  | posted (site : Nat)
  | ord (site : Nat)
  /-- a unit of a die for itself: trace unit, migration, bias -/
  | unit (die : Nat)
  /-- a walker or the rights engine of a die, for an access of the core at a site or of one of its engines -/
  | walk (die site : Nat)
  | host
  | peer (port : Nat)
  deriving DecidableEq, Repr

/-- The site of the core concerned. -/
def Asker.site : Asker → Option Nat
  | .eng site _ => some site
  | .posted site => some site
  | .ord site => some site
  | _ => none

/-- An entry of a sector's persistent FIFO (12 R291). -/
structure PReq where
  agent : Nat
  write : Bool
  who : Asker
  /-- its one access has performed -/
  served : Bool
  deriving DecidableEq, Repr

/-- The host's copy of a sector in host bias (18 R451). -/
inductive HostCopy where
  /-- no copy -/
  | i
  /-- shared -/
  | s
  /-- the host may hold it modified -/
  | x
  deriving DecidableEq, Repr

/-- What the home keeps of a sector: base-die metadata, tokens, requests, hint, host state (20 R469, 12 R284 to R308,
18 R451). -/
structure Sector where
  slot : Nat
  epoch : Bool
  poison : Bool
  home : Nat
  homeOwner : Bool
  held : List Holding
  fifo : List PReq
  hintOwner : Nat
  hintDies : List Nat
  resetting : Bool
  /-- the unit whose error started the reset (12 R308, 16 R405) -/
  unit : Nat
  host : HostCopy
  deriving DecidableEq, Repr

/-- A sector as the scrub of a cold start leaves it (20 R470): slot 0xFF, the epoch of the start, every token at the home
whose agent code is given. -/
def Sector.reset (homeAgent : Nat) : Sector :=
  { slot := 0xFF, epoch := false, poison := false, home := 1024, homeOwner := true, held := [], fifo := [],
    hintOwner := homeAgent, hintDies := [], resetting := false, unit := 0, host := .i }

/-- A message that carries tokens (12 R284, R290). -/
structure Msg where
  sector : Nat
  target : Nat
  count : Nat
  owner : Bool
  data : Bool
  who : Asker
  /-- the agent that sent them, and the one that asked for them (19 R458) -/
  src : Nat
  asker : Nat
  deriving DecidableEq, Repr

/-- A transient request that stays outstanding (12 R287, R289). -/
structure TReq where
  agent : Nat
  sector : Nat
  write : Bool
  who : Asker
  fails : Nat
  /-- the cycles of its first and its last issue -/
  first : Nat
  since : Nat
  /-- a remote-data cache's read for 16 tokens (12 R293) -/
  many : Bool
  /-- a read that its remote-data cache has sent on to the home (12 R293) -/
  direct : Bool
  /-- it has reached the home since its last issue, which forwards it by its hint: to an agent, and to the agents of dies -/
  atHome : Bool
  owner : Nat
  dies : List Nat
  /-- the holders that it has reached since its last issue -/
  done : List Nat
  deriving DecidableEq, Repr

/-- A hint update on its way to the home (12 R287). -/
structure Hint where
  sector : Nat
  owner : Nat
  deriving DecidableEq, Repr

/-- A region piece held in bulk by a cluster (12 R296 to R298); base and size in sectors. -/
structure Region where
  cluster : Nat
  base : Nat
  size : Nat
  excl : Bool
  /-- the cycle count of the cluster's island at its last request or split -/
  since : Nat
  deriving DecidableEq, Repr

/-- A swatch: 128 bytes as a number, its reference count, key slot and hash (12 R299). -/
structure Swatch where
  data : Nat
  count : Nat
  key : Nat
  hash : Nat
  /-- an error of its data: uncorrectable or not (12 R306) -/
  err : Option Bool
  deriving DecidableEq, Repr

/-- A tag: the line's key slot, and its swatch, or none when the zero bit is set (12 R299, R300). -/
structure Tag where
  key : Nat
  swatch : Option Nat
  deriving DecidableEq, Repr

/-- The level-two cache of a die (12 R299, R307). -/
structure L2 where
  tags : Table Tag
  swatches : Table Swatch
  index : Table Nat
  hhit : Nat
  hmis : Nat
  rcov : Nat
  deriving DecidableEq, Repr

/-- A cached leaf as read, with the first virtual address and the number of bits that it translates; leaf 0 of its group
for a group entry (10 R245, R246). -/
structure TlbEntry where
  base : Nat
  span : Nat
  pte : DWord
  deriving DecidableEq, Repr

/-- A cached non-leaf entry: its level, the index fields of the address down to that level, and the entry
(10 R245). -/
structure WalkEntry where
  level : Nat
  tag : Nat
  pte : DWord
  deriving DecidableEq, Repr

/-- A range entry of a rights table as read (11 R265), tagged with its owner (11 R270). -/
structure RangeEntry where
  owner : Nat
  base : DWord
  limit : DWord
  word : DWord
  qend : DWord
  deriving DecidableEq, Repr

/-- A posted type-W store (10 R254). -/
structure Posted where
  va : Nat
  pa : Nat
  n : Nat
  value : Nat
  key : Nat
  /-- the type of its page, another than W after a walk again; the refusals with MOVED (18 R442, 10 R255) -/
  ty : Nat
  moves : Nat
  deriving DecidableEq, Repr

/-- What a round on the notification network does. -/
inductive RoundKind where
  /-- a translation shootdown for [base, base + size), size 0 for all (10 R249, 16 R409) -/
  | shoot (base size : Nat)
  /-- a shutter for an owner and a range (11 R273) -/
  | shutter (owner base limit : Nat)
  /-- an rlbinv.pkg round, owner 0 for all (16 R410) -/
  | rlb (owner : Nat)
  deriving DecidableEq, Repr

/-- A round in flight: who started it, and its package time. -/
structure Round where
  kind : RoundKind
  site : Nat
  start : Nat
  deriving DecidableEq, Repr

/-- A migration in flight (18 R439, R441): descriptor address, frames (PA / 64 KiB), keys, phase, its shootdown, and whether the page
is copied. -/
structure Migration where
  desc : Nat
  old : Nat
  new : Nat
  oldKey : Nat
  newKey : Nat
  va : Nat
  xdev : Bool
  state : Nat
  round : Option Nat
  copied : Bool
  deriving DecidableEq, Repr

/-- A level-one line of type H: the slices that hold it, and whether one holds it exclusively (18 R455). -/
structure HostLine where
  slices : List Nat
  excl : Bool
  deriving DecidableEq, Repr

/-- What pins a sector at an agent (12 R295). -/
inductive PinKind where
  /-- a footprint pin of the core at a site (08 R188) -/
  | foot (site : Nat)
  /-- a tile fetch pin of the queue of the core at a site (15 R372) -/
  | tile (site : Nat)
  deriving DecidableEq, Repr

/-- A tile fetch pin. -/
def PinKind.isTile : PinKind → Bool
  | .foot _ => false
  | .tile _ => true

/-- A pin (12 R295). -/
structure Pin where
  sector : Nat
  agent : Nat
  kind : PinKind
  deriving DecidableEq, Repr

/-- An event that the trace unit of a die may record (19 R458): the fields of its record, without time. -/
structure TraceEv where
  die : Nat
  kind : Nat
  scope : Nat
  count : Nat
  ss : Nat
  from_ : Nat
  pa : Nat
  target : Nat
  key : Nat
  owner : Nat
  core : Option Nat
  arg : Nat
  deriving DecidableEq, Repr

/-- What an access does at memory (10 R257 to R260). -/
inductive MemOp where
  | load
  | store (v : Nat)
  /-- an AMO by its function code 0 to 8 (10 R258) -/
  | amo (fn b : Nat)
  | cas (b c : Nat)
  | incw (b : Nat)
  | faddb (v c : Nat)
  deriving DecidableEq, Repr

/-- An access to a party outside the module that has not answered (16 R388, 18 R450). -/
structure OutWait where
  va : Nat
  pa : Nat
  n : Nat
  op : MemOp
  /-- who made it: 0 or 1 the copy channel, 2 the converter, 3 the matrix unit, 5 the core itself, 6 a posted store of it -/
  eng : Nat
  deriving DecidableEq, Repr

/-- A bias flip in flight (18 R452, R453): its granule, whether to host bias, whether EXP is cleared after it, and the sectors whose
collection or back-invalidation is finished. -/
structure Flip where
  gran : Nat
  toHost : Bool
  withdraw : Bool
  done : List Nat
  deriving DecidableEq, Repr

end Sys2Proof.Machine
end

