-- ==== Sys2Proof/Machine/EngState.lean ====
section
/-! DEFINITION. The state of the engines of a core: copy channels, converter, event crossbar, matrix queue (14, 15). -/

namespace Sys2Proof.Machine

/-- The stages of an engine command (14 R332). -/
inductive Stage where
  /-- waiting for its predecessor, edges, credit or leave -/
  | held
  | running
  /-- every element performed; the completion actions remain -/
  | finishing
  deriving DecidableEq, Repr

/-- A copy or converter command as captured at issue (14 R332, 16 R394): sub 0 to 3 of its family, the operands, the nest
block or descriptor and the footprint block as 64-bit words. -/
structure Cmd where
  id : Nat
  sub : Nat
  conv : Bool
  dst : DWord
  src : DWord
  word2 : Nat
  t1 : Nat
  t2 : Nat
  rm : Nat
  sat : Bool
  blk : List Nat
  foot : List Nat
  owner : Nat
  vd : Nat
  mode : Nat
  tvec : DWord
  /-- the phase of its BAR or SEAM tag and the key of its channel (14 R342) -/
  tag : Option (Nat × Nat)
  /-- the next element, by linear index -/
  k : Nat
  /-- the source elements of the block that quant or retile works on, as read at its first element: bits and scale byte (14 R353) -/
  vals : List (Nat × Nat)
  /-- it has run before: pre-emption made it wait again (14 R350, 16 R392) -/
  begun : Bool
  stage : Stage
  /-- the earlier commands whose footprints it overlaps (14 R348) -/
  edges : List Nat
  credit : Bool
  leave : Bool
  moved : Nat
  deriving DecidableEq, Repr

/-- What a channel or the converter records of a fault (14 R340). -/
structure EngFault where
  cause : Nat
  addr : DWord
  /-- it stopped in its signal decrement -/
  sig : Bool
  deriving DecidableEq, Repr

/-- A copy channel or the converter (14 R332, R340, R341, R344). -/
structure Engine where
  queue : List Cmd
  fault : Option EngFault
  wptr : Nat
  iv : List Nat
  flags : Nat
  rep : Bool
  deriving DecidableEq, Repr

def Engine.reset : Engine := ⟨[], none, 0, [0, 0, 0, 0, 0], 0, false⟩

/-- A counter of the event crossbar (14 R358). -/
structure EvCounter where
  cfg : DWord
  count : Nat
  deriving DecidableEq, Repr

/-- A term of the event crossbar (14 R359). -/
structure EvTerm where
  cfg : DWord
  armed : Bool
  credit : Nat
  deriving DecidableEq, Repr

/-- The event crossbar of a core (14 R357 to R360). -/
structure Crossbar where
  counters : List EvCounter
  terms : List EvTerm
  period : Nat
  /-- cycles to the next pulse of the timer, and pulses due that its event has not yet given -/
  left : Nat
  due : Nat
  deriving DecidableEq, Repr

def Crossbar.reset : Crossbar := ⟨List.replicate 8 ⟨0, 0⟩, List.replicate 16 ⟨0, false, 0⟩, 0, 0, 0⟩

/-- A matrix command (15 R365): kind 0 mload, 1 mstream, 2 mstore, 3 mzero; its descriptor and footprint as words. -/
structure MxCmd where
  id : Nat
  kind : Nat
  desc : List Nat
  foot : List Nat
  word2 : Nat
  rm : Nat
  /-- the K that its issue checked (15 R376) -/
  kdim : Nat
  owner : Nat
  vd : Nat
  mode : Nat
  tvec : DWord
  /-- the next tile or row -/
  pos : Nat
  stage : Stage
  edges : List Nat
  credit : Bool
  leave : Bool
  /-- the arbiter has granted its next unit (15 R366) -/
  granted : Bool
  moved : Nat
  deriving DecidableEq, Repr

/-- The fault of a matrix queue (15 R382). -/
structure MxFault where
  cause : Nat
  addr : DWord
  pos : Nat
  kind : Nat
  /-- bank row, and column or block (15 R382) -/
  row : Nat
  sub : Nat
  deriving DecidableEq, Repr

/-- A bound pair (15 R379). -/
structure Bound where
  lo : Nat
  hi : Nat
  act : Nat
  st : Bool
  cnt : Nat
  deriving DecidableEq, Repr

/-- An armed injection (15 R381). -/
structure Inject where
  row : Nat
  col : Nat
  blk : Nat
  p : Nat
  deriving DecidableEq, Repr

/-- A matrix queue (15 R363): commands, weight slot and scales (bytes), latched format (type code, Q4, SC; none: 255) and
K, bank (column 64 * row + column), bounds, status, injections, fetched sectors. -/
structure MxQueue where
  cmds : List MxCmd
  slot : Memory
  scales : Memory
  fmt : Nat
  kdim : Nat
  bank : Table Nat
  bounds : List Bound
  flags : Nat
  corr : Nat
  fault : Option MxFault
  rep : Bool
  inj : List Inject
  injDrop : Nat
  /-- the sectors that the fetch unit has read for the next unit of work, in the order in which it read them (15 R372, R384) -/
  pocket : List Byte
  /-- K of the last mload issued since dispatch and not discarded, and of the last complete one (15 R369) -/
  lastK : Nat
  doneK : Nat
  /-- the virtual device whose data the bank and the slot hold (15 R364) -/
  vd : Nat
  deriving DecidableEq, Repr

def Bound.reset : Bound := ⟨0, 0, 0, false, 0⟩
def MxQueue.reset : MxQueue :=
  ⟨[], [], [], 255, 0, [], List.replicate 4 Bound.reset, 0, 0, none, false, [], 0, [], 0, 0, 0⟩

end Sys2Proof.Machine
end

