-- ==== Sys2Proof/Machine/ParState.lean ====
section
/-! DEFINITION. The state of threads, barrier channels, exchanges, gangs and ordered operations (08, 09, 13). -/

namespace Sys2Proof.Machine

/-- The state of a barrier channel (08 R195). -/
inductive ChanState where
  | idle
  | active
  | broken
  deriving DecidableEq, Repr

/-- A barrier channel (08 R195 to R200): members, joins and leaves that take effect from the next phase, arrivals for P
and P + 1 (as sites), the phase P, the two counters, the threshold. -/
structure Channel where
  members : List Nat
  joins : List Nat
  leaves : List Nat
  arr0 : List Nat
  arr1 : List Nat
  phase : Nat
  cnt0 : Int
  cnt1 : Int
  thr : Nat
  st : ChanState
  deriving DecidableEq, Repr

/-- A channel at a start of the device (08 R196; log 3). -/
def Channel.reset : Channel := ⟨[], [], [], [], [], 0, 0, 0, 0, .idle⟩

/-- A release on its way: the channel, the phase completed, the sites that it has reached (08 R199, R202). -/
structure Release where
  chan : Nat
  phase : Nat
  reached : List Nat
  deriving DecidableEq, Repr

/-- A continuation record (08 R182): its four words. -/
structure Cont where
  word : DWord
  frame : DWord
  sig : DWord
  foot : DWord
  deriving DecidableEq, Repr

/-- A capture armed by xrecv (09 R227): source rank, cycle, length, local target; how it stands. -/
structure Arm where
  src : Nat
  cyc : Nat
  len : Nat
  dst : Nat
  filled : Bool
  /-- its horizon has passed -/
  passed : Bool
  deriving DecidableEq, Repr

/-- An entry of a core's undo log (09 R235): a granule and its old contents; whether the log's own memory has lost it. -/
structure UndoEntry where
  gran : Nat
  data : Nat
  bad : Bool
  deriving DecidableEq, Repr

/-- The undo log of a core since its last record (09 R235): how many records there were, and the entries, oldest first. -/
structure UndoLog where
  epoch : Nat
  entries : List UndoEntry
  deriving DecidableEq, Repr

/-- A message on the exchange mesh (09 R225, R226). -/
structure XMsg where
  src : Nat
  dst : Nat
  rank : Nat
  cyc : Nat
  data : List Byte
  /-- the cycle at which it arrives -/
  due : Nat
  deriving DecidableEq, Repr

/-- What a core holds of its exchange phase (09 R226 to R229): arms, collision records (the cycle, and at the receiver the
rank whose message was dropped), unmatched arrivals by cycle, the cycles at which it has sent, and how many arms it has
issued. -/
structure Exch where
  arms : List Arm
  collide : List (Nat × Option Nat)
  unmatched : List Nat
  sent : List Nat
  armed : Nat
  deriving DecidableEq, Repr

/-- An ordered operation announced and not applied (13 R317): its key, operation, operand, target and record. -/
structure OrdOp where
  site : Nat
  seam : Bool
  /-- window, or superstep -/
  win : Nat
  /-- package logical number, or rank -/
  num : Nat
  seq : Nat
  sub : Nat
  ty : Nat
  rm : Nat
  v : DWord
  va : Nat
  pa : Nat
  key : Nat
  owner : Nat
  vd : Nat
  mode : Nat
  rec_ : Nat
  moves : Nat
  /-- the home returned it with MOVED (13 R320) -/
  back : Bool
  deriving DecidableEq, Repr

/-- A result record on its way to a core (13 R318, R319). -/
structure OrdLand where
  site : Nat
  rec_ : Nat
  value : DWord
  status : DWord
  /-- the physical target, whose home a fence asks for -/
  pa : Nat
  deriving DecidableEq, Repr

/-- A superstep gang (09 R217): its cores by rank, seam channel, protection, ring, and its current superstep: arrivals
(site, ticks since the release), the last release, failures, an earlier record lost. -/
structure Gang where
  cores : List Nat
  chan : Nat
  rb : Bool
  imb : Nat
  owner : Nat
  vd : Nat
  mode : Nat
  arrivals : List (Nat × Nat)
  release : Nat
  superstep : Nat
  fails : Nat
  rolled : Bool
  drop : Bool
  /-- the seam's release is withheld for a stop (09 R221) -/
  withheld : Bool
  launches : List Nat
  deriving DecidableEq, Repr

/-- Who makes accesses to objects: the site whose caches serve them, mode, owner, virtual device, trap vector and image
tag (08 R215). -/
structure Agent where
  site : Nat
  mode : Nat
  owner : Nat
  vd : Nat
  tvec : DWord
  tag : Option Nat
  /-- its accesses to a site slot of the virtual device are made by physical address (17 R431; log 28) -/
  slot : Bool := false
  /-- who makes its accesses, as an access names its maker: the thread of the core, or the engine whose command it is -/
  eng : Nat := 5
  deriving DecidableEq, Repr

/-- What the device still owes to a thread that it ends as lost (08 R190): the stores to its record that remain, as address,
size and value, and the decrement of its join signal (address 0: none). -/
structure Owed where
  agent : Agent
  handle : Nat
  lix : Nat
  stores : List (Nat × Nat × Nat)
  sig : Nat
  deriving DecidableEq, Repr

/-- A deadlock probe (08 R213): where it started, the handle it stands at, the handles it has passed, and the lowest. -/
structure Probe where
  origin : Nat
  at_ : Nat
  lowest : Nat
  deriving DecidableEq, Repr

/-- A thread waiting on an object, as the device records it (08 R213, R216): its handle, core, object, and whether the
object is a channel. -/
structure Waiter where
  handle : Nat
  /-- none: suspended -/
  site : Option Nat
  object : Nat
  /-- 1 chsend, 2 chrecv, 3 sigwait -/
  kind : Nat
  /-- the handle at the other end of the channel -/
  other : Nat
  vd : Nat
  /-- a probe chose it -/
  marked : Bool
  /-- its wake is held back by a full queue (08 R212) -/
  heldBack : Bool
  deriving DecidableEq, Repr

end Sys2Proof.Machine
end

