-- ==== Sys2Proof/Machine/CoreState.lean ====
section
/-! DEFINITION. The state of one core: special registers, fetch state, shadows, scratchpad (02, 06, 16). -/

namespace Sys2Proof.Machine

/-- The special registers that hold a value of their own (02 R36). s.pc is Core.pc; s.core, s.site and s.clus follow from
the site; s.xcyc, s.time and s.cyc are read from counters. -/
structure Sprs where
  wp : DWord
  wsz : DWord
  ix : DWord
  xb : DWord
  psw : DWord
  epsw : DWord
  epc : DWord
  ebr : DWord
  cause : DWord
  eval : DWord
  tvec : DWord
  twp : DWord
  ewp : DWord
  ovl : DWord
  own : DWord
  vd : DWord
  fcsr : DWord
  thr : DWord
  stch : DWord
  ss : DWord
  gang : DWord
  deriving DecidableEq, Repr

/-- The values after a cold start of the core (02 R36, R38, R39, 04 R103). -/
def Sprs.reset : Sprs :=
  { wp := 0x3F000, wsz := 64, ix := 0, xb := 0x4000, psw := 3, epsw := 0, epc := 0, ebr := 0, cause := 0, eval := 0,
    tvec := 0, twp := 0x3E000, ewp := 0, ovl := 0, own := 0, vd := 0, fcsr := 0, thr := 0, stch := 0, ss := 0, gang := 0 }

/-- The open shadow of one write: one or two ranges of local words (address / 8) and the slots that remain until the
result is readable (02 R50, 16 R395).  n2 = 0: no second range. -/
structure Shadow where
  w1 : Nat
  n1 : Nat
  w2 : Nat
  n2 : Nat
  slots : Nat
  deriving DecidableEq, Repr

/-- A repetition: its place, the captured body with the address of each instruction, the count, the pass and the body
instruction to come, and the strides (06 R147 to R151). -/
structure Rep where
  addr : BitVec 18
  body : List (BitVec 18 × List Word)
  after : BitVec 18
  count : Nat
  pass : Nat
  idx : Nat
  sd : BitVec 3
  sa : BitVec 3
  sb : BitVec 3
  sc : BitVec 3
  deriving DecidableEq, Repr

/-- A stream held through a trap: its open shadows and its repetition (02 R49, 06 R153). -/
structure Held where
  shadows : List Shadow
  rep : Option Rep
  deriving DecidableEq, Repr

/-- Whether the next instruction stands in a delay slot, and where fetch continues after it (02 R53). -/
inductive DelaySlot where
  /-- not in a delay slot -/
  | none
  /-- in the delay slot of a taken branch -/
  | taken (target : BitVec 18)
  /-- in the delay slot of a branch not taken: fetch continues after the slot -/
  | fallThrough
  deriving DecidableEq, Repr

/-- Whether the core issues (08 R192, 16 R392). -/
inductive RunState where
  /-- a thread runs -/
  | running
  /-- no thread is placed -/
  | idle
  /-- stopped, its image being saved or saved -/
  | stopped
  /-- a core of a protected gang that consumed an uncorrectable error, before its gang rolls back (09 R237) -/
  | consumed
  deriving DecidableEq, Repr

/-- An entry that a core's die will add to its error log (16 R405). -/
structure LogEntry where
  severity : Nat
  unit : Nat
  cause : Nat
  addr : DWord
  deriving DecidableEq, Repr

/-- What an instruction waits for in place (08 R181, 02 R51, 16 R390).  The instruction stays at s.pc; it is tried again
when the core issues again, or by the event that ends the wait. -/
inductive Wait where
  /-- no wait -/
  | none
  /-- a stall in a global access, which an interrupt does not end: a blocking access, a full buffer -/
  | stall
  /-- a stall on what is the core's own, which an interrupt does not end: local bytes that a record or a capture will fill, a place among
  the pending records, commands that must complete, posted stores that must perform -/
  | busy
  /-- an instruction held before it issues: an engine queue is full (14 R332) -/
  | retry
  /-- the round that tlbinv.pkg or rlbinv.pkg started (16 R409, R410) -/
  | round (id : Nat)
  /-- rvsync (11 R281) -/
  | rvsync
  /-- fence (13 R312) -/
  | fence (kind scope : Nat)
  /-- cpwait (14 R343) -/
  | cpwait (sel : Nat)
  /-- evwait (14 R360) -/
  | evwait (t : Nat)
  /-- a waiting mstat (15 R385) -/
  | mstat (d : GOp) (sel : Nat)
  /-- snapctl 1: the work that a stop must settle first (16 R392, R399) -/
  | ack
  /-- l1wb and l1inv: the token messages that they sent, and what is left of their range (16 R408) -/
  | tokens (ids : List Nat) (va n : Nat) (inv : Bool)
  /-- wfi (05 R140) -/
  | wfi
  /-- align: its count and the cycle at which it began (05 R127) -/
  | align (count start : Nat)
  /-- wait: the channel and the phase (08 R202) -/
  | barrier (chan phase : Nat)
  /-- an arrival at a channel that has both arrivals of the core (08 R199) -/
  | arrive (chan : Nat)
  /-- chsend, chrecv or sigwait in place: the object (08 R181, R212) -/
  | object (addr : Nat)
  /-- seam: its destination, the channel and the phase of its arrival (09 R224) -/
  | seam (d : GOp) (chan phase : Nat)
  /-- end at its final seam (09 R230) -/
  | final (chan phase : Nat)
  /-- xsend: the cycle that it names, the rank, the local source and the length (09 R226) -/
  | xsend (cyc rank src len : Nat)
  /-- xwait (09 R228) -/
  | xwait (cyc : Nat)
  /-- xend (09 R229) -/
  | xend
  /-- msave: a unit in the array must end (15 R383) -/
  | save
  /-- end with its record written: the decrement of the join signal remains (08 R192) -/
  | join
  /-- stitch: its mask, its limit and the cycle at which it began (08 R205) -/
  | stitch (mask limit start : Nat)
  deriving DecidableEq, Repr

/-- What a stopped core records of its stop (16 R394, R399, R402): reason, whether it was quiesced, whether it waits at a seam,
the package time; and the destination that snapctl writes at the resume. -/
structure StopInfo where
  reason : Nat
  quiesced : Bool
  seam : Bool
  /-- no thread was on it -/
  idle : Bool
  time : Nat
  dest : Option GOp
  deriving DecidableEq, Repr

/-- One core. -/
structure Core where
  sp : Sprs
  pc : BitVec 18
  run : RunState
  ds : DelaySlot
  rep : Option Rep
  shadows : List Shadow
  /-- flags of issued instructions that are not yet known, with the slots that remain (04 R107) -/
  late : List (BitVec 5 × Nat)
  held : List Held
  loc : Memory
  flips : Table DWord
  /-- the granules of 64 bytes that the move under way has written (09 R235) -/
  wrote : List Nat
  logs : List LogEntry
  cnt : Table Nat
  dbl : Bool
  wait : Wait
  posted : List Posted
  /-- the refusals with MOVED of accesses that have not performed: who made each, its virtual address, and the count (10 R255) -/
  moved : List (Nat × Nat × Nat)
  /-- the cause of the error that a protected gang's core consumed (09 R237) -/
  lost : Nat
  out : List OutWait
  tlb : List TlbEntry
  rlb : List RangeEntry
  /-- the continuation record of the thread, captured at dispatch (08 R187, R194) -/
  cont : Cont
  /-- the local address to which dispatch copied the frame (08 R187) -/
  frameAt : Nat
  /-- the image tag (17 R435) -/
  tag : Option Nat
  /-- PREEMPT is pending; it was taken and not acknowledged (16 R411) -/
  preempt : Bool
  taken : Bool
  /-- the package time at which PREEMPT became pending (16 R401) -/
  preemptAt : Nat
  /-- the reason for which the core is to be quiesced (16 R402), and its stop -/
  halt : Option Nat
  stop : Option StopInfo
  /-- of a stitch follower: the addresses that it executes next, as its leader took them; of a leader: the address of an
  instruction that it has issued, and not completed (08 R206) -/
  trail : List (BitVec 18)
  exch : Exch
  /-- the island's cycle count at the last release (09 R220) -/
  xbase : Nat
  /-- result records pending (13 R316, R319): address, and whether in seam mode -/
  ordPend : List (Nat × Bool)
  ordCount : Nat
  ordSeq : Nat
  /-- regions declared in this superstep (09 R236): base, length, local -/
  reads : List (Nat × Nat × Bool)
  writes : List (Nat × Nat × Bool)
  /-- copy channels 0 and 1 and the converter -/
  eng0 : Engine
  eng1 : Engine
  conv : Engine
  xbar : Crossbar
  mx : MxQueue
  cmdId : Nat
  /-- the commands that wait for a credit of the crossbar, by term and number, in the order in which they reached that wait (14 R360) -/
  credits : List (Nat × Nat)
  deriving DecidableEq, Repr

/-- A core right after a cold start (02 R36), its special register s.stch given by its position (08 R204). -/
def Core.reset (stch : DWord) : Core :=
  { sp := { Sprs.reset with stch := stch }
    pc := 0
    run := .running
    ds := .none
    rep := none
    shadows := []
    late := []
    held := []
    loc := []
    flips := []
    wrote := []
    logs := []
    cnt := []
    dbl := false
    wait := .none
    posted := []
    moved := []
    lost := 0
    out := []
    tlb := []
    rlb := []
    cont := ⟨0, 0, 0, 0⟩
    frameAt := 0
    tag := Option.none
    preempt := false
    taken := false
    preemptAt := 0
    halt := Option.none
    stop := Option.none
    trail := []
    exch := ⟨[], [], [], [], 0⟩
    xbase := 0
    ordPend := []
    ordCount := 0
    ordSeq := 0
    reads := []
    writes := []
    eng0 := Engine.reset
    eng1 := Engine.reset
    conv := Engine.reset
    xbar := Crossbar.reset
    mx := MxQueue.reset
    cmdId := 0
    credits := [] }

/-- How an instruction that concerns its own core alone ends: done, or with a cause (01 R30). -/
inductive CoreRes where
  | done (c : Core)
  | trap (c : Core) (cause : Nat) (eval : DWord)
  deriving DecidableEq, Repr

end Sys2Proof.Machine
end

