-- ==== Sys2Proof/Machine/Operands.lean ====
section
/-! DEFINITION. Register operands: the workspace (02 R31 to R34), relative operands and steps (06 R142, R143, R151),
shadows (02 R50, 07 R158), check bits of operand words (02 R43), and the pre-pass over the operands of an instruction
(03 R84 steps 11 to 13). -/

namespace Sys2Proof.Machine

/-- Bits 1:0 of s.psw (02 R38): 0 U, 1 S, 3 M. -/
def Core.mode (c : Core) : Nat := c.sp.psw.toNat % 4

/-- The byte address of the workspace (02 R31, R39). -/
def Core.wpAddr (c : Core) : Nat := c.sp.wp.toNat

/-- The local word index of workspace word w (02 R31). -/
def Core.wordIx (c : Core) (w : Nat) : Nat := c.wpAddr / 8 + w

/-- Workspace word w as stored (01 R29 WS). -/
def Core.ws (c : Core) (w : Nat) : DWord := memRead64 c.loc (c.wpAddr + 8 * w)

/-- A whole local word written: its check bits become good (02 R43). -/
def Core.putLocalWord (c : Core) (a : Nat) (x : DWord) : Core :=
  { c with loc := memWrite64 c.loc a x, flips := tabDel c.flips (a / 8), wrote := a / 64 :: c.wrote }

/-- Workspace word w written. -/
def Core.setWs (c : Core) (w : Nat) (x : DWord) : Core := c.putLocalWord (c.wpAddr + 8 * w) x

/-- A write whose result is readable lat slots later opens a shadow on n words from local word w (02 R48, R50). -/
def Core.openShadow (c : Core) (w n lat : Nat) : Core :=
  if lat ≤ 1 then c else { c with shadows := ⟨w, n, 0, 0, lat - 1⟩ :: c.shadows }

/-- The shadow covers local word w. -/
def Shadow.covers (h : Shadow) (w : Nat) : Bool :=
  (decide (h.w1 ≤ w) && decide (w < h.w1 + h.n1)) || (decide (h.w2 ≤ w) && decide (w < h.w2 + h.n2))

/-- Local word w is in the shadow of a write (02 R50). -/
def Core.inShadow (c : Core) (w : Nat) : Bool := c.shadows.any (fun h => h.covers w)

/-- One slot passes for the open shadows (02 R49) and for the flags not yet known (04 R107). -/
def Core.tickShadows (c : Core) : Core :=
  { c with
    shadows := (c.shadows.map (fun h => { h with slots := h.slots - 1 })).filter (fun h => decide (0 < h.slots))
    late := (c.late.map (fun p => (p.1, p.2 - 1))).filter (fun p => decide (0 < p.2)) }

/-- The operand fields (03 R67); S is the status field of faddb (10 R260), M the governing mask, which no stride steps. -/
inductive Fld where
  | A | B | C | D | S | M
  deriving DecidableEq, Repr

/-- What a register field names (03 R69). -/
inductive Opnd where
  /-- a scalar register, fixed or relative -/
  | g (o : GOp)
  /-- a vector register -/
  | v (n : VReg)
  /-- a vector register and the next one (07 R168) -/
  | vv (n : VReg)
  /-- a mask register as a source -/
  | m (n : MReg)
  /-- a mask register as a destination: never m0 (02 R32) -/
  | md (n : MReg)
  deriving DecidableEq, Repr

/-- One operand of an instruction: its field, what it names, and whether the instruction reads it. -/
structure Use where
  fld : Fld
  opnd : Opnd
  rd : Bool
  deriving DecidableEq, Repr

/-- The stride of a field under the repetition that runs (06 R147, R151). -/
def Rep.stride (r : Rep) : Fld → Int
  | .A => r.sa.toInt
  | .B => r.sb.toInt
  | .C => r.sc.toInt
  | .D => r.sd.toInt
  | .S => 0
  | .M => 0

/-- What pass p adds to a field: p * s (06 R151). -/
def Core.step (c : Core) (f : Fld) : Int :=
  match c.rep with
  | none => 0
  | some r => (r.pass : Int) * r.stride f

/-- The workspace word that a scalar operand names: s.ix + k for a relative one, n for a fixed one, each stepped
(06 R142, R151). -/
def Core.gIx (c : Core) (f : Fld) (o : GOp) : Int :=
  if o.rel then c.sp.ix.toInt + (o.n.toInt + c.step f) else (o.n.toNat : Int) + c.step f

/-- The number of a vector or mask register after stepping (06 R151). -/
def Core.vIx (c : Core) (f : Fld) (n : VReg) : Int := (n.toNat : Int) + c.step f
def Core.mIx (c : Core) (f : Fld) (n : MReg) : Int := (n.toNat : Int) + c.step f

/-- s.wsz as a number of words (02 R36). -/
def Core.wszWords (c : Core) : Nat := c.sp.wsz.toNat

/-- The first 32 bits of a word list and the second, as R85 lays them in s.eval: word 1 only when LC bit 1 is 1. -/
def evalOfWords (ws : List Word) : DWord :=
  match ws with
  | [] => 0
  | w :: rest =>
    if w.getLsbD 1 then
      match rest with
      | [] => 0#32 ++ w
      | w1 :: _ => w1 ++ w
    else 0#32 ++ w

/-- The instruction word at a local address. -/
def Core.codeWord (c : Core) (a : Nat) : Word := BitVec.ofNat 32 (memRead c.loc a 4)

/-- The words of the instruction in hand: from the repeat buffer while passes run (06 R148), else from local memory at
the program counter. -/
def Core.handWords (c : Core) : List Word :=
  match c.rep with
  | some r => (r.body.getD r.idx (0, [])).2
  | none => [c.codeWord c.pc.toNat, c.codeWord (c.pc.toNat + 4)]

/-- The s.eval of a decoding cause (03 R85). -/
def Core.evalWords (c : Core) : DWord := evalOfWords c.handWords

/-- Step 11 of 03 R84 for one operand: the bound of a relative operand (06 R142), the range of a stepped one
(06 R151, 07 R168), and a destination mask stepped to m0 (02 R32), in the order of the operands (log 68). -/
def Core.boundOf (c : Core) (u : Use) : Option Exc :=
  match u.opnd with
  | .g o =>
    let w := c.gIx u.fld o
    if o.rel then
      if 1 ≤ w ∧ w < c.wszWords then none else some ⟨cREG_BOUND, BitVec.ofInt 64 w⟩
    else if 0 ≤ w ∧ w ≤ 63 then none else some ⟨cREG_BOUND, BitVec.ofInt 64 w⟩
  | .v n =>
    let w := c.vIx u.fld n
    if 0 ≤ w ∧ w ≤ 15 then none else some ⟨cREG_BOUND, BitVec.ofInt 64 w⟩
  | .vv n =>
    let w := c.vIx u.fld n
    if 0 ≤ w ∧ w ≤ 14 then none else some ⟨cREG_BOUND, BitVec.ofInt 64 w⟩
  | .m n =>
    let w := c.mIx u.fld n
    if 0 ≤ w ∧ w ≤ 7 then none else some ⟨cREG_BOUND, BitVec.ofInt 64 w⟩
  | .md n =>
    let w := c.mIx u.fld n
    if w = 0 then some ⟨cILLEGAL_FIELD, c.evalWords⟩
    else if 0 ≤ w ∧ w ≤ 7 then none else some ⟨cREG_BOUND, BitVec.ofInt 64 w⟩

/-- The first failing operand, in the order given (03 R84 step 11). -/
def Core.boundCheck (c : Core) : List Use → Option Exc
  | [] => none
  | u :: t =>
    match c.boundOf u with
    | some e => some e
    | none => c.boundCheck t

/-- The workspace words that reading an operand reads: first and count; none for g0 and m0 (02 R32, 07 R158). -/
def Core.readRange (c : Core) (u : Use) : Nat × Nat :=
  match u.opnd with
  | .g o => let w := (c.gIx u.fld o).toNat; if w = 0 then (0, 0) else (w, 1)
  | .v n => (64 + 16 * (c.vIx u.fld n).toNat, 16)
  | .vv n => (64 + 16 * (c.vIx u.fld n).toNat, 32)
  | .m n => let k := (c.mIx u.fld n).toNat; if k = 0 then (0, 0) else (320 + k / 2, 1)
  | .md n => (320 + (c.mIx u.fld n).toNat / 2, 1)

/-- The words that the operands read, as local words, in operand order. -/
def Core.readWords (c : Core) (us : List Use) : List Nat :=
  us.flatMap (fun u =>
    if u.rd then (List.range (c.readRange u).2).map (fun i => c.wordIx ((c.readRange u).1 + i)) else [])

/-- The number of 1 bits. -/
def popcount (x : DWord) : Nat := ((List.range 64).filter (fun i => x.getLsbD i)).length

/-- One local word read under its check bits (02 R43, 16 R412): a single flipped bit is corrected, written back and
logged; two raise LOCAL_ECC; three or more meet the outcome that the device's code gives.  Answers the core after the
read and whether LOCAL_ECC is raised. -/
def Core.eccRead (c : Core) (w : Nat) : Core × Bool :=
  match tabGet? c.flips w with
  | none => (c, false)
  | some m =>
    let stored := memRead64 c.loc (8 * w)
    let note : LogEntry := ⟨0, 0, 0, BitVec.ofNat 64 (8 * w)⟩
    let bad : LogEntry := ⟨1, 0, cLOCAL_ECC, BitVec.ofNat 64 (8 * w)⟩
    let failed : Core := { c with logs := c.logs ++ [bad] }
    match popcount m with
    | 0 => (c, false)
    | 1 => ({ c.putLocalWord (8 * w) (stored ^^^ m) with logs := c.logs ++ [note] }, false)
    | 2 => (failed, true)
    | _ =>
      match Config.eccOutcome m stored with
      | 0 => (c, false)
      | 1 =>
        ({ c.putLocalWord (8 * w) (stored ^^^ (1#64 <<< (Config.eccBit m stored).toNat)) with logs := c.logs ++ [note] },
          false)
      | _ => (failed, true)

/-- Words read in order under their check bits; the first that fails raises LOCAL_ECC with its address (02 R43). -/
def Core.eccWords (c : Core) : List Nat → Core × Option Exc
  | [] => (c, none)
  | w :: t =>
    match c.eccRead w with
    | (c', true) => (c', some ⟨cLOCAL_ECC, BitVec.ofNat 64 (8 * w)⟩)
    | (c', false) => c'.eccWords t

/-- The pre-pass over the operands of an instruction, given in the order A, B, C, D, S, mask: steps 11 and 12 of
03 R84, then the check bits of the words read. -/
def Core.pre (c : Core) (us : List Use) : Core × Option Exc :=
  match c.boundCheck us with
  | some e => (c, some e)
  | none =>
    match (c.readWords us).find? c.inShadow with
    | some w => (c, some ⟨cSHADOW_READ, BitVec.ofNat 64 (8 * w)⟩)
    | none => if c.flips.isEmpty then (c, none) else c.eccWords (c.readWords us)

/-- Reg of 01 R29 through a field: g0 reads as zero (02 R32). -/
def Core.rg (c : Core) (f : Fld) (o : GOp) : DWord :=
  let w := (c.gIx f o).toNat
  if w = 0 then 0 else c.ws w

/-- SetReg of 01 R29 through a field, with the latency of the instruction (02 R32, R48). -/
def Core.wg (c : Core) (f : Fld) (o : GOp) (x : DWord) (lat : Nat) : Core :=
  let w := (c.gIx f o).toNat
  if w = 0 then c else (c.setWs w x).openShadow (c.wordIx w) 1 lat

/-- Word j of a vector register (02 R31). -/
def Core.vword (c : Core) (f : Fld) (n : VReg) (j : Nat) : DWord := c.ws (64 + 16 * (c.vIx f n).toNat + j)

/-- The low or the high half of a word. -/
def halfOf (x : DWord) (i : Nat) : DWord := if i % 2 = 0 then x &&& 0xFFFFFFFF else x >>> 32

/-- A mask as 32 bits: m0 reads as all ones (02 R32). -/
def Core.maskBits (c : Core) (f : Fld) (n : MReg) : DWord :=
  let k := (c.mIx f n).toNat
  if k = 0 then 0xFFFFFFFF else halfOf (c.ws (320 + k / 2)) k

/-- The governing mask, which no stride steps (06 R151, 07 R157). -/
def Core.govern (c : Core) (mk : MReg) (e : Nat) : Bool := (c.maskBits .M mk).getLsbD e

/-- Workspace word w written except for the bits of keep, which stay as stored; check bits of the kept part stay as
they are, bad or good. -/
def Core.mergeWs (c : Core) (w : Nat) (x keep : DWord) : Core :=
  if keep = 0 then c.setWs w x
  else
    let a := c.wpAddr + 8 * w
    let old := memRead64 c.loc a
    let loc := memWrite64 c.loc a ((old &&& keep) ||| (x &&& ~~~keep))
    match tabGet? c.flips (a / 8) with
    | none => { c with loc := loc, wrote := a / 64 :: c.wrote }
    | some m =>
      let m' := m &&& keep
      { c with
        loc := loc
        wrote := a / 64 :: c.wrote
        flips := if m' = 0 then tabDel c.flips (a / 8) else tabSet c.flips (a / 8) m' }

/-- Words written from workspace word w up, each with the bits it keeps. -/
def Core.mergeWords (c : Core) (w : Nat) : List (DWord × DWord) → Core
  | [] => c
  | (x, keep) :: t => (c.mergeWs w x keep).mergeWords (w + 1) t

/-- A vector register written, all of its words in shadow, lanes left unwritten included (07 R158). -/
def Core.wv (c : Core) (f : Fld) (n : VReg) (xs : List (DWord × DWord)) (lat : Nat) : Core :=
  let w := 64 + 16 * (c.vIx f n).toNat
  (c.mergeWords w xs).openShadow (c.wordIx w) xs.length lat

/-- One 32-bit half as a whole word with the bits that it does not touch. -/
def halfWrite (i : Nat) (h : DWord) : DWord × DWord :=
  if i % 2 = 0 then (h &&& 0xFFFFFFFF, 0xFFFFFFFF00000000) else (h <<< 32, 0xFFFFFFFF)

/-- A mask register written but for the bits of keep; the word that it shares with its pair is in shadow (07 R158). -/
def Core.wm (c : Core) (f : Fld) (n : MReg) (x keep : DWord) (lat : Nat) : Core :=
  let k := (c.mIx f n).toNat
  let w := 320 + k / 2
  (c.mergeWs w (halfWrite k x).1 ((halfWrite k x).2 ||| (halfWrite k keep).1)).openShadow (c.wordIx w) 1 lat

end Sys2Proof.Machine
end

