-- ==== Sys2Proof/Machine/Flags.lean ====
section
/-! DEFINITION. Floating-point flags and modes of a core: s.fcsr (04 R103 to R105) and the dynamic rounding mode
(03 R73, 04 R96). -/

namespace Sys2Proof.Machine

/-- s.fcsr bits 4:0, the sticky flags (04 R103). -/
def Core.stickyFlags (c : Core) : Flags := c.sp.fcsr.setWidth 5

/-- s.fcsr bits 12:8, the enables, in the order of the flags (04 R103). -/
def Core.flagEnables (c : Core) : Flags := c.sp.fcsr.extractLsb' 8 5

/-- s.fcsr bits 18:16, the dynamic mode (04 R103). -/
def Core.dynRM (c : Core) : BitVec 3 := c.sp.fcsr.extractLsb' 16 3

/-- The mode that an RM field gives (04 R96). -/
def Core.rmode (c : Core) (rm : BitVec 3) : RMode := if rm = 5 then c.dynRM else rm

/-- The dynamic mode is asked for and s.fcsr holds a code above 4 (03 R73, 04 R103). -/
def Core.badRM (c : Core) (rm : BitVec 3) : Bool := rm == 5 && decide (4 < c.dynRM.toNat)

/-- Flags ORed into s.fcsr (04 R104).  They are known with the result, lat slots later, and until then a wrs of s.fcsr does
not lose them (04 R107; log 60).  While an enable is 1 the core holds issue until they are known, so that no later instruction
finds them late (04 R106). -/
def Core.orFlags (c : Core) (fl : Flags) (lat : Nat) : Core :=
  { c with
    sp := { c.sp with fcsr := c.sp.fcsr ||| fl.setWidth 64 }
    late := if fl = 0 ∨ lat ≤ 1 ∨ c.flagEnables ≠ 0 then c.late else (fl, lat) :: c.late }

/-- The OR of the flags not yet known (04 R107). -/
def Core.lateFlags (c : Core) : Flags := c.late.foldl (fun f p => f ||| p.1) 0

/-- The FP_TRAP of 04 R105, if the flags include an enabled one: bits 4:0 every flag, bits 13:8 the position. -/
def Core.fpTrap (c : Core) (fl : Flags) (pos : Nat) : Option Exc :=
  if fl &&& c.flagEnables = 0 then none
  else some ⟨cFP_TRAP, fl.setWidth 64 ||| BitVec.ofNat 64 (pos * 256)⟩

/-- The OR of the flags of a list of results with their positions. -/
def orAll : List (Nat × Flags) → Flags
  | [] => 0
  | (_, f) :: t => f ||| orAll t

/-- The lowest position whose flags include an enabled one (04 R105). -/
def lowestEnabled (en : Flags) (xs : List (Nat × Flags)) : Nat :=
  match (xs.filter (fun x => !(x.2 &&& en == 0))).map (fun x => x.1) with
  | [] => 0
  | p :: t => t.foldl Nat.min p

/-- Flags of several positions raised together by an instruction of a latency: FP_TRAP, or the flags set (04 R104, R105). -/
def Core.raiseAll (c : Core) (lat : Nat) (xs : List (Nat × Flags)) : Except Exc Core :=
  match c.fpTrap (orAll xs) (lowestEnabled c.flagEnables xs) with
  | some e => .error e
  | none => .ok (c.orFlags (orAll xs) lat)

/-- The flags of a scalar instruction raised (04 R104, R105). -/
def Core.raise (c : Core) (lat : Nat) (fl : Flags) : Except Exc Core := c.raiseAll lat [(0, fl)]

end Sys2Proof.Machine
end

