-- ==== Sys2Proof/Machine/Local.lean ====
section
/-! DEFINITION. Local memory as the core's own instructions see it: the checks of 02 R42, the check bits of 02 R43,
LoadLocal and StoreLocal of 01 R29. -/

namespace Sys2Proof.Machine

/-- The size of a scratchpad (02 R41). -/
def localSize : Nat := 262144

/-- The checks of a local data access of n bytes at the full sum a, against an execute boundary (02 R42). -/
def localCheck (xb : Nat) (a : Int) (n : Nat) : Option Exc :=
  if a < 0 ∨ (localSize : Int) < a + n then some ⟨cLOCAL_RANGE, BitVec.ofInt 64 a⟩
  else if a % n ≠ 0 then some ⟨cLOCAL_ALIGN, BitVec.ofInt 64 a⟩
  else if a < xb then some ⟨cEXEC_ONLY, BitVec.ofInt 64 a⟩
  else none

/-- The execute boundary as a byte address (02 R39, R45). -/
def Core.xbAddr (c : Core) : Nat := c.sp.xb.toNat

/-- The local words that n bytes from a lie in, lowest first. -/
def wordsFrom (a n : Nat) : List Nat := (List.range ((a % 8 + n + 7) / 8)).map (fun i => a / 8 + i)

/-- The bits of local word w that n bytes from a do not cover. -/
def keptBits (a n w : Nat) : DWord := ~~~(BitVec.ofNat 64 ((2 ^ (8 * n) - 1) * 2 ^ (8 * (a % 8)) / 2 ^ (64 * (w - a / 8))))

/-- Flipped bits of the bytes written become good (02 R43). -/
def mendWords (a n : Nat) : List Nat → Table DWord → Table DWord
  | [], t => t
  | w :: ws, t =>
    mendWords a n ws (match tabGet? t w with
      | none => t
      | some m =>
        let m' := m &&& keptBits a n w
        if m' = 0 then tabDel t w else tabSet t w m')

/-- The granules of 64 bytes that n bytes from a lie in (09 R235). -/
def granulesFrom (a n : Nat) : List Nat := (List.range ((a % 64 + n + 63) / 64)).map (fun i => a / 64 + i)

/-- Bytes of local memory written without a check. -/
def Core.pokeLocal (c : Core) (a n : Nat) (v : Nat) : Core :=
  { c with loc := memWrite c.loc a n v, flips := mendWords a n (wordsFrom a n) c.flips, wrote := granulesFrom a n ++ c.wrote }

/-- LoadLocal of 01 R29: the core after the read, and the n bytes as a number or the cause. -/
def Core.loadLocal (c : Core) (a : Int) (n : Nat) : Core × Except Exc Nat :=
  match localCheck c.xbAddr a n with
  | some e => (c, .error e)
  | none =>
    match c.eccWords (wordsFrom a.toNat n) with
    | (c', some e) => (c', .error e)
    | (c', none) => (c', .ok (memRead c'.loc a.toNat n))

/-- StoreLocal of 01 R29: a store of fewer than 8 bytes reads its old word (02 R43). -/
def Core.storeLocal (c : Core) (a : Int) (n : Nat) (v : Nat) : Core × Option Exc :=
  match localCheck c.xbAddr a n with
  | some e => (c, some e)
  | none =>
    match c.eccWords (if n < 8 then [a.toNat / 8] else []) with
    | (c', some e) => (c', some e)
    | (c', none) => (c'.pokeLocal a.toNat n v, none)

end Sys2Proof.Machine
end

