-- ==== Sys2Proof/Machine/Scalar.lean ====
section
/-! DEFINITION. The results of the scalar instructions as functions of their operands (05 R117 to R138). -/

namespace Sys2Proof.Machine

/-- A 32-bit result sign-extended to 64 bits (05 R117). -/
def sext32 (x : DWord) : DWord := (x.setWidth 32).signExtend 64

/-- A truth value as 1 or 0. -/
def bit01 (b : Bool) : DWord := if b then 1 else 0

/-- The number of zero bits above the highest 1 (05 R120). -/
def clz64 (x : DWord) : DWord := BitVec.ofNat 64 (64 - bitLen x.toNat)

/-- The number of zero bits below the lowest 1 (05 R120). -/
def ctz64 (x : DWord) : DWord :=
  match (List.range 64).find? (fun i => x.getLsbD i) with
  | some i => BitVec.ofNat 64 i
  | none => 64

/-- The functions of INT by their code, of a and b (05 R120); codes 20 to 29 read a alone. -/
def intFn (f : Nat) (a b : DWord) : DWord :=
  match f with
  | 0 => a + b
  | 1 => a - b
  | 2 => sext32 (a + b)
  | 3 => sext32 (a - b)
  | 4 => a &&& b
  | 5 => a ||| b
  | 6 => a ^^^ b
  | 7 => a &&& ~~~b
  | 8 => a <<< (b.toNat % 64)
  | 9 => a >>> (b.toNat % 64)
  | 10 => a.sshiftRight (b.toNat % 64)
  | 11 => ((a.setWidth 32) <<< (b.toNat % 32)).signExtend 64
  | 12 => ((a.setWidth 32) >>> (b.toNat % 32)).signExtend 64
  | 13 => ((a.setWidth 32).sshiftRight (b.toNat % 32)).signExtend 64
  | 14 => bit01 (a.slt b)
  | 15 => bit01 (a.ult b)
  | 16 => if a.slt b then a else b
  | 17 => if a.slt b then b else a
  | 18 => if a.ult b then a else b
  | 19 => if a.ult b then b else a
  | 20 => clz64 a
  | 21 => ctz64 a
  | 22 => BitVec.ofNat 64 (popcount a)
  | 23 => a.reverse
  | 24 => (a.setWidth 8).signExtend 64
  | 25 => (a.setWidth 16).signExtend 64
  | 26 => sext32 a
  | 27 => (a.setWidth 8).setWidth 64
  | 28 => (a.setWidth 16).setWidth 64
  | 29 => (a.setWidth 32).setWidth 64
  | 30 => a.rotateLeft (b.toNat % 64)
  | _ => a.rotateRight (b.toNat % 64)

/-- Quotient and remainder of 05 R121 on operands of width w, signed or unsigned: division by zero gives all ones and
the dividend, and the one signed overflow gives the dividend and zero.  Division truncates toward zero. -/
def divRem (w : Nat) (sgn : Bool) (a b : DWord) : Int × Int :=
  let x : Int := if sgn then signedLow w a else ((a.toNat % 2 ^ w : Nat) : Int)
  let y : Int := if sgn then signedLow w b else ((b.toNat % 2 ^ w : Nat) : Int)
  if y = 0 then (-1, x)
  else if sgn && decide (x = -((2 ^ (w - 1) : Nat) : Int)) && decide (y = -1) then (x, 0)
  else (x.tdiv y, x - y * x.tdiv y)

/-- The low w bits of an integer, sign-extended to 64 (05 R121). -/
def sextInt (w : Nat) (x : Int) : DWord := (BitVec.ofInt w x).signExtend 64

/-- The functions of MULDIV by their code (05 R121). -/
def mulDivFn (f : Nat) (a b : DWord) : DWord :=
  match f with
  | 0 => a * b
  | 1 => BitVec.ofInt 64 ((a.toInt * b.toInt) / ((2 ^ 64 : Nat) : Int))
  | 2 => BitVec.ofNat 64 (a.toNat * b.toNat / 2 ^ 64)
  | 3 => sext32 (a * b)
  | 4 => sextInt 64 (divRem 64 true a b).1
  | 5 => sextInt 64 (divRem 64 false a b).1
  | 6 => sextInt 64 (divRem 64 true a b).2
  | 7 => sextInt 64 (divRem 64 false a b).2
  | 8 => sextInt 32 (divRem 32 true a b).1
  | 9 => sextInt 32 (divRem 32 false a b).1
  | 10 => sextInt 32 (divRem 32 true a b).2
  | _ => sextInt 32 (divRem 32 false a b).2

/-- The latency of a MULDIV function: 3 slots for the multiplies, 20 for the divides (02 R48, 05 R119). -/
def mulDivLat (f : Nat) : Nat := if f < 4 then 3 else 20

/-- The length n that a length code gives: 64 for 0 (05 R124). -/
def fieldLen (l : BitVec 6) : Nat := if l = 0 then 64 else l.toNat

/-- n ones. -/
def ones (n : Nat) : DWord := BitVec.ofNat 64 (2 ^ n - 1)

/-- bfx (05 R124). -/
def bfxFn (p l : BitVec 6) (a : DWord) : DWord := (a >>> p.toNat) &&& ones (fieldLen l)

/-- bfi (05 R124): the field of the old destination replaced. -/
def bfiFn (p l : BitVec 6) (old a : DWord) : DWord :=
  let k := ones (fieldLen l) <<< p.toNat
  (old &&& ~~~k) ||| ((a <<< p.toNat) &&& k)

/-- The conditions of the compare-branches by their code 0 to 5 (05 R125). -/
def branchCond (k : Nat) (a b : DWord) : Bool :=
  match k with
  | 0 => a == b
  | 1 => !(a == b)
  | 2 => a.slt b
  | 3 => !(a.slt b)
  | 4 => a.ult b
  | _ => !(a.ult b)

/-- The type code of an FP major type field: f32, f64, f16, bf16 (03 R78). -/
def fpTy (ty : BitVec 2) : BitVec 4 :=
  match ty.toNat with
  | 0 => 10
  | 1 => 11
  | 2 => 8
  | _ => 9

/-- The sign operations of 05 R132 by their kind: 0 fsgn, 1 fsgnn, 2 fsgnx. -/
def fpSign (k : Nat) (t : BitVec 4) (a b : DWord) : DWord :=
  let w := tyWidth t
  let sa := a.getLsbD (w - 1)
  let sb := b.getLsbD (w - 1)
  let sgn := match k with
    | 0 => sb
    | 1 => !sb
    | _ => sa != sb
  lowBits (w - 1) a ||| (if sgn then 1#64 <<< (w - 1) else 0)

/-- The functions of the FP major by their code, in RNE (05 R131 to R134). -/
def fpFn (f : Nat) (t : BitVec 4) (a b : DWord) : FRes :=
  match f with
  | 0 => fpAdd t 0 a b
  | 1 => fpSub t 0 a b
  | 2 => fpMul t 0 a b
  | 3 => fpDiv t 0 a b
  | 4 => fpSqrt t 0 a
  | 5 => fpMin t a b
  | 6 => fpMax t a b
  | 7 => ⟨fpSign 0 t a b, 0⟩
  | 8 => ⟨fpSign 1 t a b, 0⟩
  | 9 => ⟨fpSign 2 t a b, 0⟩
  | 10 => let r := fpCmp .eq t a b; ⟨bit01 r.1, r.2⟩
  | 11 => let r := fpCmp .lt t a b; ⟨bit01 r.1, r.2⟩
  | 12 => let r := fpCmp .le t a b; ⟨bit01 r.1, r.2⟩
  | 13 => ⟨fpClass t a, 0⟩
  | _ => let r := fpCmp .un t a b; ⟨bit01 r.1, r.2⟩

/-- The latency of an FP function (02 R48, 05 R119). -/
def fpLat (f : Nat) : Nat :=
  match f with
  | 0 => 3 | 1 => 3 | 2 => 3 | 3 => 12 | 4 => 12
  | _ => 1

/-- The fused operations by their code 0 to 3 (05 R136). -/
def fmaFn (f : Nat) (t : BitVec 4) (rm : RMode) (x y z : DWord) : FRes :=
  match f with
  | 0 => fpFma t rm x y z
  | 1 => fpFms t rm x y z
  | 2 => fpFnma t rm x y z
  | _ => fpFnms t rm x y z

/-- A fixed scalar operand. -/
def fix (n : Reg) : GOp := ⟨false, n⟩

/-- A result written to a scalar register. -/
def bodyWrite (d : GOp) (lat : Nat) (f : Core → DWord) (c : Core) : CoreRes := .done (c.wg .D d (f c) lat)

/-- A floating-point result written to a scalar register, unless its flags trap (04 R104, R105). -/
def bodyFp (d : GOp) (lat : Nat) (f : Core → FRes) (c : Core) : CoreRes :=
  let r := f c
  match c.raise lat r.flags with
  | .error e => .trap c e.cause e.eval
  | .ok c' => .done (c'.wg .D d r.bits lat)

/-- The effective address of a local access: the full sum (05 R128). -/
def effAddr (base : DWord) (off : Int) : Int := base.toInt + off

/-- n loaded bytes as 64 bits, sign- or zero-extended (05 R128). -/
def extendBytes (n : Nat) (sgn : Bool) (v : Nat) : DWord :=
  if sgn then BitVec.ofInt 64 (signedLow (8 * n) (BitVec.ofNat 64 v)) else BitVec.ofNat 64 v

/-- A local load (05 R128). -/
def bodyLdl (d a : GOp) (imm : BitVec 12) (n : Nat) (sgn : Bool) (c : Core) : CoreRes :=
  match c.loadLocal (effAddr (c.rg .A a) imm.toInt) n with
  | (c', .error e) => .trap c' e.cause e.eval
  | (c', .ok v) => .done (c'.wg .D d (extendBytes n sgn v) 3)

/-- A local store (05 R128). -/
def bodyStl (d a : GOp) (imm : BitVec 12) (n : Nat) (c : Core) : CoreRes :=
  match c.storeLocal (effAddr (c.rg .A a) imm.toInt) n ((c.rg .D d).toNat % 2 ^ (8 * n)) with
  | (c', some e) => .trap c' e.cause e.eval
  | (c', none) => .done c'

end Sys2Proof.Machine
end

