-- ==== Sys2Proof/Machine/Special.lean ====
section
/-! DEFINITION. The special registers: reading, writing, access by mode and the workspace invariant
(02 R35 to R40, 04 R103). -/

namespace Sys2Proof.Machine

/-- What a core reads of its surroundings: its numbers and the counters (02 R36, 00 R4, R5). -/
structure Ident where
  core : Nat
  site : Nat
  clus : Nat
  time : Nat
  cyc : Nat
  xcyc : Nat
  deriving DecidableEq, Repr

/-- The workspace invariant of 02 R35 on values of s.wp, s.twp, s.wsz and s.xb. -/
def workspaceOk (wp twp wsz xb : Nat) : Bool :=
  let size := 8 * (if wsz < 324 then 324 else wsz)
  decide (xb ≤ wp) && decide (xb ≤ twp) && decide (wp + size ≤ localSize) && decide (twp + size ≤ localSize)
    && decide (64 ≤ wsz) && decide (wsz ≤ 2047)

/-- A special register as rds returns it (02 R36). -/
def Core.special (c : Core) (id : Ident) (n : BitVec 12) : DWord :=
  match n.toNat with
  | 0x000 => c.sp.wp
  | 0x001 => c.sp.wsz
  | 0x002 => c.sp.ix
  | 0x003 => c.sp.xb
  | 0x004 => c.pc.setWidth 64
  | 0x005 => c.sp.psw
  | 0x006 => c.sp.epsw
  | 0x007 => c.sp.epc
  | 0x008 => c.sp.ebr
  | 0x009 => c.sp.cause
  | 0x00A => c.sp.eval
  | 0x00B => c.sp.tvec
  | 0x00C => c.sp.twp
  | 0x00D => c.sp.ewp
  | 0x00E => c.sp.ovl
  | 0x010 => c.sp.own
  | 0x011 => c.sp.vd
  | 0x020 => c.sp.fcsr
  | 0x030 => BitVec.ofNat 64 id.core
  | 0x031 => BitVec.ofNat 64 id.site
  | 0x032 => BitVec.ofNat 64 id.clus
  | 0x033 => c.sp.thr
  | 0x034 => c.sp.stch
  | 0x040 => c.sp.ss
  | 0x041 => BitVec.ofNat 64 id.xcyc
  | 0x042 => c.sp.gang
  | 0x050 => BitVec.ofNat 64 id.time
  | 0x051 => BitVec.ofNat 64 id.cyc
  | _ => 0

/-- The writable bits of a special register: reserved bits are dropped (02 R37, R38 to R40; 04 R103). -/
def specialMask (n : Nat) : DWord :=
  match n with
  | 0x000 => 0x3FFC0
  | 0x001 => 0x7FF
  | 0x003 => 0x7FFC0
  | 0x005 => 0x7
  | 0x006 => 0xF
  | 0x007 => 0x3FFFF
  | 0x008 => 0x3FFFF
  | 0x009 => 0x1FF
  | 0x00B => 0x3FFFC
  | 0x00C => 0x3FFC0
  | 0x00D => 0x3FFC0
  | 0x00E => 0x3FFFD
  | 0x010 => 0xFFFFF
  | 0x020 => 0x71F1F
  | _ => 0xFFFFFFFFFFFFFFFF

/-- The value that the register would hold: written bits from x, the R fields of s.psw and s.epsw as they stand
(02 R37, R38). -/
def Core.specialValue (c : Core) (n : Nat) (x : DWord) : DWord :=
  match n with
  | 0x005 => (x &&& 0x7) ||| (c.sp.psw &&& 0xF8)
  | 0x006 => (x &&& 0xF) ||| (c.sp.epsw &&& 0xF0)
  | _ => x &&& specialMask n

/-- The register set to a value already masked. -/
def Core.putSpecial (c : Core) (n : Nat) (v : DWord) : Core :=
  match n with
  | 0x000 => { c with sp := { c.sp with wp := v } }
  | 0x001 => { c with sp := { c.sp with wsz := v } }
  | 0x002 => { c with sp := { c.sp with ix := v } }
  | 0x003 => { c with sp := { c.sp with xb := v } }
  | 0x005 => { c with sp := { c.sp with psw := v } }
  | 0x006 => { c with sp := { c.sp with epsw := v } }
  | 0x007 => { c with sp := { c.sp with epc := v } }
  | 0x008 => { c with sp := { c.sp with ebr := v } }
  | 0x009 => { c with sp := { c.sp with cause := v } }
  | 0x00A => { c with sp := { c.sp with eval := v } }
  | 0x00B => { c with sp := { c.sp with tvec := v } }
  | 0x00C => { c with sp := { c.sp with twp := v } }
  | 0x00D => { c with sp := { c.sp with ewp := v } }
  | 0x00E => { c with sp := { c.sp with ovl := v } }
  | 0x010 => { c with sp := { c.sp with own := v } }
  | 0x020 => { c with sp := { c.sp with fcsr := v } }
  | 0x033 => { c with sp := { c.sp with thr := v } }
  | _ => c

/-- The lowest mode that may read a register: S for 0x006 to 0x00E (02 R36). -/
def readMode (n : BitVec 12) : Nat := if decide (0x006 ≤ n.toNat) && decide (n.toNat ≤ 0x00E) then 1 else 0

/-- The lowest mode that may write a register: U for s.wp, s.wsz, s.ix and s.fcsr, else S (02 R36). -/
def writeMode (n : BitVec 12) : Nat := if decide (n.toNat ≤ 0x002) || n == 0x020 then 0 else 1

/-- The invariant of 02 R35 with one register given a new value. -/
def Core.invariantWith (c : Core) (n : Nat) (v : DWord) : Bool :=
  let pick (k : Nat) (old : DWord) : Nat := if n = k then v.toNat else old.toNat
  workspaceOk (pick 0x000 c.sp.wp) (pick 0x00C c.sp.twp) (pick 0x001 c.sp.wsz) (pick 0x003 c.sp.xb)

/-- SetSpecial of 01 R29 with the causes of 02 R35 and R38; the register numbers and the mode have been checked.  Flags not
yet known are ORed into a new s.fcsr (04 R107). -/
def Core.setSpecial (c : Core) (n : BitVec 12) (x : DWord) : Except Exc Core :=
  let k := n.toNat
  let v := c.specialValue k x
  if k = 0x000 ∨ k = 0x001 ∨ k = 0x003 ∨ k = 0x00C then
    if c.invariantWith k v then .ok (c.putSpecial k v) else .error ⟨cLOCAL_RANGE, v⟩
  else if k = 0x005 ∨ k = 0x006 then
    if v.toNat % 4 = 2 then .error ⟨cILLEGAL_FIELD, v⟩
    else if v.toNat % 4 = 3 ∧ c.mode = 1 then .error ⟨cPRIVILEGE, 0⟩
    else .ok (c.putSpecial k v)
  else if k = 0x020 then .ok (c.putSpecial k (v ||| c.lateFlags.setWidth 64))
  else .ok (c.putSpecial k v)

/-- rds (05 R130): of s.fcsr, it waits until every flag is known (04 R107). -/
def bodyRds (id : Ident) (d : GOp) (n : BitVec 12) (c : Core) : CoreRes :=
  .done ({ c with late := if n = 0x020 then [] else c.late }.wg .D d (c.special id n) 1)

/-- wrs (05 R130). -/
def bodyWrs (a : GOp) (n : BitVec 12) (c : Core) : CoreRes :=
  match c.setSpecial n (c.rg .A a) with
  | .error e => .trap c e.cause e.eval
  | .ok c' => .done c'

end Sys2Proof.Machine
end

