-- ==== Sys2Proof/Machine/Control.lean ====
section
/-! DEFINITION. One core's course from instruction to instruction: fetching and its checks (02 R44, R45, 03 R60, R61),
delay slots (02 R53), trap entry (02 R55, R56, 16 R389), eret (02 R57, 06 R153) and rep (06 R147 to R154). -/

namespace Sys2Proof.Machine

/-- The address n bytes further, 18 bits kept (02 R44). -/
def addPc (pc : BitVec 18) (n : Nat) : BitVec 18 := pc + BitVec.ofNat 18 n

/-- The words of an instruction fetched one after another from address a under 02 R45 and R43, n of them from word k on:
the first at or above s.xb raises OVERLAY, the first with bad check bits LOCAL_ECC. -/
def Core.fetchFrom (c : Core) (a : Nat) : Nat → Core × Except Exc (List Word)
  | 0 => (c, .ok [])
  | n + 1 =>
    match c.eccWords [a / 8] with
    | (c', some e) => (c', .error e)
    | (c', none) =>
      match c'.fetchFrom (a + 4) n with
      | (c2, .error e) => (c2, .error e)
      | (c2, .ok ws) => (c2, .ok (c'.codeWord a :: ws))

/-- The words of the instruction at address a: steps 2 to 5 of 03 R84. -/
def Core.fetchAt (c : Core) (a : Nat) : Core × Except Exc (List Word) :=
  if c.xbAddr ≤ a then (c, .error ⟨cOVERLAY, BitVec.ofNat 64 a⟩)
  else
    match c.fetchFrom a 1 with
    | (c', .error e) => (c', .error e)
    | (c', .ok ws) =>
      let n := lengthOf (ws.headD 0)
      match (List.range n).find? (fun k => decide (c.xbAddr ≤ a + 4 * k)) with
      | some k => (c', .error ⟨cOVERLAY, BitVec.ofNat 64 (a + 4 * k)⟩)
      | none =>
        match c'.fetchFrom (a + 4) (n - 1) with
        | (c2, .error e) => (c2, .error e)
        | (c2, .ok rest) => (c2, .ok (ws ++ rest))

/-- The instruction in hand fetched: from the repeat buffer with no check (06 R148), else from local memory with step 1
of 03 R84 first. -/
def Core.fetch (c : Core) : Core × Except Exc (List Word) :=
  match c.rep with
  | some r => (c, .ok (r.body.getD r.idx (0, [])).2)
  | none =>
    if c.pc.toNat % 4 ≠ 0 then (c, .error ⟨cLOCAL_ALIGN, BitVec.ofNat 64 c.pc.toNat⟩)
    else c.fetchAt c.pc.toNat

/-- Where fetch goes after an instruction of len bytes: through the body of a repetition (06 R150), past a delay slot
(02 R53), or to the next address. -/
def Core.advance (len : Nat) (c : Core) : Core :=
  match c.rep with
  | some r =>
    if r.idx + 1 < r.body.length then
      { c with rep := some { r with idx := r.idx + 1 }, pc := (r.body.getD (r.idx + 1) (0, [])).1 }
    else if r.pass + 1 < r.count then
      { c with rep := some { r with idx := 0, pass := r.pass + 1 }, pc := (r.body.getD 0 (0, [])).1 }
    else { c with rep := none, pc := r.after }
  | none =>
    match c.ds with
    | .taken t => { c with ds := .none, pc := t }
    | .fallThrough => { c with ds := .none, pc := addPc c.pc len }
    | .none => { c with pc := addPc c.pc len }

/-- Branch of 01 R29, or a branch not taken: the next instruction is the delay slot (02 R53). -/
def Core.branchTo (len : Nat) (d : DelaySlot) (c : Core) : Core := { c with ds := d, pc := addPc c.pc len }

/-- s.psw with a mode and an interrupt enable (02 R38). -/
def pswWith (psw : DWord) (mode : Nat) (ie : Bool) : DWord :=
  (psw &&& 0xFFFFFFFFFFFFFFF8) ||| BitVec.ofNat 64 mode ||| (if ie then 4 else 0)

/-- The cause is delegated to M for a trap raised in this mode (16 R389, 05 R139). -/
def delegated (deleg : DWord) (mode cause : Nat) : Bool :=
  mode == 3 || deleg.getLsbD (cause / 32) || (cause == cSYSCALL && mode != 0)

/-- The trap is a double trap: the handler has not moved off the trap workspace (02 R56, R58), or three streams are
held already (16 R395). -/
def Core.isDoubleTrap (c : Core) : Bool := c.sp.wp == c.sp.twp || decide (3 ≤ c.held.length)

/-- Where s.ebr points for a trap in a delay slot (02 R55): the branch target, or the address after the slot, whose length is that of the
stored word at its address even when that word could not be fetched (log 62). -/
def Core.trapEbr (c : Core) : DWord :=
  match c.ds with
  | .none => c.sp.ebr
  | .taken t => t.setWidth 64
  | .fallThrough => (addPc c.pc (4 * lengthOf (c.codeWord c.pc.toNat))).setWidth 64

/-- TrapEntry of 02 R56 for the instruction at s.pc, with the delegation registers of 16 R389; the stream's shadows and
its repetition are held (02 R49, 06 R153). -/
def Core.trapEntry (deleg mvec : DWord) (e : Exc) (c : Core) : Core :=
  let toM := delegated deleg c.mode e.cause
  let vector : BitVec 18 :=
    if toM then mvec.setWidth 18 &&& 0x3FFFC
    else if e.cause == cOVERLAY && c.sp.ovl.getLsbD 0 then c.sp.ovl.setWidth 18 &&& 0x3FFFC
    else c.sp.tvec.setWidth 18 &&& 0x3FFFC
  { c with
    sp := { c.sp with
      epsw := (c.sp.psw &&& 0xFFFFFFFFFFFFFFF7) ||| (if c.ds = .none then 0 else 8)
      epc := c.pc.setWidth 64
      ebr := c.trapEbr
      cause := BitVec.ofNat 64 e.cause
      eval := e.eval
      ewp := c.sp.wp
      wp := c.sp.twp
      psw := pswWith c.sp.psw (if toM then 3 else 1) false }
    pc := vector
    ds := .none
    rep := none
    shadows := []
    held := ⟨c.shadows, c.rep⟩ :: c.held }

/-- How a repetition held through a trap goes on when eret returns to an address (06 R153). -/
def Rep.resumeAt (r : Rep) (epc : BitVec 18) : Option Rep :=
  match r.body.findIdx? (fun x => x.1 == epc) with
  | some j => some { r with idx := j }
  | none => if epc == r.after && decide (r.pass + 1 < r.count) then some { r with pass := r.pass + 1, idx := 0 } else none

/-- Where the resumed repetition issues next. -/
def resumePc (r : Option Rep) (epc : BitVec 18) : BitVec 18 :=
  match r with
  | some r => (r.body.getD r.idx (0, [])).1
  | none => epc

/-- eret (02 R57), its mode checked before: the core in the stream returned to.  Shadows that the handler left open stay open in it
(log 63), and a delay slot to run drops the repetition that the address lies in (log 66). -/
def bodyEret (c : Core) : CoreRes :=
  let em := c.sp.epsw.toNat % 4
  if c.mode < em then .trap c cPRIVILEGE 0
  else if !workspaceOk c.sp.ewp.toNat c.sp.twp.toNat c.sp.wsz.toNat c.sp.xb.toNat then .trap c cLOCAL_RANGE c.sp.ewp
  else
    let epc : BitVec 18 := c.sp.epc.setWidth 18
    let inDs := c.sp.epsw.getLsbD 3
    let h : Held := c.held.headD ⟨[], none⟩
    let rep := if inDs then none else h.rep.bind (fun r => r.resumeAt epc)
    .done { c with
      sp := { c.sp with psw := pswWith c.sp.psw em (c.sp.epsw.getLsbD 2), wp := c.sp.ewp }
      shadows := h.shadows ++ c.shadows
      held := c.held.tail
      rep := rep
      pc := resumePc rep epc
      ds := if inDs then .taken (c.sp.ebr.setWidth 18) else .none }

/-- The body instructions that rep refuses (06 R149), by the first two words.  Unassigned majors and functions are not
refused here. -/
def repForbidden (ws : List Word) : Bool :=
  let w := ws.headD 0
  let op := majorOf w
  let f := (w.extractLsb' 26 6).toNat
  if w.getLsbD 1 then
    let sub := ((ws.getD 1 0).extractLsb' 25 7).toNat
    match op with
    | 0x03 => sub == 0
    | 0x10 => decide (sub < 8)
    | 0x11 => decide (sub < 5)
    | 0x12 => decide (sub < 4)
    | 0x13 => decide (sub < 2)
    | 0x14 => decide (sub < 5)
    | 0x18 => decide (sub < 5)
    | 0x19 => decide (sub < 5)
    | 0x1A => decide (sub < 6)
    | 0x20 => decide (sub < 6)
    | 0x21 => decide (sub < 4)
    | 0x22 => decide (sub < 4)
    | 0x23 => decide (sub < 8)
    | 0x24 => decide (sub < 2)
    | 0x30 => decide (sub < 6)
    | _ => false
  else if decide (0x10 ≤ op) && decide (op ≤ 0x17) then true
  else
    match op with
    | 0x18 => decide (f < 2)
    | 0x19 => true
    | 0x37 => false
    | 0x3C => decide (f ≤ 8) || (decide (16 ≤ f) && decide (f ≤ 24))
    | 0x3E => false
    | 0x3F => decide (f < 7) && f != 4 && f != 5
    | _ => decide (0x30 ≤ op) && decide (op ≤ 0x3D)

/-- The body captured word by word (06 R148), each instruction with its own checks of fetch in turn (log 69): n instructions from
address a. -/
def Core.capture (c : Core) (a : Nat) : Nat → Core × Except Exc (List (BitVec 18 × List Word))
  | 0 => (c, .ok [])
  | n + 1 =>
    match c.fetchAt a with
    | (c', .error e) => (c', .error e)
    | (c', .ok ws) =>
      match c'.capture (a + 4 * ws.length) n with
      | (c2, .error e) => (c2, .error e)
      | (c2, .ok t) => (c2, .ok ((BitVec.ofNat 18 a, ws) :: t))

/-- The address after a captured body. -/
def bodyEnd (a : BitVec 18) (body : List (BitVec 18 × List Word)) : BitVec 18 :=
  body.foldl (fun p x => addPc p (4 * x.2.length)) a

/-- rep (06 R148 to R150, R153): a rep that issues drops a repetition held through a trap. -/
def bodyRep (cr : Bool) (a : GOp) (nc : BitVec 12) (len : BitVec 4) (sd sa sb sc : BitVec 3) (c : Core) : CoreRes :=
  let n := if cr then (c.rg .A a).toNat else nc.toNat + 1
  let start := addPc c.pc 12
  match c.capture start.toNat (len.toNat + 1) with
  | (c', .error e) => .trap c' e.cause e.eval
  | (c', .ok body) =>
    match body.find? (fun x => repForbidden x.2) with
    | some x => .trap c' cREP_BODY (x.1.setWidth 64)
    | none =>
      if 4096 < n then .trap c' cREP_BODY (BitVec.ofNat 64 n)
      else
        let after := bodyEnd start body
        .done { c' with
          held := c'.held.map (fun h => { h with rep := none })
          rep := if n = 0 then none else some ⟨c.pc, body, after, n, 0, 0, sd, sa, sb, sc⟩
          pc := if n = 0 then after else start }

end Sys2Proof.Machine
end

