-- ==== Sys2Proof/Machine/HubState.lean ====
section
/-! DEFINITION. The state of the scheduler, the governors, the budgets, the trace units, the start sequencer and the ports
(14 R361, R362; 17; 18 R447; 19; 20). -/

namespace Sys2Proof.Machine

/-- A launch queue as the scheduler has it (17 R420 to R422). -/
structure Ring where
  watched : Bool
  header : Nat
  owner : Nat
  sm : Bool
  logN : Nat
  head : Nat
  status : Nat
  /-- the tail as last read -/
  tail : Nat
  deriving DecidableEq, Repr

/-- A reservation's account in one region (17 R418), in ticks. -/
structure Account where
  remaining : Nat
  debt : Nat
  deriving DecidableEq, Repr

/-- An installed reservation (17 R416 to R418). -/
structure Reservation where
  mask : Nat
  period : Nat
  budget : Nat
  util : Nat
  /-- the start of the current period, in ticks -/
  start : Nat
  accounts : Table Account
  deriving DecidableEq, Repr

/-- A linked gang whose parts are being taken (17 R430): its number in its device, SSM, RB and PRIO of its first part, the parts that
have not been taken, and whether a disagreement has refused it. -/
structure Forming where
  num : Nat
  fields : Nat
  rest : Nat
  bad : Bool
  deriving DecidableEq, Repr

/-- A virtual device (17 R414 to R435). -/
structure VDev where
  enabled : Bool
  /-- the 64 words of its descriptor as last read -/
  desc : List Nat
  rings : Table Ring
  slots : Table Reservation
  pending : List Nat
  /-- image tags in use: the launch and the number of live threads -/
  tags : Table (Nat × Nat)
  /-- by link, the linked gang whose parts are being taken (17 R430) -/
  links : Table Forming
  /-- how many linked gangs have begun: the model's own count -/
  formed : Nat
  deriving DecidableEq, Repr

def VDev.reset : VDev := ⟨false, [], [], [], [], [], [], 0⟩

/-- A launch (17 R423 to R433). -/
structure Launch where
  vd : Nat
  queue : Nat
  pos : Nat
  record : List Nat
  header : List Nat
  owner : Nat
  sm : Bool
  tag : Nat
  status : Nat
  state : Nat
  age : Nat
  pval : Bool
  pred : Nat
  /-- dependencies satisfied (17 R426) -/
  dep0 : Bool
  dep1 : Bool
  region : Nat
  clusters : List Nat
  cores : List Nat
  /-- the handles of placed threads that have not ended -/
  live : List Nat
  gang : Option Nat
  /-- the number of its linked gang in its device (17 R430); 0: none -/
  part : Nat
  cause : Nat
  value : Nat
  /-- a fault is to end it, with this cause and value (17 R433) -/
  failed : Option (Nat × Nat)
  deriving DecidableEq, Repr

/-- A request for leave (14 R361): site, engine 0 to 3, class. -/
structure LeaveReq where
  site : Nat
  eng : Nat
  cls : Nat
  deriving DecidableEq, Repr

/-- The governor of a quadrant (14 R361): registers and its FIFO of requests. -/
structure Governor where
  lim : Nat
  est : Nat
  cls : List Nat
  wait : Nat
  fifo : List LeaveReq
  /-- draws granted and not given back: (site, engine, draw) -/
  out : List (Nat × Nat × Nat)
  deriving DecidableEq, Repr

/-- A governor after reset: limit and draws by the assumption log (log 3). -/
def Governor.reset : Governor := ⟨1080, 0, [16, 32, 64, 64], 0, [], []⟩

/-- An activity budget of a die (14 R362). -/
structure Budget where
  stall : Nat
  used : Nat
  budget : Nat
  deriving DecidableEq, Repr

def budgetReset : List Budget :=
  [⟨0, 0, 500⟩, ⟨0, 0, 500⟩, ⟨0, 0, 1000⟩, ⟨0, 0, 2000⟩, ⟨0, 0, 1000⟩, ⟨0, 0, 10000⟩, ⟨0, 0, 1000⟩]

/-- A page that a trace unit has open: its virtual and physical address, its key slot, and whether it is bias-managed. -/
structure TracePage where
  va : Nat
  pa : Nat
  key : Nat
  bm : Bool
  deriving DecidableEq, Repr

/-- A trace unit (19 R456 to R459): registers, buffer of records of four words, the open page, its time base. -/
structure TraceUnit where
  ctl : DWord
  list : DWord
  npg : Nat
  lo : DWord
  hi : DWord
  page : Nat
  rec_ : Nat
  drop : Nat
  full : Bool
  buf : List (List Nat)
  open_ : Option TracePage
  last : Nat
  gap : Nat
  /-- it stopped: it tries the pages from the given one on, and the next page it opens starts with a TRACE_GAP record -/
  stopped : Option Nat
  deriving DecidableEq, Repr

def TraceUnit.reset : TraceUnit := ⟨0, 0, 0, 0, 0, 0, 0, 0, false, [], none, 0, 0, none⟩

/-- A port of the hub (18 R447, 20 R474). -/
structure Port where
  rate : Nat
  flit256 : Bool
  host : Bool
  down : Bool
  deriving DecidableEq, Repr

/-- Why a start failed, as a recovery boot reports it (20 R464 to R467, 16 R391). -/
inductive StartFault where
  /-- none has failed -/
  | none
  /-- a step failed or timed out -/
  | step
  /-- fewer than 1,000 cores of a die were reached -/
  | cores
  /-- the firmware image did not verify -/
  | image
  /-- a core found another digest of the boot image -/
  | digest
  /-- a double trap in M mode -/
  | doubleTrap
  deriving DecidableEq, Repr

/-- An image in the flash as its verification sees it (20 R468; log 55): the digest of the public key that comes with it, whether its
signature verifies under that key, its rollback number. -/
structure SignedImage where
  key : BitVec 256
  signed : Bool
  roll : Nat
  deriving DecidableEq, Repr

/-- The start of the module (20 R464 to R468, R477): boot.stat's fields, what the flash holds, discovery and multicast
under way. -/
structure Boot where
  step : Nat
  fails : Nat
  warm : Bool
  recov : Bool
  /-- the flash: consecutive failed starts and the signature index -/
  flashFails : Nat
  sigIndex : Nat
  /-- a start is under way -/
  going : Bool
  /-- the failed step, cause and die that a recovery boot reports -/
  failStep : Nat
  failDie : Nat
  failCause : StartFault
  /-- discovery: site to (x, y, parent) -/
  found : Table (Nat × Nat × Nat)
  /-- sites that hold the boot image -/
  imaged : List Nat
  /-- the sites that the fuses give as absent, and the boot image that the flash holds -/
  fuses : List Nat
  /-- the fused digest of the firmware key and the least rollback number of an image (20 R468) -/
  keyDigest : BitVec 256
  rollback : Nat
  /-- the firmware image and the recovery image in the flash (20 R467, R468) -/
  firmware : SignedImage
  recovery : SignedImage
  image : Memory
  /-- the absent sites by the last discovery, which hub SRAM keeps while the package has power (00 R5, 20 R467) -/
  map : Option (List Nat)
  deriving DecidableEq, Repr

end Sys2Proof.Machine
end

