-- ==== Sys2Proof/Machine/State.lean ====
section
/-! DEFINITION. The state of the module, the reasons a step can stop, and the state after reset. -/

namespace Sys2Proof.Machine

/-- Why the machine stops for good: it never does.  The manual ends every fault of a core, an engine or an access in a
trap, a record, a reset of a sector or the end of a launch, and the other agents go on; so this type has no value. -/
inductive Fault where
  deriving DecidableEq, Repr

/-- Why an instruction has no meaning here. -/
inductive Refusal where
  /-- raised by an arm of exec that has no meaning yet; safe -/
  | notModelled (mnemonic : String)
  deriving DecidableEq, Repr

/-- How a party outside the module answers (16 R388). -/
inductive Answer where
  /-- it serves accesses -/
  | serves
  /-- it refuses them -/
  | refuses
  /-- it does not answer -/
  | silent
  deriving DecidableEq, Repr

/-- What comes from outside the units that the manual numbers, and what no rule times: an entry or a line that a cache gives
up, an upset, an answer or a store of a party outside. -/
inductive Input where
  /-- a core's TLB, a cluster's, a die's walk cache and a core's RLB drop their i-th entry, or find its parity bad at a
  lookup (10 R245, R247; 11 R271) -/
  | dropTlb (site i : Nat) (bad : Bool)
  | dropClusTlb (cluster i : Nat) (bad : Bool)
  | dropWalk (die i : Nat) (bad : Bool)
  | dropRlb (site i : Nat) (bad : Bool)
  /-- an agent evicts a sector, a die a tag (12 R286, R303) -/
  | evictSector (sector agent : Nat)
  | evictTag (line : Nat)
  /-- upsets: bits of a scratchpad word, a sector in HBM or in a slice or a remote-data cache, its token state, a swatch,
  the second read of a leaf (16 R403, 10 R248) -/
  | upsetWord (site word : Nat) (mask : DWord)
  | upsetHbm (sector : Nat) (unc : Bool)
  | upsetCache (sector agent : Nat) (unc : Bool)
  | upsetTokens (sector : Nat) (unc : Bool)
  | upsetSwatch (die i : Nat) (unc : Bool)
  | upsetLeaf (word : Nat) (diff : DWord)
  /-- an uncorrectable error in an entry of a core's undo log in HBM (09 R237) -/
  | upsetUndo (site i : Nat)
  /-- a unit of a die's refresh-related work, which waits while its budget is exhausted (14 R362; log 6) -/
  | refresh (die : Nat)
  /-- a debugger asks for a superstep gang to be stopped (09 R221, 19 R462) -/
  | debugStop (gang : Nat)
  /-- the host stores to its own memory, or to a sector that it holds for writing; another device's memory changes -/
  | hostStore (addr n value : Nat)
  | hostModify (sector value : Nat)
  | extStore (addr n value : Nat)
  /-- the firmware image, or the recovery image, in the flash is replaced (20 R467, R468) -/
  | flashImage (recovery : Bool) (x : SignedImage)
  /-- how the host, or the target of an identifier, answers from now on (16 R388) -/
  | hostAnswers (a : Answer)
  | extAnswers (dpid : Nat) (a : Answer)
  deriving DecidableEq, Repr

/-- What happens next, apart from the current core's issue: which agent moves (log 8). -/
inductive Move where
  /-- the core at a site issues -/
  | issue (site : Nat)
  /-- a step that the module takes by itself -/
  | event (e : Instr)
  /-- something from outside -/
  | input (x : Input)
  deriving DecidableEq, Repr

/-- The error log registers of a die (16 R406). -/
structure ErrLog where
  base : DWord
  size : DWord
  head : DWord
  drop : Nat
  corr : DWord
  deriving DecidableEq, Repr

/-- A context saved for a virtual device (16 R393, 17 R419): the core as it stopped, of which the image in its site slot holds
what 16 R393 lists. -/
structure Saved where
  core : Core
  /-- its launch has ended, and it is not resumed -/
  dead : Bool
  deriving DecidableEq, Repr

/-- One compute die: its registers and the units at its home. -/
structure Die where
  root : DWord
  ownBase : DWord
  ownLim : DWord
  deleg : DWord
  mvec : DWord
  el : ErrLog
  l2 : L2
  walk : List WalkEntry
  migs : List Migration
  /-- commands of mig.cmd not yet taken, oldest first (18 R440) -/
  migCmds : List Nat
  migDrop : Bool
  migDone : DWord
  budgets : List Budget
  tr : TraceUnit
  /-- the stopped copy of the time counter of a gated die (19 R461) -/
  gated : Option Nat
  deriving DecidableEq, Repr

/-- A die after reset (16 R389, R406; 20 R473; 12 R307; 18 R440). -/
def Die.reset : Die :=
  { root := 0
    ownBase := 0
    ownLim := 1
    deleg := 0
    mvec := 0
    el := ⟨0, 0, 0, 0, 0⟩
    l2 := ⟨[], [], [], 0, 0, 0⟩
    walk := []
    migs := []
    migCmds := []
    migDrop := false
    migDone := 0
    budgets := budgetReset
    tr := TraceUnit.reset
    gated := none }

/-- A fabric window (18 R448). -/
structure Window where
  map : DWord
  base : DWord
  tout : Nat
  refuse : Nat
  deriving DecidableEq, Repr

/-- The registers and tables of the hub. -/
structure Hub where
  windows : Table Window
  keySlots : Table Nat
  ksRefused : Bool
  /-- hb.base, and whether it has been written (18 R452) -/
  hbBase : DWord
  hbSet : Bool
  /-- the key slot of the device's own writes to a sector that carries none: the model's own field (log 12) -/
  ownSlot : Nat
  hbDrop : Bool
  hbDone : DWord
  flips : List Flip
  /-- sch.vdt and the fields of sch.stat (17 R413) -/
  vdt : DWord
  schSum : Nat
  schRegion : Nat
  schBad : Bool
  schRefused : Bool
  /-- the scheduler's access that homes have refused, and how often (10 R255, 18 R442) -/
  schMoved : Nat × Nat
  /-- the watched rings whose tails have changed, by device and ring, in the order of the stores (17 R421) -/
  tails : List (Nat × Nat)
  /-- commands of sch.cmd and ks.cmd in progress (17 R413, 20 R471) -/
  schCmd : Option Nat
  ksCmd : Option Nat
  deriving DecidableEq, Repr

/-- The arbiter of a cluster's matrix unit: credits by slot, and the last slot served (15 R366). -/
structure Arbiter where
  credits : List Nat
  last : Nat
  deriving DecidableEq, Repr

/-- The module. -/
structure State where
  time : Nat
  cyc : Table Nat
  free : Nat
  cur : Nat
  agenda : List Move
  cores : Table Core
  dies : Table Die
  hub : Hub
  fused : List Nat
  stackGib : List Nat
  errInj : Bool
  mem : Memory
  sectors : Table Sector
  msgs : Table Msg
  reqs : Table TReq
  hints : Table Hint
  regions : List Region
  pe : Bool
  hbmErr : Table Bool
  homeDiff : Table DWord
  clusTlb : Table (List TlbEntry)
  rounds : Table Round
  incomingFrames : Table Nat
  pins : List Pin
  traceQ : List TraceEv
  hostMem : Memory
  hostLines : Table HostLine
  hostAns : Answer
  hostCache : Table Nat
  extMem : Memory
  extAns : Table Answer
  /-- sectors of other devices' memory that are poisoned (18 R441, R444), by target address / 64 -/
  extPoison : List Nat
  chans : Table Channel
  releases : List Release
  gangs : Table Gang
  xmsgs : Table XMsg
  ords : Table OrdOp
  lands : Table OrdLand
  probes : Table Probe
  waiters : List Waiter
  /-- lost threads whose ending is not complete (08 R190) -/
  owed : List Owed
  /-- the cores of protected gangs as recorded at the last release, their local memory apart, and the undo logs that hold
  it (09 R235), by gang * 4096 + site -/
  snaps : Table Core
  undo : Table UndoLog
  vds : Table VDev
  launches : Table Launch
  /-- by virtual device * 4096 + site -/
  saved : Table Saved
  /-- the virtual device that holds a region (17 R419) -/
  holders : Table Nat
  governors : Table Governor
  /-- matrix weights by quadrant * 32 + q (15 R367) -/
  mxWeights : Table DWord
  arbiters : Table Arbiter
  /-- the dividers of the islands (20 R475) -/
  dividers : Table Nat
  ports : Table Port
  boot : Boot
  deriving DecidableEq, Repr

/-- The module right after a completed cold start (20 R464). -/
def State.reset : State :=
  { time := 0
    cyc := []
    free := 0
    cur := 0
    agenda := []
    cores := []
    dies := []
    hub := { windows := [], keySlots := [], ksRefused := false, hbBase := 0, hbSet := false, ownSlot := 0, hbDrop := false, hbDone := 0,
             flips := [], vdt := 0, schSum := 0, schRegion := 0, schBad := false, schRefused := false, schMoved := (0, 0), tails := [], schCmd := none,
             ksCmd := none }
    fused := []
    stackGib := List.replicate 16 48
    errInj := true
    mem := []
    sectors := []
    msgs := []
    reqs := []
    hints := []
    regions := []
    pe := false
    hbmErr := []
    homeDiff := []
    clusTlb := []
    rounds := []
    incomingFrames := []
    pins := []
    traceQ := []
    hostMem := []
    hostLines := []
    hostAns := .serves
    hostCache := []
    extMem := []
    extAns := []
    extPoison := []
    chans := []
    releases := []
    gangs := []
    xmsgs := []
    ords := []
    lands := []
    probes := []
    waiters := []
    owed := []
    snaps := []
    undo := []
    vds := []
    launches := []
    saved := []
    holders := []
    governors := []
    mxWeights := []
    arbiters := []
    dividers := []
    ports := []
    boot :=
      { step := 7, fails := 0, warm := false, recov := false, flashFails := 0, sigIndex := 0, going := false,
        failStep := 0, failDie := 0, failCause := .none, found := [], imaged := [], fuses := [], keyDigest := 0, rollback := 0,
        firmware := ⟨0, true, 0⟩, recovery := ⟨0, true, 0⟩, image := [], map := some [] } }

end Sys2Proof.Machine
end

