-- ==== Sys2Proof/Machine/Ops.lean ====
section
/-! DEFINITION. Shared operations on the machine: the cores and their numbers, issuing an instruction of one core under
the order of 03 R84, taking an exception (02 R56) and waiting in place (08 R181). -/

namespace Sys2Proof.Machine

/-- The outcome of a step. -/
abbrev Out := Host.Outcome State Fault Refusal

/-- The die, row and column of a site number, die * 1024 + 32 * y + x (00 R4). -/
def siteDie (site : Nat) : Nat := site / 1024
def siteY (site : Nat) : Nat := site / 32 % 32
def siteX (site : Nat) : Nat := site % 32

/-- The cluster of a site within its die, and in the package (00 R4). -/
def siteCluster (site : Nat) : Nat := siteY site / 4 * 16 + siteX site / 2
def sitePkgCluster (site : Nat) : Nat := siteDie site * 128 + siteCluster site

/-- The slot of a site within its cluster (08 R204). -/
def siteSlot (site : Nat) : Nat := siteY site % 4 * 2 + siteX site % 2

/-- The region of a site, 0 to 63 over the package (00 R4). -/
def siteRegion (site : Nat) : Nat := siteDie site * 16 + siteY site / 16 * 8 + siteX site / 4

/-- The quadrant of a site, 0 to 15 over the package (00 R4). -/
def siteQuad (site : Nat) : Nat := siteDie site * 4 + siteY site / 16 * 2 + siteX site / 16

/-- s.site (02 R40): die, y, x. -/
def siteReg (site : Nat) : Nat := site % 4096

/-- s.clus (02 R40). -/
def clusReg (site : Nat) : Nat := sitePkgCluster site

/-- The sites of a cluster of the package by slot (00 R4, 08 R204). -/
def clusterSite (pkgCluster slot : Nat) : Nat :=
  let die := pkgCluster / 128
  let k := pkgCluster % 128
  die * 1024 + 32 * (k / 16 * 4 + slot / 2) + (k % 16 * 2 + slot % 2)

/-- The package logical number of a site: its position among working sites (00 R5). -/
def State.logical (s : State) (site : Nat) : Nat := site - (s.fused.filter (fun f => decide (f < site))).length

/-- The start has completed (20 R464, R477). -/
def State.started (s : State) : Bool := s.boot.step == 7 && !s.boot.going && !s.boot.recov

/-- The site is not fused off, nor absent for want of a discovery packet (20 R465). -/
def State.present (s : State) (site : Nat) : Bool := decide (site < 4096) && !s.fused.contains site

/-- The site holds a working core of a started module. -/
def State.works (s : State) (site : Nat) : Bool := s.started && s.present site

/-- The core at a site. -/
def State.core (s : State) (site : Nat) : Core :=
  tabGet s.cores site (Core.reset (BitVec.ofNat 64 (siteSlot site * 256)))

/-- The core at a site replaced. -/
def State.putCore (s : State) (site : Nat) (c : Core) : State := { s with cores := tabSet s.cores site c }

/-- The registers of a die. -/
def State.die (s : State) (d : Nat) : Die := tabGet s.dies d Die.reset
def State.putDie (s : State) (d : Nat) (x : Die) : State := { s with dies := tabSet s.dies d x }

/-- The cycle count of a core's island (00 R1, 19 R463). -/
def State.cycOf (s : State) (site : Nat) : Nat := tabGet s.cyc (siteQuad site) 0

/-- What a core reads of its surroundings (02 R36). -/
def State.ident (s : State) (site : Nat) : Ident :=
  { core := s.logical site, site := siteReg site, clus := clusReg site, time := s.time, cyc := s.cycOf site,
    xcyc := if (s.core site).sp.psw.getLsbD 4 then s.cycOf site - (s.core site).xbase else 0 }

/-- One more of a performance counter (19 R463). -/
def Core.count (k n : Nat) (c : Core) : Core := { c with cnt := tabSet c.cnt k ((tabGet c.cnt k 0 + n) % 2 ^ 64) }

/-- What is asked of an instruction before its own causes (03 R84 steps 8 to 13): whether it is a control instruction
(02 R54), the lowest mode, its rounding code, its operands in the order A, B, C, D, S, mask. -/
structure Req where
  ctl : Bool := false
  mode : Nat := 0
  rm : BitVec 3 := 0
  uses : List Use
  deriving DecidableEq, Repr

/-- Steps 8 (the dynamic rounding mode) to 12 of 03 R84 and the check bits of the operands: the core with corrections
written back, and the first cause. -/
def Core.gate (r : Req) (c : Core) : Core × Option Exc :=
  if c.badRM r.rm then (c, some ⟨cILLEGAL_FIELD, c.evalWords⟩)
  else if r.ctl && c.ds != .none then (c, some ⟨cDS_CONTROL, 0⟩)
  else if c.mode < r.mode then (c, some ⟨cPRIVILEGE, 0⟩)
  else c.pre r.uses

/-- An instruction that concerns its own core alone: the gate, one slot for the open shadows (02 R49), its body, and
where fetch goes next.  A trapped instruction counts no slot (02 R49) and changes nothing (01 R30). -/
def Core.runOne (r : Req) (next : Core → Core) (body : Core → CoreRes) (c : Core) : CoreRes :=
  match c.gate r with
  | (c1, some e) => .trap c1 e.cause e.eval
  | (c1, none) =>
    match body c1.tickShadows with
    | .done c2 => .done { (next c2).count 1 1 with wait := .none }
    | .trap c2 cause eval => .trap { c2 with shadows := c1.shadows, late := c1.late } cause eval

/-- The refusals that are not the core's own instruction's: those of its engines' and of the device's accesses for it stay (10 R255). -/
def Core.othersMoves (c : Core) : List (Nat × Nat × Nat) := c.moved.filter (fun m => m.1 != 5)

/-- The core after a trap: TrapEntry of 02 R56, or the stop of a double trap, which leaves the saved registers as the
first trap set them (02 R58). -/
def Core.takeTrap (deleg mvec : DWord) (e : Exc) (c : Core) : Core :=
  let c' : Core := { c.count 7 1 with wait := .none, moved := c.othersMoves }
  if c.isDoubleTrap then { c' with run := .stopped, dbl := true } else c'.trapEntry deleg mvec e

/-- The cause is the consumption of an uncorrectable error (09 R237, 16 R404). -/
def consumes (cause : Nat) : Bool := cause == cLOCAL_ECC || cause == cUNCORRECTABLE || cause == cABFT_MULTI

/-- Fields of s.stch (08 R204): MASK, LEAD, FORMED; the members of a mask as sites. -/
def Core.stMask (c : Core) : Nat := c.sp.stch.toNat % 256
def Core.stLead (c : Core) : Nat := c.sp.stch.toNat / 2 ^ 11 % 8
def Core.formed (c : Core) : Bool := c.sp.stch.getLsbD 17
def maskSites (site mask : Nat) : List Nat :=
  ((List.range 8).filter (fun j => mask.testBit j)).map (fun j => clusterSite (sitePkgCluster site) j)

/-- A member out of its stitch (08 R206): MASK stays, FORMED and s.psw.STCH are clear (08 R204). -/
def Core.unstitched (c : Core) : Core :=
  if c.formed then
    { c.count 14 1 with
      sp := { c.sp with stch := c.sp.stch &&& 0xFFFFFFFFFFFDFFFF, psw := c.sp.psw &&& 0xFFFFFFFFFFFFFF7F }, trail := [] }
  else c

/-- When the leader of a stitch leaves it, every follower does (08 R206). -/
def State.freeFollowers (s : State) (site : Nat) : State :=
  let c := s.core site
  if c.formed && c.stLead == siteSlot site then
    (maskSites site c.stMask).foldl (fun s t => if t = site then s else s.putCore t (s.core t).unstitched) s
  else s

/-- A core unstitches (08 R206). -/
def State.unstitch (s : State) (site : Nat) : State :=
  let s1 := s.freeFollowers site
  s1.putCore site (s1.core site).unstitched

/-- TAKING AN EXCEPTION: the core at a site enters its trap with the delegation registers of its die (02 R56,
16 R389).  A member of a stitch unstitches first (08 R206).  In a protected gang, a consumed error stops the core for the rollback of its gang instead (09 R237). -/
def State.trapAt (s : State) (site : Nat) (c : Core) (e : Exc) : State :=
  let s := s.freeFollowers site
  let c := c.unstitched
  if c.sp.psw.getLsbD 6 && consumes e.cause then
    s.putCore site { c with run := .consumed, wait := .none, moved := c.othersMoves, lost := e.cause }
  else s.putCore site (c.takeTrap (s.die (siteDie site)).deleg (s.die (siteDie site)).mvec e)

/-- The result of a core-local instruction of the current core placed in the machine. -/
def State.settleCore (s : State) (r : CoreRes) : State :=
  match r with
  | .done c => s.putCore s.cur c
  | .trap c cause eval => s.trapAt s.cur c ⟨cause, eval⟩

/-- A core-local instruction of the current core. -/
def State.local_ (s : State) (r : Req) (next : Core → Core) (body : Core → CoreRes) : Out :=
  .next (s.settleCore ((s.core s.cur).runOne r next body))

/-- The bytes of the result records and captures that a local access waits for (09 R227, 13 R319). -/
def Core.pendingBytes (c : Core) : List (Nat × Nat) :=
  c.ordPend.map (fun p => (p.1, 16))
    ++ (c.exch.arms.filter (fun a => !a.filled && !a.passed)).map (fun a => (a.dst, a.len))

/-- A local access to n bytes at a must wait (09 R227, 13 R319). -/
def Core.localBusy (c : Core) (a : Int) (n : Nat) : Bool :=
  c.pendingBytes.any (fun p => decide (a < p.1 + p.2) && decide ((p.1 : Int) < a + n))

/-- A core-local instruction of the current core that accesses local memory at the given places: it waits while one of
them is pending. -/
def State.localAt (s : State) (r : Req) (next : Core → Core) (touch : Core → List (Int × Nat)) (body : Core → CoreRes) : Out :=
  let c := s.core s.cur
  if (c.gate r).2.isNone && (touch c).any (fun p => c.localBusy p.1 p.2) then .next (s.putCore s.cur { c with wait := .busy })
  else s.local_ r next body

/-- How an instruction that concerns more than its own core ends: done, with a cause (01 R30), or not yet, so that it
waits in place (02 R51, 08 R181). -/
inductive SRes where
  | done (s : State)
  | trap (s : State) (e : Exc)
  | wait (s : State) (w : Wait)
  deriving DecidableEq, Repr

/-- An instruction of the core at a site that concerns more than its core, its gate passed: its body runs with one slot
counted for the open shadows; an instruction that traps or waits counts none (02 R49). -/
def State.settle (s : State) (site : Nat) (next : Core → Core) (body : State → SRes) : Out :=
  let c := s.core site
  match body (s.putCore site c.tickShadows) with
  | .done s' => .next (s'.putCore site ((next { s'.core site with wait := .none, moved := (s'.core site).othersMoves }).count 1 1))
  | .trap s' e => .next (s'.trapAt site { s'.core site with shadows := c.shadows, late := c.late } e)
  | .wait s' w => .next (s'.putCore site { s'.core site with shadows := c.shadows, late := c.late, wait := w })

/-- A core has stopped issuing, and its stop is not complete: its work in flight settles (16 R392). -/
def Core.settling (c : Core) : Bool := c.run == .stopped && c.stop.isNone

/-- What a running core waits for in place. -/
def Core.waiting (c : Core) : Wait := if c.run = .running then c.wait else .none

/-- An instruction of the current core that concerns more than its core: the gate, then its body. -/
def State.shared (s : State) (r : Req) (next : Core → Core) (body : State → SRes) : Out :=
  match (s.core s.cur).gate r with
  | (c, some e) => .next (s.trapAt s.cur c e)
  | (c, none) => (s.putCore s.cur c).settle s.cur next body

/-- The current core changed. -/
def State.onCore (s : State) (site : Nat) (f : Core → Core) : State := s.putCore site (f (s.core site))

/-- The core is in the compute phase of a superstep gang (09 R219; 02 R38: SSM, XPH). -/
def Core.computePhase (c : Core) : Bool := c.sp.psw.getLsbD 4 && !c.sp.psw.getLsbD 5

/-- The core belongs to a protected gang (09 R234; 02 R38: RB). -/
def Core.guarded (c : Core) : Bool := c.sp.psw.getLsbD 6

/-- The superstep checks of a global operation at an address (10 R256 order 1): PHASE_GLOBAL (09 R219), then RB_REFUSED
(09 R234) where it applies. -/
def Core.superCheck (c : Core) (va : DWord) (rb : Bool) : Option Exc :=
  if c.computePhase then some ⟨cPHASE_GLOBAL, va⟩
  else if rb && c.guarded then some ⟨cRB_REFUSED, va⟩
  else none

/-- The waits that an interrupt abandons (16 R390, 14 R332). -/
def Wait.interruptible : Wait → Bool
  | .none => true
  | .retry => true
  | .barrier _ _ => true
  | .align _ _ => true
  | .xwait _ => true
  | .object _ => true
  | .cpwait _ => true
  | .evwait _ => true
  | .mstat _ _ => true
  | .fence _ _ => true
  | .wfi => true
  | _ => false

/-- How a sequence of global accesses ends: with a value, with a cause, or not yet. -/
inductive Acc (α : Type) where
  | ok (s : State) (a : α)
  | trap (s : State) (e : Exc)
  | wait (s : State)

/-- One sequence after another. -/
def Acc.andThen {α β : Type} (r : Acc α) (f : State → α → Acc β) : Acc β :=
  match r with
  | .ok s a => f s a
  | .trap s e => .trap s e
  | .wait s => .wait s

/-- A change that an event makes, when the condition under which it happens holds. -/
def State.event (s : State) (enabled : Bool) (f : State → State) : Out := if enabled then .next (f s) else .next s

/-- An activity of a die may go on in this period (14 R362). -/
def State.mayCharge (s : State) (die act : Nat) : Bool :=
  let b := (s.die die).budgets.getD act ⟨0, 0, 10000⟩
  decide (10000 ≤ b.budget) || decide (b.used < b.budget)

/-- A unit of an activity charged (14 R362; log 6): 0 scrub, 1 refresh, 2 trace drain, 3 undo log, 4 migration, 5 host DMA,
6 rights walks. -/
def State.charge (s : State) (die act : Nat) : State :=
  let d := s.die die
  let b := d.budgets.getD act ⟨0, 0, 10000⟩
  s.putDie die { d with budgets := d.budgets.set act { b with used := min (b.used + Config.freeCharge s.free act) 65535 } }

end Sys2Proof.Machine
end

