-- ==== Sys2Proof/Machine/Integer.lean ====
section
/-! DEFINITION. The meanings of the integer families: INT, MULDIV, the immediate majors and INTX (05 R117 to R124,
06 R146). -/

namespace Sys2Proof.Machine

/-- A scalar source and a scalar destination. -/
def rd (f : Fld) (o : GOp) : Use := ⟨f, .g o, true⟩
def wr (f : Fld) (o : GOp) : Use := ⟨f, .g o, false⟩

/-- An INT function of two registers; len is the length of the form. -/
def intBin (len f : Nat) (d a b : GOp) (s : State) : Out :=
  s.local_ { uses := [rd .A a, rd .B b, wr .D d] } (Core.advance len)
    (bodyWrite d 1 (fun c => intFn f (c.rg .A a) (c.rg .B b)))

/-- An INT function of one register. -/
def intUn (len f : Nat) (d a : GOp) (s : State) : Out :=
  s.local_ { uses := [rd .A a, wr .D d] } (Core.advance len) (bodyWrite d 1 (fun c => intFn f (c.rg .A a) 0))

/-- An INT function of a register and a literal or an immediate. -/
def intLit (len f : Nat) (d a : GOp) (lit : DWord) (s : State) : Out :=
  s.local_ { uses := [rd .A a, wr .D d] } (Core.advance len) (bodyWrite d 1 (fun c => intFn f (c.rg .A a) lit))

/-- A MULDIV function of two registers. -/
def mdBin (len f : Nat) (d a b : GOp) (s : State) : Out :=
  s.local_ { uses := [rd .A a, rd .B b, wr .D d] } (Core.advance len)
    (bodyWrite d (mulDivLat f) (fun c => mulDivFn f (c.rg .A a) (c.rg .B b)))

/-- A MULDIV function of a register and a literal. -/
def mdLit (len f : Nat) (d a : GOp) (lit : DWord) (s : State) : Out :=
  s.local_ { uses := [rd .A a, wr .D d] } (Core.advance len)
    (bodyWrite d (mulDivLat f) (fun c => mulDivFn f (c.rg .A a) lit))

/-- li. -/
def loadImm (len : Nat) (d : GOp) (x : DWord) (s : State) : Out :=
  s.local_ { uses := [wr .D d] } (Core.advance len) (bodyWrite d 1 (fun _ => x))

/-- R120: Writes the 64-bit sum of two g registers. -/
def execAdd (d a b : Reg) (s : State) : Out := intBin 4 0 (fix d) (fix a) (fix b) s

/-- R120: Writes the 64-bit difference of two g registers. -/
def execSub (d a b : Reg) (s : State) : Out := intBin 4 1 (fix d) (fix a) (fix b) s

/-- R120: Writes the sign-extended 32-bit sum. -/
def execAddW (d a b : Reg) (s : State) : Out := intBin 4 2 (fix d) (fix a) (fix b) s

/-- R120: Writes the sign-extended 32-bit difference. -/
def execSubW (d a b : Reg) (s : State) : Out := intBin 4 3 (fix d) (fix a) (fix b) s

/-- R120: Writes the bitwise and. -/
def execAnd (d a b : Reg) (s : State) : Out := intBin 4 4 (fix d) (fix a) (fix b) s

/-- R120: Writes the bitwise or. -/
def execOr (d a b : Reg) (s : State) : Out := intBin 4 5 (fix d) (fix a) (fix b) s

/-- R120: Writes the bitwise exclusive or. -/
def execXor (d a b : Reg) (s : State) : Out := intBin 4 6 (fix d) (fix a) (fix b) s

/-- R120: Writes a and not b. -/
def execAndn (d a b : Reg) (s : State) : Out := intBin 4 7 (fix d) (fix a) (fix b) s

/-- R120: Shifts left by b[5:0]. -/
def execShl (d a b : Reg) (s : State) : Out := intBin 4 8 (fix d) (fix a) (fix b) s

/-- R120: Shifts right logically by b[5:0]. -/
def execShr (d a b : Reg) (s : State) : Out := intBin 4 9 (fix d) (fix a) (fix b) s

/-- R120: Shifts right arithmetically by b[5:0]. -/
def execSar (d a b : Reg) (s : State) : Out := intBin 4 10 (fix d) (fix a) (fix b) s

/-- R120: Shifts the low word left, sign-extended. -/
def execShlW (d a b : Reg) (s : State) : Out := intBin 4 11 (fix d) (fix a) (fix b) s

/-- R120: Shifts the low word right logically, sign-extended. -/
def execShrW (d a b : Reg) (s : State) : Out := intBin 4 12 (fix d) (fix a) (fix b) s

/-- R120: Shifts the low word right arithmetically. -/
def execSarW (d a b : Reg) (s : State) : Out := intBin 4 13 (fix d) (fix a) (fix b) s

/-- R120: Writes 1 when a < b signed. -/
def execSlt (d a b : Reg) (s : State) : Out := intBin 4 14 (fix d) (fix a) (fix b) s

/-- R120: Writes 1 when a < b unsigned. -/
def execSltn (d a b : Reg) (s : State) : Out := intBin 4 15 (fix d) (fix a) (fix b) s

/-- R120: Writes the signed minimum. -/
def execMin (d a b : Reg) (s : State) : Out := intBin 4 16 (fix d) (fix a) (fix b) s

/-- R120: Writes the signed maximum. -/
def execMax (d a b : Reg) (s : State) : Out := intBin 4 17 (fix d) (fix a) (fix b) s

/-- R120: Writes the unsigned minimum. -/
def execMinn (d a b : Reg) (s : State) : Out := intBin 4 18 (fix d) (fix a) (fix b) s

/-- R120: Writes the unsigned maximum. -/
def execMaxn (d a b : Reg) (s : State) : Out := intBin 4 19 (fix d) (fix a) (fix b) s

/-- R120: Counts leading zeros. -/
def execClz (d a : Reg) (s : State) : Out := intUn 4 20 (fix d) (fix a) s

/-- R120: Counts trailing zeros. -/
def execCtz (d a : Reg) (s : State) : Out := intUn 4 21 (fix d) (fix a) s

/-- R120: Counts one bits. -/
def execPopc (d a : Reg) (s : State) : Out := intUn 4 22 (fix d) (fix a) s

/-- R120: Reverses the 64 bits. -/
def execRev (d a : Reg) (s : State) : Out := intUn 4 23 (fix d) (fix a) s

/-- R120: Sign-extends the low byte. -/
def execSextB (d a : Reg) (s : State) : Out := intUn 4 24 (fix d) (fix a) s

/-- R120: Sign-extends the low half. -/
def execSextH (d a : Reg) (s : State) : Out := intUn 4 25 (fix d) (fix a) s

/-- R120: Sign-extends the low word. -/
def execSextW (d a : Reg) (s : State) : Out := intUn 4 26 (fix d) (fix a) s

/-- R120: Zero-extends the low byte. -/
def execZextB (d a : Reg) (s : State) : Out := intUn 4 27 (fix d) (fix a) s

/-- R120: Zero-extends the low half. -/
def execZextH (d a : Reg) (s : State) : Out := intUn 4 28 (fix d) (fix a) s

/-- R120: Zero-extends the low word. -/
def execZextW (d a : Reg) (s : State) : Out := intUn 4 29 (fix d) (fix a) s

/-- R120: Rotates left by b[5:0]. -/
def execRol (d a b : Reg) (s : State) : Out := intBin 4 30 (fix d) (fix a) (fix b) s

/-- R120: Rotates right by b[5:0]. -/
def execRor (d a b : Reg) (s : State) : Out := intBin 4 31 (fix d) (fix a) (fix b) s

/-- R118: add with a 64-bit literal in place of gB. -/
def execAddLit (d a : Reg) (lit : BitVec 64) (s : State) : Out := intLit 12 0 (fix d) (fix a) lit s

/-- R118: sub with a literal operand. -/
def execSubLit (d a : Reg) (lit : BitVec 64) (s : State) : Out := intLit 12 1 (fix d) (fix a) lit s

/-- R118: add.w with a literal operand. -/
def execAddWLit (d a : Reg) (lit : BitVec 64) (s : State) : Out := intLit 12 2 (fix d) (fix a) lit s

/-- R118: sub.w with a literal operand. -/
def execSubWLit (d a : Reg) (lit : BitVec 64) (s : State) : Out := intLit 12 3 (fix d) (fix a) lit s

/-- R118: and with a literal operand. -/
def execAndLit (d a : Reg) (lit : BitVec 64) (s : State) : Out := intLit 12 4 (fix d) (fix a) lit s

/-- R118: or with a literal operand. -/
def execOrLit (d a : Reg) (lit : BitVec 64) (s : State) : Out := intLit 12 5 (fix d) (fix a) lit s

/-- R118: xor with a literal operand. -/
def execXorLit (d a : Reg) (lit : BitVec 64) (s : State) : Out := intLit 12 6 (fix d) (fix a) lit s

/-- R118: andn with a literal operand. -/
def execAndnLit (d a : Reg) (lit : BitVec 64) (s : State) : Out := intLit 12 7 (fix d) (fix a) lit s

/-- R118: shl with a literal operand. -/
def execShlLit (d a : Reg) (lit : BitVec 64) (s : State) : Out := intLit 12 8 (fix d) (fix a) lit s

/-- R118: shr with a literal operand. -/
def execShrLit (d a : Reg) (lit : BitVec 64) (s : State) : Out := intLit 12 9 (fix d) (fix a) lit s

/-- R118: sar with a literal operand. -/
def execSarLit (d a : Reg) (lit : BitVec 64) (s : State) : Out := intLit 12 10 (fix d) (fix a) lit s

/-- R118: shl.w with a literal operand. -/
def execShlWLit (d a : Reg) (lit : BitVec 64) (s : State) : Out := intLit 12 11 (fix d) (fix a) lit s

/-- R118: shr.w with a literal operand. -/
def execShrWLit (d a : Reg) (lit : BitVec 64) (s : State) : Out := intLit 12 12 (fix d) (fix a) lit s

/-- R118: sar.w with a literal operand. -/
def execSarWLit (d a : Reg) (lit : BitVec 64) (s : State) : Out := intLit 12 13 (fix d) (fix a) lit s

/-- R118: slt with a literal operand. -/
def execSltLit (d a : Reg) (lit : BitVec 64) (s : State) : Out := intLit 12 14 (fix d) (fix a) lit s

/-- R118: sltn with a literal operand. -/
def execSltnLit (d a : Reg) (lit : BitVec 64) (s : State) : Out := intLit 12 15 (fix d) (fix a) lit s

/-- R118: min with a literal operand. -/
def execMinLit (d a : Reg) (lit : BitVec 64) (s : State) : Out := intLit 12 16 (fix d) (fix a) lit s

/-- R118: max with a literal operand. -/
def execMaxLit (d a : Reg) (lit : BitVec 64) (s : State) : Out := intLit 12 17 (fix d) (fix a) lit s

/-- R118: minn with a literal operand. -/
def execMinnLit (d a : Reg) (lit : BitVec 64) (s : State) : Out := intLit 12 18 (fix d) (fix a) lit s

/-- R118: maxn with a literal operand. -/
def execMaxnLit (d a : Reg) (lit : BitVec 64) (s : State) : Out := intLit 12 19 (fix d) (fix a) lit s

/-- R118: rol with a literal operand. -/
def execRolLit (d a : Reg) (lit : BitVec 64) (s : State) : Out := intLit 12 30 (fix d) (fix a) lit s

/-- R118: ror with a literal operand. -/
def execRorLit (d a : Reg) (lit : BitVec 64) (s : State) : Out := intLit 12 31 (fix d) (fix a) lit s

/-- R121: Writes the low 64 bits of the product. -/
def execMul (d a b : Reg) (s : State) : Out := mdBin 4 0 (fix d) (fix a) (fix b) s

/-- R121: Writes the high 64 bits of the signed product. -/
def execMulh (d a b : Reg) (s : State) : Out := mdBin 4 1 (fix d) (fix a) (fix b) s

/-- R121: Writes the high 64 bits of the unsigned product. -/
def execMulhn (d a b : Reg) (s : State) : Out := mdBin 4 2 (fix d) (fix a) (fix b) s

/-- R121: Writes the sign-extended 32-bit product. -/
def execMulW (d a b : Reg) (s : State) : Out := mdBin 4 3 (fix d) (fix a) (fix b) s

/-- R121: Signed 64-bit division, never trapping. -/
def execDiv (d a b : Reg) (s : State) : Out := mdBin 4 4 (fix d) (fix a) (fix b) s

/-- R121: Unsigned 64-bit division. -/
def execDivn (d a b : Reg) (s : State) : Out := mdBin 4 5 (fix d) (fix a) (fix b) s

/-- R121: Signed 64-bit remainder. -/
def execRem (d a b : Reg) (s : State) : Out := mdBin 4 6 (fix d) (fix a) (fix b) s

/-- R121: Unsigned 64-bit remainder. -/
def execRemn (d a b : Reg) (s : State) : Out := mdBin 4 7 (fix d) (fix a) (fix b) s

/-- R121: Signed 32-bit division. -/
def execDivW (d a b : Reg) (s : State) : Out := mdBin 4 8 (fix d) (fix a) (fix b) s

/-- R121: Unsigned 32-bit division. -/
def execDivnW (d a b : Reg) (s : State) : Out := mdBin 4 9 (fix d) (fix a) (fix b) s

/-- R121: Signed 32-bit remainder. -/
def execRemW (d a b : Reg) (s : State) : Out := mdBin 4 10 (fix d) (fix a) (fix b) s

/-- R121: Unsigned 32-bit remainder. -/
def execRemnW (d a b : Reg) (s : State) : Out := mdBin 4 11 (fix d) (fix a) (fix b) s

/-- R121: mul with a literal operand. -/
def execMulLit (d a : Reg) (lit : BitVec 64) (s : State) : Out := mdLit 12 0 (fix d) (fix a) lit s

/-- R121: mulh with a literal operand. -/
def execMulhLit (d a : Reg) (lit : BitVec 64) (s : State) : Out := mdLit 12 1 (fix d) (fix a) lit s

/-- R121: mulhn with a literal operand. -/
def execMulhnLit (d a : Reg) (lit : BitVec 64) (s : State) : Out := mdLit 12 2 (fix d) (fix a) lit s

/-- R121: mul.w with a literal operand. -/
def execMulWLit (d a : Reg) (lit : BitVec 64) (s : State) : Out := mdLit 12 3 (fix d) (fix a) lit s

/-- R121: div with a literal operand. -/
def execDivLit (d a : Reg) (lit : BitVec 64) (s : State) : Out := mdLit 12 4 (fix d) (fix a) lit s

/-- R121: divn with a literal operand. -/
def execDivnLit (d a : Reg) (lit : BitVec 64) (s : State) : Out := mdLit 12 5 (fix d) (fix a) lit s

/-- R121: rem with a literal operand. -/
def execRemLit (d a : Reg) (lit : BitVec 64) (s : State) : Out := mdLit 12 6 (fix d) (fix a) lit s

/-- R121: remn with a literal operand. -/
def execRemnLit (d a : Reg) (lit : BitVec 64) (s : State) : Out := mdLit 12 7 (fix d) (fix a) lit s

/-- R121: div.w with a literal operand. -/
def execDivWLit (d a : Reg) (lit : BitVec 64) (s : State) : Out := mdLit 12 8 (fix d) (fix a) lit s

/-- R121: divn.w with a literal operand. -/
def execDivnWLit (d a : Reg) (lit : BitVec 64) (s : State) : Out := mdLit 12 9 (fix d) (fix a) lit s

/-- R121: rem.w with a literal operand. -/
def execRemWLit (d a : Reg) (lit : BitVec 64) (s : State) : Out := mdLit 12 10 (fix d) (fix a) lit s

/-- R121: remn.w with a literal operand. -/
def execRemnWLit (d a : Reg) (lit : BitVec 64) (s : State) : Out := mdLit 12 11 (fix d) (fix a) lit s

/-- R122: Adds a sign-extended immediate. -/
def execAddi (d a : Reg) (imm : BitVec 12) (s : State) : Out := intLit 4 0 (fix d) (fix a) (imm.signExtend 64) s

/-- R122: addi with a 64-bit literal. -/
def execAddiLit (d a : Reg) (lit : BitVec 64) (s : State) : Out := intLit 12 0 (fix d) (fix a) lit s

/-- R122: Adds an immediate, 32-bit sign-extended result. -/
def execAddiW (d a : Reg) (imm : BitVec 12) (s : State) : Out := intLit 4 2 (fix d) (fix a) (imm.signExtend 64) s

/-- R122: addi.w with a literal. -/
def execAddiWLit (d a : Reg) (lit : BitVec 64) (s : State) : Out := intLit 12 2 (fix d) (fix a) lit s

/-- R122: Ands with an immediate. -/
def execAndi (d a : Reg) (imm : BitVec 12) (s : State) : Out := intLit 4 4 (fix d) (fix a) (imm.signExtend 64) s

/-- R122: andi with a literal. -/
def execAndiLit (d a : Reg) (lit : BitVec 64) (s : State) : Out := intLit 12 4 (fix d) (fix a) lit s

/-- R122: Ors with an immediate. -/
def execOri (d a : Reg) (imm : BitVec 12) (s : State) : Out := intLit 4 5 (fix d) (fix a) (imm.signExtend 64) s

/-- R122: ori with a literal. -/
def execOriLit (d a : Reg) (lit : BitVec 64) (s : State) : Out := intLit 12 5 (fix d) (fix a) lit s

/-- R122: Exclusive-ors with an immediate. -/
def execXori (d a : Reg) (imm : BitVec 12) (s : State) : Out := intLit 4 6 (fix d) (fix a) (imm.signExtend 64) s

/-- R122: xori with a literal. -/
def execXoriLit (d a : Reg) (lit : BitVec 64) (s : State) : Out := intLit 12 6 (fix d) (fix a) lit s

/-- R122: Signed compare with an immediate. -/
def execSlti (d a : Reg) (imm : BitVec 12) (s : State) : Out := intLit 4 14 (fix d) (fix a) (imm.signExtend 64) s

/-- R122: slti with a literal. -/
def execSltiLit (d a : Reg) (lit : BitVec 64) (s : State) : Out := intLit 12 14 (fix d) (fix a) lit s

/-- R122: Unsigned compare with a sign-extended immediate. -/
def execSltni (d a : Reg) (imm : BitVec 12) (s : State) : Out := intLit 4 15 (fix d) (fix a) (imm.signExtend 64) s

/-- R122: sltni with a literal. -/
def execSltniLit (d a : Reg) (lit : BitVec 64) (s : State) : Out := intLit 12 15 (fix d) (fix a) lit s

/-- R122: Loads a sign-extended immediate. -/
def execLi (d : Reg) (imm : BitVec 12) (s : State) : Out := loadImm 4 (fix d) (imm.signExtend 64) s

/-- R122: li with a 64-bit literal. -/
def execLiLit (d : Reg) (lit : BitVec 64) (s : State) : Out := loadImm 12 (fix d) lit s

/-- R123: Shifts left by an immediate amount. -/
def execShli (d a : Reg) (amt : BitVec 6) (s : State) : Out := intLit 4 8 (fix d) (fix a) (amt.setWidth 64) s

/-- R123: Shifts right logically by an immediate. -/
def execShri (d a : Reg) (amt : BitVec 6) (s : State) : Out := intLit 4 9 (fix d) (fix a) (amt.setWidth 64) s

/-- R123: Shifts right arithmetically by an immediate. -/
def execSari (d a : Reg) (amt : BitVec 6) (s : State) : Out := intLit 4 10 (fix d) (fix a) (amt.setWidth 64) s

/-- R123: 32-bit left shift by an immediate. -/
def execShliW (d a : Reg) (amt : BitVec 5) (s : State) : Out := intLit 4 11 (fix d) (fix a) (amt.setWidth 64) s

/-- R123: 32-bit logical right shift by an immediate. -/
def execShriW (d a : Reg) (amt : BitVec 5) (s : State) : Out := intLit 4 12 (fix d) (fix a) (amt.setWidth 64) s

/-- R123: 32-bit arithmetic right shift by an immediate. -/
def execSariW (d a : Reg) (amt : BitVec 5) (s : State) : Out := intLit 4 13 (fix d) (fix a) (amt.setWidth 64) s

/-- R124: Extracts a bit field. -/
def execBfx (d a : Reg) (p l : BitVec 6) (s : State) : Out := s.local_ { uses := [rd .A (fix a), wr .D (fix d)] } (Core.advance 4)
    (bodyWrite (fix d) 1 (fun c => bfxFn p l (c.rg .A (fix a))))

/-- R124: Inserts a bit field into gD. -/
def execBfi (d a : Reg) (p l : BitVec 6) (s : State) : Out := s.local_ { uses := [rd .A (fix a), rd .D (fix d)] } (Core.advance 4)
    (bodyWrite (fix d) 1 (fun c => bfiFn p l (c.rg .D (fix d)) (c.rg .A (fix a))))

/-- R81: Extended form of any INT or MULDIV function with relative operands. -/
def execIntx (fn : BitVec 7) (d a b : GOp) (s : State) : Out := if fn.getLsbD 6 then mdBin 12 (fn.setWidth 6).toNat d a b s
  else if IntFn.unary fn then intUn 12 fn.toNat d a s
  else intBin 12 fn.toNat d a b s

/-- R75: INTX with a 64-bit literal in place of B. -/
def execIntxLit (fn : BitVec 7) (d a : GOp) (lit : BitVec 64) (s : State) : Out := if fn.getLsbD 6 then mdLit 20 (fn.setWidth 6).toNat d a lit s else intLit 20 fn.toNat d a lit s

end Sys2Proof.Machine
end

