-- ==== Sys2Proof/Machine/Crossbar.lean ====
section
/-! DEFINITION. The event crossbar of a core: pulses, counters, terms and the timer (14 R357 to R360). -/

namespace Sys2Proof.Machine

/-- Fields of a counter's configuration (14 R358). -/
def EvCounter.thr (c : EvCounter) : Nat := c.cfg.toNat / 2 ^ 16 % 2 ^ 16
def EvCounter.arg (c : EvCounter) : Nat := c.cfg.toNat / 2 ^ 5 % 2 ^ 6
def EvCounter.src (c : EvCounter) : Nat := c.cfg.toNat % 2 ^ 5
def EvCounter.reached (c : EvCounter) : Bool := c.thr != 0 && decide (c.thr ≤ c.count)

/-- A counter sees a pulse of a source; arg is the barrier channel or the term. -/
def EvCounter.see (src arg : Nat) (c : EvCounter) : EvCounter :=
  if c.src = src ∧ (src < 6 ∨ c.arg = arg) then { c with count := if c.count < 65535 then c.count + 1 else c.count } else c

/-- All counters of a nonzero product are reached (14 R359). -/
def productHolds (cs : List EvCounter) (p : Nat) : Bool :=
  p != 0 && cs.zipIdx.all (fun x => !p.testBit x.2 || x.1.reached)

/-- The counters of a product lose their thresholds. -/
def payProduct (cs : List EvCounter) (p : Nat) : List EvCounter :=
  cs.zipIdx.map (fun x => if p.testBit x.2 then { x.1 with count := x.1.count - x.1.thr } else x.1)

/-- The product that lets a term fire: P0 before P1 (14 R359). -/
def Crossbar.firing (x : Crossbar) (t : EvTerm) : Option Nat :=
  let p0 := t.cfg.toNat % 256
  let p1 := t.cfg.toNat / 256 % 256
  if !t.armed then none
  else if productHolds x.counters p0 then some p0
  else if productHolds x.counters p1 then some p1
  else none

/-- A term considered: its firing pays the product, adds a credit, and pulses for source 7 (14 R359). -/
def Crossbar.tryTerm (x : Crossbar) (i : Nat) : Crossbar × Bool :=
  let t := x.terms.getD i ⟨0, false, 0⟩
  match x.firing t with
  | none => (x, false)
  | some p =>
    let t' : EvTerm := { t with armed := t.cfg.getLsbD 16, credit := if t.credit < 255 then t.credit + 1 else t.credit }
    ({ x with counters := (payProduct x.counters p).map (EvCounter.see 7 i), terms := x.terms.set i t' }, true)

/-- The terms considered once each in ascending order (14 R359; log 14). -/
def Crossbar.sweep (x : Crossbar) : List Nat → Crossbar × Bool
  | [] => (x, false)
  | i :: t =>
    match x.tryTerm i with
    | (x1, f) =>
      match x1.sweep t with
      | (x2, g) => (x2, f || g)

/-- Terms fire until none can, for at most n cycles (14 R359; log 14). -/
def Crossbar.fire (x : Crossbar) : Nat → Crossbar
  | 0 => x
  | n + 1 =>
    match x.sweep (List.range 16) with
    | (x1, true) => x1.fire n
    | (x1, false) => x1

/-- n cycles pass for the event timer (14 R358): it pulses every period cycles, and each pulse is due once. -/
def Crossbar.elapse (x : Crossbar) (n : Nat) : Crossbar :=
  if x.period = 0 then x
  else if n < x.left then { x with left := x.left - n }
  else { x with due := x.due + 1 + (n - x.left) / x.period, left := x.period - (n - x.left) % x.period }

/-- n cycles of its island pass for a core's crossbar: its timer runs, and terms that still can go on firing (14 R358, R359). -/
def Core.elapse (n : Nat) (c : Core) : Core := { c with xbar := (c.xbar.elapse n).fire n }

/-- A pulse of a source reaches the crossbar. -/
def Crossbar.pulse (x : Crossbar) (src arg : Nat) : Crossbar :=
  ({ x with counters := x.counters.map (EvCounter.see src arg) } : Crossbar).fire 256

/-- A pulse at a core. -/
def Core.pulse (c : Core) (src arg : Nat) : Core := { c with xbar := c.xbar.pulse src arg }

/-- The credit of a term, and one taken from it (14 R360). -/
def Core.creditOf (c : Core) (t : Nat) : Nat := (c.xbar.terms.getD t ⟨0, false, 0⟩).credit
def Core.takeCredit (c : Core) (t : Nat) : Core :=
  let x := c.xbar.terms.getD t ⟨0, false, 0⟩
  { c with xbar := { c.xbar with terms := c.xbar.terms.set t { x with credit := x.credit - 1 } } }

/-- evcfg (14 R358, R359), its selector checked. -/
def bodyEvcfg (a : GOp) (sel : Nat) (c : Core) : CoreRes :=
  let v := c.rg .A a
  let n := v.toNat
  if sel < 8 then
    if n / 2 ^ 32 ≠ 0 ∨ n / 2 ^ 11 % 2 ^ 5 ≠ 0 ∨ 8 ≤ n % 32 then .trap c cEV_CONFIG v
    else .done { c with xbar := ({ c.xbar with counters := c.xbar.counters.set sel ⟨v, 0⟩ } : Crossbar).fire 256 }
  else if sel < 24 then
    if n / 2 ^ 17 ≠ 0 then .trap c cEV_CONFIG v
    else .done { c with xbar := { c.xbar with terms := c.xbar.terms.set (sel - 8) ⟨v, false, 0⟩ } }
  else .done { c with xbar := { c.xbar with period := n % 2 ^ 32, left := n % 2 ^ 32 } }

/-- evarm (14 R359). -/
def bodyEvarm (t : Nat) (c : Core) : CoreRes :=
  let x := c.xbar.terms.getD t ⟨0, false, 0⟩
  .done { c with xbar := ({ c.xbar with terms := c.xbar.terms.set t { x with armed := true } } : Crossbar).fire 256 }

/-- evread (14 R360). -/
def bodyEvread (d : GOp) (sel : Nat) (c : Core) : CoreRes :=
  let v :=
    if sel < 8 then (c.xbar.counters.getD sel ⟨0, 0⟩).count
    else if sel < 24 then c.creditOf (sel - 8)
    else c.xbar.left
  .done (c.wg .D d (BitVec.ofNat 64 v) 1)

end Sys2Proof.Machine
end

