-- ==== Sys2Proof/Machine/Swatch.lean ====
section
/-! DEFINITION. The level-two cache of a die: tags, swatches and the hash index (12 R299 to R307). -/

namespace Sys2Proof.Machine

/-- The first number that is no key of a table. -/
def tabFreeFrom {α : Type} (n : Nat) : Table α → Nat
  | [] => n
  | (k, _) :: t => if k = n then tabFreeFrom (n + 1) t else if k < n then tabFreeFrom n t else n

/-- The first free number of a table. -/
def tabFree {α : Type} (t : Table α) : Nat := tabFreeFrom 0 t

/-- The number of swatches and of tags of a cache (12 R299). -/
def swatchMax : Nat := 786432
def tagMax : Nat := 1572864

/-- The swatch that a line points at. -/
def L2.swatchOf (c : L2) (line : Nat) : Option Nat := (tabGet? c.tags line).bind (fun t => t.swatch)

/-- The hash index names a swatch no more. -/
def L2.unindex (c : L2) (i : Nat) (w : Swatch) : L2 :=
  { c with index := if tabGet? c.index w.hash = some i then tabDel c.index w.hash else c.index }

/-- One line less points at a swatch; at 0 it is freed, and the hash index no longer names it (12 R303). -/
def L2.drop (c : L2) (i : Nat) : L2 :=
  match tabGet? c.swatches i with
  | none => c
  | some w =>
    if 1 < w.count then { c with swatches := tabSet c.swatches i { w with count := w.count - 1 } }
    else ({ c with swatches := tabDel c.swatches i } : L2).unindex i w

/-- A tag evicted (12 R303). -/
def L2.evict (c : L2) (line : Nat) : L2 :=
  let c' : L2 := { c with tags := tabDel c.tags line }
  match c.swatchOf line with
  | none => c'
  | some i => c'.drop i

/-- Lines evicted in order, of those that may be, while the cache is short of room (12 R303; log 7). -/
def L2.makeRoom (short : L2 → Bool) (free : Nat → Bool) (c : L2) : List Nat → L2
  | [] => c
  | line :: rest =>
    if !short c then c
    else if free line then (c.evict line).makeRoom short free rest else c.makeRoom short free rest

/-- The data that the cache holds of a line, 0 when it holds none or the zero bit. -/
def L2.data (c : L2) (line : Nat) : Nat :=
  match (c.swatchOf line).bind (fun i => tabGet? c.swatches i) with
  | none => 0
  | some w => w.data

/-- The error of the swatch that a line points at (12 R306): it stays with the line's data until the home meets it. -/
def L2.errOf (c : L2) (line : Nat) : Option Bool := ((c.swatchOf line).bind (fun i => tabGet? c.swatches i)).bind (fun w => w.err)

/-- A swatch of a count of 1 for a line: fresh, or one that the line held alone; entered in the hash index when the line is placed
(12 R301, R302). -/
def L2.fresh (c : L2) (own : Option Nat) (line data key hash : Nat) (err : Option Bool) (indexed : Bool) : L2 :=
  let i := own.getD (tabFree c.swatches)
  { c with
    swatches := tabSet c.swatches i ⟨data, 1, key, hash, err⟩
    index := if indexed then tabSet c.index hash i else c.index
    tags := tabSet c.tags line ⟨key, some i⟩ }

/-- The swatch that a line alone points at, which PlaceLine reuses (12 R301). -/
def L2.ownSwatch (c : L2) (line : Nat) : Option Nat :=
  (c.swatchOf line).filter (fun i => (tabGet? c.swatches i).any (fun w => decide (w.count ≤ 1)))

/-- The swatch of the line given up before it is placed anew: kept for reuse when no other line points at it. -/
def L2.release (c : L2) (line : Nat) : L2 :=
  match c.swatchOf line with
  | none => c
  | some i =>
    match tabGet? c.swatches i with
    | none => c
    | some w => if w.count ≤ 1 then c.unindex i w else c.drop i

/-- The swatch that the hash index names for a content, and whether the content shares it (12 R301). -/
def L2.lookup (c : L2) (h : Nat) : Option (Nat × Swatch) :=
  (tabGet? c.index h).bind (fun i => (tabGet? c.swatches i).map (fun w => (i, w)))
def Swatch.shares (w : Swatch) (data key : Nat) : Bool := w.key == key && w.data == data && decide (w.count < 255) && w.err.isNone

/-- PlaceLine of 12 R301.  A line whose swatch holds an error that the home has not met keeps it, in a swatch that no other line
shares (12 R306). -/
def L2.place (c : L2) (line data key : Nat) : L2 :=
  let own := c.ownSwatch line
  let err := c.errOf line
  let c0 := c.release line
  let free (c : L2) : L2 :=
    match own with
    | none => c
    | some i => { c with swatches := tabDel c.swatches i }
  if err.isSome then c0.fresh own line data key (Config.hash40 data key % 2 ^ 40) err false
  else if data = 0 then { free c0 with tags := tabSet c0.tags line ⟨key, none⟩ }
  else
    let h := Config.hash40 data key % 2 ^ 40
    match c0.lookup h with
    | none => c0.fresh own line data key h none true
    | some (i, w) =>
      if w.shares data key then
        { free c0 with
          swatches := tabSet (free c0).swatches i { w with count := w.count + 1 }
          tags := tabSet c0.tags line ⟨key, some i⟩
          hhit := (c0.hhit + 1) % 2 ^ 64 }
      else if w.key = key ∧ w.data = data ∧ 255 ≤ w.count then ({ c0 with rcov := (c0.rcov + 1) % 2 ^ 64 } : L2).fresh own line data key h none true
      else ({ c0 with hmis := (c0.hmis + 1) % 2 ^ 64 } : L2).fresh own line data key h none true

/-- Placing the line needs a tag or a swatch that the cache does not have (12 R299). -/
def L2.shortOf (line data key : Nat) (c : L2) : Bool :=
  ((tabGet? c.tags line).isNone && decide (tagMax ≤ c.tags.length))
    || ((data != 0 || (c.errOf line).isSome) && decide (swatchMax ≤ c.swatches.length) && (c.ownSwatch line).isNone
        && !((c.errOf line).isNone && ((c.release line).lookup (Config.hash40 data key % 2 ^ 40)).any (fun p => p.2.shares data key)))

/-- The swatch that a line shares with others. -/
def L2.shared (c : L2) (line : Nat) : Option (Nat × Swatch) :=
  (c.swatchOf line).bind (fun i => (tabGet? c.swatches i).bind (fun w => if 1 < w.count then some (i, w) else none))

/-- A line un-shared before a write (12 R302): a copy of its own when others share its swatch. -/
def L2.unshare (c : L2) (line : Nat) : L2 :=
  match c.shared line with
  | none => c
  | some (i, w) => (c.drop i).fresh none line w.data w.key w.hash w.err false

/-- Every line that points at a swatch (12 R306). -/
def L2.sharers (c : L2) (i : Nat) : List Nat := (c.tags.filter (fun p => p.2.swatch == some i)).map (fun p => p.1)

/-- An error of a swatch marked, or dealt with. -/
def L2.setErr (c : L2) (i : Nat) (e : Option Bool) : L2 :=
  match tabGet? c.swatches i with
  | none => c
  | some w => { c with swatches := tabSet c.swatches i { w with err := e } }

/-- The registers of 12 R307. -/
def L2.used (c : L2) : Nat := c.tags.length
def L2.zeros (c : L2) : Nat := (c.tags.filter (fun p => p.2.swatch == none)).length
def L2.live (c : L2) : Nat := c.swatches.length

/-- l2.eff (12 R307). -/
def L2.eff (c : L2) : Nat :=
  let ratio := 256 * (c.used - c.zeros) / max c.live 1
  c.used * 128 / 1024 * 2 ^ 16 + (if 65535 < ratio then 65535 else ratio)

end Sys2Proof.Machine
end

