-- ==== Sys2Proof/Machine/Sectors.lean ====
section
/-! DEFINITION. Device memory by sectors: key slots and epochs (20 R469), homes (10 R239), tokens and their moves (12 R284
to R293), un-sharing and placing (12 R301, R302). -/

namespace Sys2Proof.Machine

/-- Agent codes (19 R458). -/
def agentHome (die : Nat) : Nat := die * 16384
def agentL1 (site pa : Nat) : Nat := siteDie site * 16384 + 2048 + siteCluster site * 8 + pa / 128 % 8
def agentTfu (pkgCluster : Nat) : Nat := pkgCluster / 128 * 16384 + 4096 + pkgCluster % 128
def agentRdc (die : Nat) : Nat := die * 16384 + 6144
def agentHost (port : Nat) : Nat := 8192 + port
def agentPeer (port : Nat) : Nat := 10240 + port

/-- The die and the kind of an agent. -/
def agentDie (a : Nat) : Nat := a / 16384
def agentKind (a : Nat) : Nat := a / 2048 % 8

/-- The cluster of the package whose level-one slice an agent is. -/
def agentCluster (a : Nat) : Nat := agentDie a * 128 + a % 2048 / 8

/-- The home die of a device-memory address (10 R239). -/
def homeDie (pa : Nat) : Nat := pa / 2 ^ 36 / 4

/-- The line of a sector. -/
def lineOf (k : Nat) : Nat := k / 2

/-- The n bytes from pa are backed device memory (10 R239). -/
def State.backed (s : State) (pa n : Nat) : Bool :=
  decide (pa < 2 ^ 40) && decide (pa % 2 ^ 36 + n ≤ s.stackGib.getD (pa / 2 ^ 36) 0 * 2 ^ 30)

/-- What the home keeps of sector k, the one at address 64 * k. -/
def State.sector (s : State) (k : Nat) : Sector := tabGet s.sectors k (Sector.reset (agentHome (homeDie (64 * k))))
def State.putSector (s : State) (k : Nat) (x : Sector) : State := { s with sectors := tabSet s.sectors k x }

/-- A read of the sector under a key slot sees its bytes (20 R469). -/
def State.legible (s : State) (key k : Nat) : Bool :=
  let x := s.sector k
  x.slot == key && x.slot != 0xFF && x.epoch == s.pe

/-- n bytes within one sector as a read under a key slot sees them (20 R469). -/
def State.readPa (s : State) (key pa n : Nat) : Nat := if s.legible key (pa / 64) then memRead s.mem pa n else 0

/-- The key slot under which the device makes an access of its own by physical address (log 12): the one that the sector carries, or the
device's own where it carries none. -/
def State.ownKey (s : State) (pa : Nat) : Nat :=
  let x := (s.sector (pa / 64)).slot
  if x = 0xFF then s.hub.ownSlot % 255 else x

/-- The sector delivers data (12 R306, R308, 16 R403): it is neither poisoned nor being reset, and the home's own copy has no uncorrectable
error. -/
def State.sound (s : State) (k : Nat) : Bool :=
  let x := s.sector k
  !x.poison && !x.resetting
    && !(x.homeOwner && (tabGet? s.hbmErr k == some true || (s.die (homeDie (64 * k))).l2.errOf (lineOf k) == some true))

/-- n bytes within one sector as they stand for the device itself, by physical address (log 12): modified data of the host's copy
first (18 R451); zero where a read sees no bytes (20 R469) or the sector delivers none (log 95). -/
def State.readOwn (s : State) (pa n : Nat) : Nat :=
  let k := pa / 64
  if !s.sound k then 0
  else
    match (if (s.sector k).host = .x then tabGet? s.hostCache k else none) with
    | some v => v / 2 ^ (8 * (pa % 64)) % 2 ^ (8 * n)
    | none => s.readPa (s.ownKey pa) pa n
def State.readOwn64 (s : State) (pa : Nat) : DWord := BitVec.ofNat 64 (s.readOwn pa 8)

/-- The byte of the bias table with the bits EXP and HB of a granule, and the bits for a physical address (18 R451, R452). -/
def State.biasByte (s : State) (g : Nat) : Nat := (s.hub.hbBase.toNat / 2 ^ 16 % 2 ^ 32) * 65536 + g / 4
def State.exposed (s : State) (pa : Nat) : Bool :=
  let g := pa / 4096
  s.hub.hbSet && s.backed pa 1 && (s.readOwn (s.biasByte g) 1).testBit (2 * (g % 4))
def State.hostBias (s : State) (pa : Nat) : Bool :=
  let g := pa / 4096
  s.hub.hbSet && s.backed pa 1 && (s.readOwn (s.biasByte g) 1).testBit (2 * (g % 4) + 1)

/-- The bits of the granule cannot be read (log 95): a request for it waits at its home. -/
def State.biasLost (s : State) (pa : Nat) : Bool := s.hub.hbSet && s.backed pa 1 && !s.sound (s.biasByte (pa / 4096) / 64)

/-- A store to the bias table, in sector k, has changed bits: host copies made under the earlier bits are on the home's books no more
(18 R452). -/
def State.biasStored (t s : State) (k : Nat) : State :=
  let bits (u : State) (j : Nat) : Bool × Bool := (u.exposed (64 * j), u.hostBias (64 * j))
  let stale (j : Nat) : Bool := s.biasByte (j / 64) / 64 == k && bits s j != bits t j
  { t with
    sectors := t.sectors.map (fun p => if p.2.host != .i && stale p.1 then (p.1, { p.2 with host := .i }) else p)
    hostCache := t.hostCache.filter (fun p => !stale p.1) }

/-- n bytes within one sector written under a key slot: the sector carries the slot and the epoch from then on, and its
other bytes stay as a read under the slot saw them (20 R469). -/
def State.writePa (s : State) (key pa n v : Nat) : State :=
  let k := pa / 64
  let m := if s.legible key k then s.mem else memWrite s.mem (64 * k) 64 0
  let t : State := { s.putSector k { s.sector k with slot := key, epoch := s.pe } with mem := memWrite m pa n v }
  if s.hub.hbSet then t.biasStored s k else t

/-- What an agent holds (12 R284). -/
def Sector.holding (x : Sector) (home a : Nat) : Holding :=
  if a = home then ⟨home, x.home, x.homeOwner, x.homeOwner⟩ else (x.held.find? (fun h => h.agent == a)).getD ⟨a, 0, false, false⟩

/-- The agents that hold tokens. -/
def Sector.holders (x : Sector) (home : Nat) : List Holding :=
  (if x.home = 0 then [] else [x.holding home home]) ++ x.held.filter (fun h => decide (0 < h.count))

/-- The holder of the owner token; none while it travels. -/
def Sector.ownerHolder (x : Sector) (home : Nat) : Option Holding := (x.holders home).find? (fun h => h.owner)

/-- An agent's holding replaced. -/
def Sector.setHolding (x : Sector) (home : Nat) (h : Holding) : Sector :=
  if h.agent = home then { x with home := h.count, homeOwner := h.owner }
  else
    let rest := x.held.filter (fun y => y.agent != h.agent)
    { x with held := if h.count = 0 then rest else rest ++ [h] }

/-- A move of tokens between agents. -/
structure TokMove where
  src : Nat
  dst : Nat
  count : Nat
  owner : Bool
  data : Bool
  deriving DecidableEq, Repr

/-- Tokens leave an agent (12 R284): it keeps its data while it holds one (12 R285). -/
def Sector.leave (x : Sector) (home : Nat) (m : TokMove) : Sector :=
  let h := x.holding home m.src
  let c := h.count - m.count
  x.setHolding home { h with count := c, owner := h.owner && !m.owner, data := h.data && decide (0 < c) }

/-- Tokens reach an agent (12 R285). -/
def Sector.reach (x : Sector) (home : Nat) (m : TokMove) : Sector :=
  let h := x.holding home m.dst
  let owner := h.owner || m.owner
  x.setHolding home { h with count := h.count + m.count, owner := owner, data := h.data || m.data || owner }

/-- Tokens move in one step. -/
def Sector.move (x : Sector) (home : Nat) (m : TokMove) : Sector := (x.leave home m).reach home m

/-- How a read of an agent is served when it lacks a token with data (12 R288): by the owner's holder. -/
def Sector.directRead (x : Sector) (home a : Nat) : Option (List TokMove) :=
  match x.ownerHolder home with
  | none => none
  | some h => if 2 ≤ h.count then some [⟨h.agent, a, 1, false, true⟩] else some [⟨h.agent, a, h.count, true, true⟩]

/-- How a read is served (12 R288, R293): through the remote-data cache of the reader's die when it holds or gets two. -/
def Sector.planRead (x : Sector) (home a : Nat) : Option (List TokMove) :=
  let h := x.holding home a
  if decide (0 < h.count) && h.data then some []
  else
    let rdc := agentRdc (agentDie a)
    if agentDie a = agentDie home ∨ (agentKind a ≠ 1 ∧ agentKind a ≠ 2) then x.directRead home a
    else if 2 ≤ (x.holding home rdc).count then some [⟨rdc, a, 1, false, true⟩]
    else if (x.holding home rdc).count = 1 then x.directRead home a
    else
      match x.ownerHolder home with
      | none => none
      | some o =>
        if 3 ≤ o.count then
          some [⟨o.agent, rdc, if 16 ≤ o.count - 1 then 16 else o.count - 1, false, true⟩, ⟨rdc, a, 1, false, true⟩]
        else x.directRead home a

/-- How a write is served: every other holder sends all its tokens (12 R288, R292). -/
def Sector.planWrite (x : Sector) (home a : Nat) : Option (List TokMove) :=
  some (((x.holders home).filter (fun h => h.agent != a)).map (fun h => ⟨h.agent, a, h.count, h.owner, h.owner⟩))

/-- Tokens of the sector travel in messages. -/
def State.inFlight (s : State) (k : Nat) : Bool := s.msgs.any (fun p => p.2.sector == k)

/-- A pin keeps another agent from sending tokens of the sector (12 R295): a tile fetch pin always, a footprint pin
unless the request is persistent. -/
def State.pinned (s : State) (k agent : Nat) (persistent : Bool) : Bool :=
  s.pins.any (fun p => p.sector == k && p.agent == agent && (p.kind.isTile || !persistent))

/-- The data of a line as its home has it: the memory copy of a sector whose owner token is at the home, the cache's
otherwise (12 R286, 18 R454). -/
def State.lineData (s : State) (key line : Nat) : Nat :=
  let old := ((s.die (homeDie (128 * line))).l2.data line)
  let part (i : Nat) : Nat :=
    if (s.sector (2 * line + i)).homeOwner then s.readPa key (128 * line + 64 * i) 64 else old / 2 ^ (512 * i) % 2 ^ 512
  part 0 + part 1 * 2 ^ 512

/-- The level-two cache of the home of a line changed. -/
def State.onL2 (s : State) (line : Nat) (f : L2 → L2) : State :=
  let d := homeDie (128 * line)
  s.putDie d { s.die d with l2 := f (s.die d).l2 }

/-- A line may be evicted: no pin, every token of its sectors at the home (12 R303), and no error of its swatch that the home has not
met (12 R306). -/
def State.evictable (s : State) (line : Nat) : Bool :=
  [2 * line, 2 * line + 1].all (fun k => (s.sector k).home == 1024 && !s.pins.any (fun p => p.sector == k))
    && ((s.die (homeDie (128 * line))).l2.errOf line).isNone

/-- A cache after other lines made room for one (12 R303). -/
def State.roomy (s : State) (line : Nat) (short : L2 → Bool) (c : L2) : L2 :=
  c.makeRoom short (fun l => l != line && s.evictable l) (c.tags.map (fun p => p.1))

/-- A line for which no room can be made is not kept when it may be evicted (log 7), and keeps its tag as it is when it may not
(12 R303). -/
def State.roomless (s : State) (line : Nat) (c : L2) : L2 := if s.evictable line then c.evict line else c

/-- PlaceLine at the home, with room made first (12 R301, R303). -/
def State.placeLine (s : State) (key line : Nat) : State :=
  let data := s.lineData key line
  s.onL2 line (fun c =>
    let c1 := s.roomy line (L2.shortOf line data key) c
    if c1.shortOf line data key then s.roomless line c1 else c1.place line data key)

/-- A line brought into the home's cache when it has no tag under the key slot (12 R301). -/
def State.fillLine (s : State) (key line : Nat) : State :=
  match tabGet? (s.die (homeDie (128 * line))).l2.tags line with
  | some t => if t.key = key then s else s.placeLine key line
  | none => s.placeLine key line

/-- A line un-shared before the home writes it or gives its owner token away (12 R302), with room made first. -/
def State.unshareLine (s : State) (key line : Nat) : State :=
  let short (c : L2) : Bool := (c.shared line).isSome && decide (swatchMax ≤ c.swatches.length)
  (s.fillLine key line).onL2 line (fun c =>
    let c1 := s.roomy line short c
    if short c1 then s.roomless line c1 else c1.unshare line)

/-- A line that keeps its tag needs a swatch of its own, for a write or before its owner token leaves, and none can be freed (12 R302,
R303): what needs it waits. -/
def State.cramped (s : State) (line : Nat) (write : Bool) : Bool :=
  let short (c : L2) : Bool :=
    (if write then (c.ownSwatch line).isNone else (c.shared line).isSome) && decide (swatchMax ≤ c.swatches.length)
  !s.evictable line && short (s.roomy line short (s.die (homeDie (128 * line))).l2)

/-- The least scope, counted from an agent, that contains a home (19 R458, 13 R311). -/
def scopeOf (agent home : Nat) : Nat := if agentDie agent = agentDie home then 2 else 3

/-- A trace record about a sector that an agent asks for (19 R458). -/
def State.recordFor (s : State) (who : Asker) (a k kind : Nat) : TraceEv :=
  let home := agentHome (homeDie (64 * k))
  { die := homeDie (64 * k), kind := kind,
    scope := match who with
      | .host => 4
      | .peer _ => 4
      | _ => scopeOf a home,
    count := 0,
    ss := match who.site with
      | some n => (s.core n).sp.ss.toNat % 2 ^ 24
      | none => 0,
    from_ := a, pa := 64 * k, target := home, key := (s.sector k).slot, owner := 0, core := who.site.map s.logical, arg := 0 }

/-- The record of a token move (19 R458). -/
def State.tokEv (s : State) (k a : Nat) (who : Asker) (m : TokMove) : TraceEv :=
  { s.recordFor who a k 1 with count := m.count, from_ := m.src, target := m.dst, arg := if m.owner then 1 else 0 }

/-- Trace events noted; the trace unit writes their records when the step ends (19 R456). -/
def State.note (s : State) (es : List TraceEv) : State := { s with traceQ := s.traceQ ++ es }

/-- The quadrant of a cluster of the package, which is its island (20 R475), and its cycle count. -/
def islandOf (cl : Nat) : Nat := cl / 128 * 4 + cl % 128 / 64 * 2 + cl % 16 / 8
def State.clusterCyc (s : State) (cl : Nat) : Nat := tabGet s.cyc (islandOf cl) 0

/-- The piece holds a sector. -/
def Region.has (r : Region) (k : Nat) : Bool := decide (r.base ≤ k) && decide (k < r.base + r.size)

/-- The piece held in bulk that contains a sector, split down to its line, which has had a request now (12 R297, R298). -/
def splitRegion (k : Nat) (now : Nat) : Nat → Region → List Region
  | 0, r => [r]
  | n + 1, r =>
    if !r.has k then [r]
    else if r.size ≤ 2 then [{ r with since := now }]
    else
      let h := r.size / 2
      let lo : Region := { r with size := h }
      let hi : Region := { r with base := r.base + h, size := h }
      if k < hi.base then splitRegion k now n lo ++ [hi] else lo :: splitRegion k now n hi

/-- A request for a sector reaches an agent, which splits the region that it holds in bulk (12 R297). -/
def State.splitFor (s : State) (k agent : Nat) : State :=
  if agentKind agent ≠ 1 then s
  else
    let cl := agentCluster agent
    { s with regions := s.regions.flatMap (fun r => if r.cluster = cl then splitRegion k (s.clusterCyc cl) 10 r else [r]) }

/-- The cluster's slice holds what a bulk mode needs of a sector (12 R296). -/
def State.holdsBulk (s : State) (cluster : Nat) (excl : Bool) (k : Nat) : Bool :=
  let h := (s.sector k).holding (agentHome (homeDie (64 * k))) (cluster / 128 * 16384 + 2048 + cluster % 128 * 8 + k / 2 % 8)
  if excl then h.count == 1024 else decide (0 < h.count) && h.data

/-- Pieces larger than a line that hold a sector of which they no longer hold what their mode needs are held in bulk no more (12 R296); a
piece of one line stays on the books, and may merge when the cluster holds its tokens again (12 R298). -/
def State.trimBulk (s : State) (k : Nat) : State :=
  { s with regions := s.regions.filter (fun r => decide (r.size ≤ 2) || !r.has k || s.holdsBulk r.cluster r.excl k) }

/-- Tokens leave an agent, for an agent that asks (12 R284, R297, R302): the piece that holds the sector is split, the home un-shares its line before its
owner token leaves and keeps its hint, a pin that loses its tokens lapses (12 R295), and the agent that passes the owner token to
another sends the home a hint update (12 R287). -/
def State.leaveTok (s : State) (key k a : Nat) (who : Asker) (m : TokMove) : State :=
  let home := agentHome (homeDie (64 * k))
  let s0 := s.splitFor k m.src
  let s1 := if m.owner && m.src == home then s0.unshareLine key (lineOf k) else s0
  let x := (s1.sector k).leave home m
  let y : Sector :=
    { x with
      hintOwner := if m.owner && m.src == home then m.dst else x.hintOwner
      hintDies := if m.dst = home ∨ x.hintDies.contains (agentDie m.dst) then x.hintDies else x.hintDies ++ [agentDie m.dst] }
  let gone := (y.holding home m.src).count == 0
  let s2 : State :=
    { s1.putSector k y with
      pins := if gone then s1.pins.filter (fun p => !(p.sector == k && p.agent == m.src)) else s1.pins
      hints := if m.owner && m.src != home && m.dst != home then tabSet s1.hints (tabFree s1.hints) ⟨k, m.dst⟩ else s1.hints }
  let s3 := if gone && agentKind m.src == 3 then s2.note [{ s2.recordFor who a k 4 with from_ := m.src }] else s2
  s3.trimBulk k

/-- Tokens reach an agent (12 R285); the owner token that returns to the home brings the line's data, and a home that holds every
token knows of no other holder (12 R286, R287, R301). -/
def State.reachTok (s : State) (key k : Nat) (m : TokMove) : State :=
  let home := agentHome (homeDie (64 * k))
  let x := (s.sector k).reach home m
  if m.dst ≠ home then s.putSector k x
  else
    let s1 := s.putSector k
      { x with hintOwner := if m.owner then home else x.hintOwner, hintDies := if x.home = 1024 then [] else x.hintDies }
    if m.owner then s1.placeLine key (lineOf k) else s1

/-- A remote-data cache serves a read of its die, with no part of the home (12 R293). -/
def TokMove.viaRdc (m : TokMove) : Bool := agentKind m.src == 3 && m.count == 1 && !m.owner && agentDie m.dst == agentDie m.src

/-- One token move at its sector, for an agent that asks; it is recorded when the tokens leave or reach the home, or another holder
forwards them at its request (19 R458). -/
def State.moveTok (s : State) (key k a : Nat) (who : Asker) (m : TokMove) : State :=
  ((s.leaveTok key k a who m).reachTok key k m).note (if m.viaRdc then [] else [s.tokEv k a who m])

/-- Token moves in order. -/
def State.moveToks (s : State) (key k a : Nat) (who : Asker) : List TokMove → State
  | [] => s
  | m :: t => (s.moveTok key k a who m).moveToks key k a who t

/-- The access that asks is the one whose persistent request is active for the sector (12 R291). -/
def State.activeFor (s : State) (k a : Nat) (who : Asker) : Bool :=
  (s.sector k).fifo.head?.any (fun p => p.agent == a && p.who == who)

/-- The access of an agent to a sector may not complete now: the sector is being reset, tokens that it needs travel, another
persistent request is active, a pin defers a holder (12 R285, R292, R295, R308), or the home has no swatch for the line (12 R303). -/
def State.deferred (s : State) (k a : Nat) (who : Asker) (write : Bool) (plan : List TokMove) : Bool :=
  let x := s.sector k
  let mine := s.activeFor k a who
  let home := agentHome (homeDie (64 * k))
  x.resetting || (s.inFlight k && (write || !plan.isEmpty)) || (!x.fifo.isEmpty && !mine && !plan.isEmpty)
    || plan.any (fun m => s.pinned k m.src mine)
    || (write && a == home && s.cramped (lineOf k) true) || (plan.any (fun m => m.owner && m.src == home) && s.cramped (lineOf k) false)

/-- The miss handlers of an agent (12 R291). -/
def handlersOf (agent : Nat) : Nat :=
  match agentKind agent with
  | 1 => 16
  | 2 => 16
  | 3 => 64
  | _ => 4

/-- An access of the core itself, or of the device for it, may still wait: not when it runs on, nor when its stop is complete. -/
def Core.mayAsk (c : Core) : Bool :=
  match c.run with
  | .running => c.wait != .none
  | .idle => true
  | .stopped => c.stop.isNone
  | .consumed => false

/-- The access that asked still waits: one of an engine whose commands are gone, or of a core that waits no more, does not. -/
def State.asks (s : State) (who : Asker) : Bool :=
  match who with
  | .eng site 0 => !(s.core site).eng0.queue.isEmpty
  | .eng site 1 => !(s.core site).eng1.queue.isEmpty
  | .eng site 2 => !(s.core site).conv.queue.isEmpty
  | .eng site 3 => !(s.core site).mx.cmds.isEmpty
  | .eng site 5 => (s.core site).mayAsk
  | .posted site => !(s.core site).posted.isEmpty
  | .walk _ site =>
    let c := s.core site
    c.mayAsk || !c.posted.isEmpty || !(c.eng0.queue.isEmpty && c.eng1.queue.isEmpty && c.conv.queue.isEmpty && c.mx.cmds.isEmpty)
      || s.ords.any (fun p => p.2.site == site)
  | _ => true

/-- The island that holds an agent (00 R1, 20 R475): the quadrant of its cluster, the uncore of its die, or of the hub the island of the
host and peer ports (log 91). -/
def agentIsland (a : Nat) : Nat :=
  let cl := agentDie a * 128 + a % 2048
  match agentKind a with
  | 1 => islandOf (agentCluster a)
  | 2 => islandOf cl
  | 4 => 20
  | 5 => 20
  | _ => 16 + agentDie a

/-- The cycle count of the island that holds the agent of a request, by which its times are counted (12 R289). -/
def State.agentClock (s : State) (a : Nat) : Nat := tabGet s.cyc (agentIsland a) 0

/-- The asker makes one access at a time, so that a request of it for another sector is no longer waited for. -/
def Asker.single : Asker → Bool
  | .eng _ e => decide (e < 6)
  | .posted _ => true
  | _ => false

/-- The miss handlers of an agent that are in use (12 R291): one for each of its requests, and one for each entry of a persistent-request
table that no request of its access stands beside. -/
def State.busyHandlers (s : State) (a : Nat) : Nat :=
  (s.reqs.filter (fun p => p.2.agent == a)).length
    + s.sectors.foldl (fun n p => n + (p.2.fifo.filter (fun q =>
        q.agent == a && !s.reqs.any (fun r => r.2.agent == a && r.2.sector == p.1 && r.2.who == q.who))).length) 0

/-- A transient request left outstanding for an access that waits (12 R287), when a miss handler is free (12 R291). -/
def State.addReq (s : State) (k a : Nat) (write : Bool) (who : Asker) (many : Bool) : State :=
  if s.reqs.any (fun p => p.2.agent == a && p.2.sector == k && p.2.write == write && p.2.who == who && p.2.many == many) then s
  else
    let rs := s.reqs.filter (fun p => s.asks p.2.who && !(who.single && p.2.who == who && p.2.sector != k))
    let own := (s.sector k).fifo.any (fun q => q.agent == a && q.who == who)
    if !own && handlersOf a ≤ ({ s with reqs := rs } : State).busyHandlers a then { s with reqs := rs }
    else
      let now := s.agentClock a
      { s with reqs := tabSet rs (tabFree rs) ⟨a, k, write, who, 0, now, now, many, false, false, 0, [], []⟩ }

/-- The requests of an access that performs are answered: its transient one ends, and its persistent one is served
(12 R292). -/
def State.answered (s : State) (k a : Nat) (who : Asker) : State :=
  let x := s.sector k
  let s' : State := { s with reqs := s.reqs.filter (fun p => !(p.2.agent == a && p.2.sector == k && p.2.who == who)) }
  if x.fifo.any (fun p => p.agent == a && p.who == who) then
    s'.putSector k { x with fifo := x.fifo.map (fun p => if p.agent == a && p.who == who then { p with served := true } else p) }
  else s'

/-- The lines that a level-one slice holds, of device memory and of type H. -/
def State.sliceLines (s : State) (a : Nat) : List Nat :=
  ((s.sectors.filter (fun p => p.2.held.any (fun h => h.agent == a && decide (0 < h.count)))).map (fun p => lineOf p.1)
    ++ (s.hostLines.filter (fun p => p.2.slices.contains a)).map (fun p => p.1)).eraseDups

/-- A slice gives up a line: its tokens go home, and its copy of a line of type H goes (12 R290). -/
def State.giveUp (s : State) (a line : Nat) (who : Asker) : State :=
  let s1 := [2 * line, 2 * line + 1].foldl (fun s k =>
    let home := agentHome (homeDie (64 * k))
    let h := (s.sector k).holding home a
    if h.count = 0 then s else s.moveTok (s.sector k).slot k a who ⟨a, home, h.count, h.owner, h.owner⟩) s
  { s1 with hostLines := s1.hostLines.map (fun p =>
      if p.1 = line ∧ p.2.slices.contains a then (p.1, ⟨p.2.slices.filter (· != a), false⟩) else p) }

/-- Room for a line in a level-one slice, which holds 512 (10 R250): another line that no pin and no request keeps is given up; none
while every line is kept. -/
def State.makeSlot (s : State) (a line : Nat) (who : Asker) : Option State :=
  if agentKind a ≠ 1 then some s
  else
    let ls := s.sliceLines a
    if ls.length < 512 ∨ ls.contains line then some s
    else
      let idle (l : Nat) : Bool :=
        [2 * l, 2 * l + 1].all (fun k => !s.pinned k a false && !(s.sector k).resetting
          && !s.reqs.any (fun p => p.2.agent == a && p.2.sector == k))
      (ls.find? idle).map (fun l => s.giveUp a l who)

/-- How an access is served: what moves where. -/
def State.tokPlan (s : State) (k a : Nat) (write : Bool) : Option (List TokMove) :=
  let home := agentHome (homeDie (64 * k))
  if write then (s.sector k).planWrite home a else (s.sector k).planRead home a

/-- An agent collects what an access needs (12 R285): one token with data for a read, all for a write.  None: it must
wait. -/
def State.collect (s : State) (key k a : Nat) (write : Bool) (who : Asker) : Option State :=
  match s.tokPlan k a write with
  | none => none
  | some plan =>
    if s.deferred k a who write plan then none
    else
      match s.makeSlot a (lineOf k) who with
      | none => none
      | some s1 =>
        let s2 := if plan.isEmpty then s1 else s1.fillLine key (lineOf k)
        let s3 := s2.moveToks key k a who plan
        if write && ((s3.sector k).holding (agentHome (homeDie (64 * k))) a).count != 1024 then none else some (s3.answered k a who)

/-- The home applies a write of its own to a sector whose tokens it holds: the line is un-shared first and placed after
(12 R302, R309). -/
def State.homeWrite (s : State) (key pa n v : Nat) : State :=
  let line := lineOf (pa / 64)
  ((s.unshareLine key line).writePa key pa n v).placeLine key line

/-- The host's copy of a sector invalidated or left shared, its modified data taken (18 R451), for an agent that asks (19 R458). -/
def State.backInvalidate (s : State) (key k a : Nat) (who : Asker) (target : HostCopy) : State :=
  let x := s.sector k
  let s1 : State :=
    match tabGet? s.hostCache k with
    | none => s
    | some v => if x.host = .x then { s.homeWrite key (64 * k) 64 v with hostCache := tabDel s.hostCache k } else s
  (s1.putSector k { s1.sector k with host := target }).note
    [{ s1.recordFor who a k 4 with from_ := agentHost 0, key := key }]

/-- Tokens of other agents that can come home at once do so before the device writes a sector itself (log 12). -/
def State.recallOwn (s : State) (k : Nat) : State :=
  let die := homeDie (64 * k)
  let key := s.ownKey (64 * k)
  let s0 := if (s.sector k).host = .i then s else s.backInvalidate key k (agentHome die) (.unit die) .i
  if (s0.sector k).home = 1024 then s0 else (s0.collect key k (agentHome die) true (.unit die)).getD s0

/-- n bytes written by the device itself by physical address (log 12): a line that the home's cache holds is placed anew. -/
def State.writeOwn (s : State) (pa n v : Nat) : State :=
  let k := pa / 64
  let s := s.recallOwn k
  let key := s.ownKey pa
  let m := if s.legible key k then s.mem else memWrite s.mem (64 * k) 64 0
  let s1 : State := { s.putSector k { s.sector k with slot := key, epoch := s.pe } with mem := memWrite m pa n v }
  match tabGet? (s1.die (homeDie pa)).l2.tags (lineOf k) with
  | some t => s1.placeLine t.key (lineOf k)
  | none => s1

/-- n bytes that may span sectors, written by the device itself, in pieces of 8. -/
def State.writeOwn64s (s : State) (pa : Nat) : List Nat → State
  | [] => s
  | v :: t => (s.writeOwn pa 8 v).writeOwn64s (pa + 8) t

end Sys2Proof.Machine
end

