-- ==== Sys2Proof/Machine/Home.lean ====
section
/-! DEFINITION. What a home does for the accesses that reach it: the error log (16 R405, R406), migrations and bias (18 R441,
R442, R451 to R453), errors and resets (16 R403, 12 R306, R308), and obtaining a sector's tokens (12 R285 to R292). -/

namespace Sys2Proof.Machine

/-- A log entry as a record of a die's ring, +8 of 16 R405: NC when no core is concerned. -/
def logWord1 (e : LogEntry) (die lines : Nat) (core : Option Nat) : Nat :=
  e.severity % 4 * 2 ^ 62 + e.unit % 16 * 2 ^ 58 + die % 4 * 2 ^ 56 + lines % 256 * 2 ^ 32 + e.cause % 512
    + (match core with
       | some n => n % 4096 * 2 ^ 40
       | none => 2 ^ 52)

/-- A record added to a die's error log (16 R405, R406); last is +24 of the record. -/
def State.logRecord (s : State) (die : Nat) (e : LogEntry) (lines : Nat) (core : Option Nat) (last : Nat) : State :=
  let x := s.die die
  let el : ErrLog := { x.el with corr := if e.severity = 0 ∧ e.unit ≠ 12 then x.el.corr + 1 else x.el.corr }
  let log2 := el.size.toNat % 32
  let at_ := el.base.toNat + 32 * (el.head.toNat % 2 ^ log2)
  if log2 < 4 ∨ 20 < log2 ∨ !s.backed at_ 32 then
    s.putDie die { x with el := { el with drop := if el.drop + 1 < 2 ^ 32 then el.drop + 1 else el.drop } }
  else
    (s.putDie die { x with el := { el with head := el.head + 1 } }).writeOwn64s at_
      [s.time, logWord1 e die lines core, e.addr.toNat, last]

/-- The last word of a record that concerns a core (16 R405): its superstep, whether a rollback starts, its gang and rank. -/
def Core.logLast (c : Core) (rolls : Bool) : Nat :=
  c.sp.ss.toNat % 2 ^ 48 * 2 ^ 16 + (if rolls then 2 ^ 15 else 0)
    + (if c.sp.psw.getLsbD 4 then 2 ^ 14 + c.sp.gang.toNat % 2 ^ 12 else 0)

/-- The error of a record starts a rollback (09 R237): a protected gang's core consumes it, in a superstep that has not failed before
(09 R238). -/
def State.rolls (s : State) (site : Nat) (e : LogEntry) : Bool :=
  let c := s.core site
  e.severity == 1 && e.unit != 12 && c.guarded && consumes e.cause
    && s.gangs.all (fun p => !(p.2.cores.contains site && p.2.vd == c.sp.vd.toNat % 64) || p.2.fails == 0)

/-- A record of a die's log that concerns the core at a site (16 R405). -/
def State.logFor (s : State) (die site : Nat) (e : LogEntry) : State :=
  s.logRecord die e 0 (some (s.logical site)) ((s.core site).logLast (s.rolls site e))

/-- A record that concerns a core, or none. -/
def State.logMaybe (s : State) (die : Nat) (site : Option Nat) (e : LogEntry) : State :=
  match site with
  | some n => s.logFor die n e
  | none => s.logRecord die e 0 none 0

/-- A correction by a unit of a die, which no core is told of (10 R247, 16 R403). -/
def State.logFixed (s : State) (die unit addr : Nat) : State :=
  s.logRecord die ⟨0, unit, 0, BitVec.ofNat 64 addr⟩ 0 none 0

/-- A migration refuses requests to the frame of an address (18 R442), or lets them wait (18 R441). -/
def State.migs (s : State) : List Migration := (s.dies.map (fun p => p.2.migs)).flatten
def State.refuses (s : State) (pa : Nat) : Bool :=
  s.migs.any (fun m => m.old == pa / 65536 && decide (1 ≤ m.state) && m.state != 7)
def State.incoming (s : State) (pa : Nat) : Bool :=
  s.migs.any (fun m => !m.xdev && m.new == pa / 65536 && decide (1 ≤ m.state) && m.state != 4 && m.state != 7)
    || (tabGet? s.incomingFrames (pa / 65536)).isSome

/-- The home refuses an access of an agent (18 R442): not the one whose persistent request is active. -/
def State.turnsAway (s : State) (pa a : Nat) (who : Asker) : Bool := s.refuses pa && !s.activeFor (pa / 64) a who

/-- A bias flip in flight names the granule of an address; and its part of sector k is done (18 R453). -/
def State.flipping (s : State) (pa : Nat) : Bool := s.hub.flips.any (fun f => f.gran == pa / 4096)
def State.flipped (s : State) (k : Nat) : Bool := s.hub.flips.any (fun f => f.gran == k / 64 && f.done.contains k)

/-- The host's copy of a sector settled before an access of a device agent in host bias (18 R451). -/
def State.settleHost (s : State) (key pa a : Nat) (write : Bool) (who : Asker) : State :=
  let k := pa / 64
  if !s.hostBias pa || who == .host then s
  else if write then if (s.sector k).host = .i then s else s.backInvalidate key k a who .i
  else if (s.sector k).host = .x then s.backInvalidate key k a who .s else s

/-- The reset of a sector starts, for an error of a unit (12 R308): every agent drops its tokens and its copy of the data, which is
recorded of a remote-data cache (19 R458). -/
def State.startReset (s : State) (k unit : Nat) : State :=
  let home := agentHome (homeDie (64 * k))
  let rdcs := (s.sector k).held.filter (fun h => agentKind h.agent == 3 && decide (0 < h.count))
  let s1 := ((s.sector k).held.foldl (fun s h => s.splitFor k h.agent) s).note
    (rdcs.map (fun h => { s.recordFor (.unit (homeDie (64 * k))) home k 4 with from_ := h.agent }))
  ({ s1.putSector k { s1.sector k with resetting := true, unit := unit, home := 0, homeOwner := false, held := [] } with
    pins := s1.pins.filter (fun p => p.sector != k) } : State).trimBulk k

/-- An error of the swatch that a line uses is corrected once and logged, or resets every line that points at it, with
the number of lines in the log (12 R306). -/
def State.meetSwatch (s : State) (line : Nat) : State :=
  let d := homeDie (128 * line)
  match (s.die d).l2.swatchOf line with
  | none => s
  | some i =>
    match (tabGet? (s.die d).l2.swatches i).bind (fun w => w.err) with
    | none => s
    | some false => (s.onL2 line (fun c => c.setErr i none)).logFixed d 5 (128 * line)
    | some true =>
      let ls := (s.die d).l2.sharers i
      let s1 := (s.onL2 line (fun c => c.setErr i none)).logRecord d ⟨2, 5, cUNCORRECTABLE, BitVec.ofNat 64 (128 * line)⟩
        (min ls.length 255) none 0
      (ls.flatMap (fun l => [2 * l, 2 * l + 1])).foldl (fun s k => if (s.sector k).homeOwner then s.startReset k 5 else s) s1

/-- The home's own copy of a sector is read: a correctable error of HBM or of its swatch is corrected and logged; an uncorrectable
one starts the reset of the sector (16 R403, 12 R306, R308).  True: the access waits for the reset. -/
def State.meetHbm (s : State) (k : Nat) : State × Bool :=
  let s0 := s.meetSwatch (lineOf k)
  if !(s0.sector k).homeOwner then (s0, (s0.sector k).resetting)
  else
    match tabGet? s0.hbmErr k with
    | none => (s0, (s0.sector k).resetting)
    | some false =>
      (({ s0 with hbmErr := tabDel s0.hbmErr k } : State).logFixed (homeDie (64 * k)) 6 (64 * k), (s0.sector k).resetting)
    | some true => (s0.startReset k 6, true)

/-- A write of a whole sector at once clears its poison (12 R308). -/
def State.healed (s : State) (k n : Nat) : State :=
  if n = 64 ∧ (s.sector k).poison then s.putSector k { s.sector k with poison := false } else s

/-- What serves an access reads the home's own copy. -/
def readsHome (home a : Nat) (plan : List TokMove) : Bool := a == home || plan.any (fun m => m.src == home && m.data)

/-- An agent collects what an access to a sector needs, with the host's copy settled and the errors of the home's copy met; an
access that must wait asks for it. -/
def State.obtainAt (s : State) (key k a : Nat) (write : Bool) (who : Asker) (ask : State → State) : Acc Nat :=
  let home := agentHome (homeDie (64 * k))
  match s.tokPlan k a write with
  | none => .wait (ask (s.settleHost key (64 * k) a write who))
  | some plan =>
    let s0 := s.settleHost key (64 * k) a (write || plan.any (fun m => m.owner && m.src == home)) who
    match (if readsHome home a plan then s0.meetHbm k else (s0, (s0.sector k).resetting)) with
    | (s1, true) => .wait s1
    | (s1, false) =>
      match s1.collect key k a write who with
      | none => .wait (ask s1)
      | some s2 => .ok s2 0

/-- A request of an agent waits at the home of a sector (18 R441, R453): at an incoming frame, and during a bias flip, but for the
access whose persistent request is active, whose turn comes before the flip's own; one for a sector whose part of the flip is finished
waits until the bit changes; and one for a granule whose bits cannot be read (log 95). -/
def State.heldUp (s : State) (pa a : Nat) (who : Asker) : Bool :=
  let mine := s.activeFor (pa / 64) a who
  s.flipped (pa / 64) || s.biasLost pa || ((s.flipping pa || s.incoming pa) && !mine)

/-- An agent obtains what an access needs (12 R285 to R289), unless its home holds it up; it leaves a transient request outstanding while
it cannot complete. -/
def State.obtain (s : State) (key pa a : Nat) (write : Bool) (who : Asker) : Acc Nat :=
  let k := pa / 64
  if s.heldUp pa a who then .wait s
  else s.obtainAt key k a write who (fun t => t.addReq k a write who false)

/-- A persistent request of a home's own enters its table at once (18 R441, R453), when one of its entries is free (12 R291). -/
def State.addOwn (s : State) (k : Nat) (who : Asker) : State :=
  let home := agentHome (homeDie (64 * k))
  let x := s.sector k
  if x.fifo.any (fun p => p.agent == home && p.who == who) ∨ handlersOf home ≤ s.busyHandlers home then s
  else
    let s1 := s.putSector k { x with fifo := x.fifo ++ [⟨home, true, who, false⟩] }
    if x.fifo.isEmpty then s1.note [{ s1.recordFor who home k 2 with arg := 1 }] else s1

/-- The active persistent request of a sector is another's and not served yet: it completes its one access first (12 R292, 18 R442). -/
def State.othersTurn (s : State) (k a : Nat) (who : Asker) : Bool :=
  (s.sector k).fifo.head?.any (fun p => !p.served && !(p.agent == a && p.who == who))

/-- The home collects every token of a sector with a persistent request (18 R441, R453): false, when it must wait, for an access whose
request is active too. -/
def State.recall (s : State) (k : Nat) (who : Asker) : State × Bool :=
  let home := agentHome (homeDie (64 * k))
  let s0 := if (s.sector k).host = .i then s else s.backInvalidate (s.ownKey (64 * k)) k home who .i
  if s0.othersTurn k home who then (s0.addOwn k who, false)
  else
  match s0.obtainAt (s0.ownKey (64 * k)) k (agentHome (homeDie (64 * k))) true who (fun t => t.addOwn k who) with
  | .ok s1 _ => (s1, true)
  | .wait s1 => (s1, false)
  | .trap s1 _ => (s1, false)

/-- Every token of the sectors that can be collected now is: those whose collection is complete. -/
def State.recallAll (s : State) (who : Asker) : List Nat → State × List Nat
  | [] => (s, [])
  | k :: t =>
    match s.recall k who with
    | (s1, ok) =>
      match s1.recallAll who t with
      | (s2, ks) => (s2, if ok then k :: ks else ks)

/-- Addresses read coherently at their homes, or their sectors claimed for a write, by a unit of a die, for the access of a core or its own
(10 R249, 11 R271; log 76): false, when a frame refuses one of them (18 R442); a trap, with the address, at a poisoned sector (12 R308). -/
def State.touch (s : State) (die : Nat) (site : Option Nat) (write : Bool) : List Nat → Acc Bool
  | [] => .ok s true
  | pa :: t =>
    let home := agentHome (homeDie pa)
    let who := match site with
      | some n => Asker.walk die n
      | none => .unit die
    if s.turnsAway pa home who then .ok s false
    else
      (s.obtain (s.ownKey pa) pa home write who).andThen fun s1 _ =>
      if (s1.sector (pa / 64)).poison then
        .trap (s1.logMaybe (homeDie pa) site ⟨1, 6, cUNCORRECTABLE, BitVec.ofNat 64 pa⟩) ⟨cUNCORRECTABLE, BitVec.ofNat 64 pa⟩
      else s1.touch die site write t

/-- The home applies a write of its own, all tokens collected first (12 R309). -/
def State.applyHome (s : State) (key pa n v : Nat) (who : Asker) : Acc Nat :=
  let k := pa / 64
  (s.obtain key pa (agentHome (homeDie pa)) true who).andThen fun s1 _ => .ok ((s1.homeWrite key pa n v).healed k n) 0

end Sys2Proof.Machine
end

