-- ==== Sys2Proof/Machine/Translate.lean ====
section
/-! DEFINITION. The translation of virtual addresses (10 R240 to R249) with its caches. -/

namespace Sys2Proof.Machine

/-- Fields of a page-table entry (10 R241). -/
def pteValid (e : DWord) : Bool := e.getLsbD 0
def pteType (e : DWord) : Nat := e.toNat / 2 % 8
def pteCr (e : DWord) : Bool := e.getLsbD 4
def pteCh (e : DWord) : Bool := e.getLsbD 5
def pteBm (e : DWord) : Bool := e.getLsbD 6
def pteLeaf (e : DWord) : Bool := e.getLsbD 7
def pteKey (e : DWord) : Nat := e.toNat / 2 ^ 8 % 2 ^ 8
def ptePa (e : DWord) : Nat := e.toNat / 2 ^ 16 % 2 ^ 32 * 2 ^ 16

/-- The index field of a level, its number of entries, and the bits that an entry of the level maps (10 R240). -/
def vaIndex (va level : Nat) : Nat :=
  match level with
  | 0 => va / 2 ^ 55 % 2 ^ 9
  | 1 => va / 2 ^ 42 % 2 ^ 13
  | 2 => va / 2 ^ 29 % 2 ^ 13
  | _ => va / 2 ^ 16 % 2 ^ 13
def levelSpan (level : Nat) : Nat :=
  match level with
  | 0 => 55
  | 1 => 42
  | 2 => 29
  | _ => 16
def tableBytes (level : Nat) : Nat := if level = 0 then 4096 else 65536

/-- How a translation ends. -/
inductive Translation where
  /-- the leaf, as a cached entry -/
  | leaf (e : TlbEntry)
  /-- a cause of 10 R242 -/
  | fault (cause : Nat)
  /-- a table lies in a frame that refuses its requests (18 R442) -/
  | moved
  /-- a table lies in an incoming frame, or its sector is being reset: the walk waits -/
  | blocked
  deriving DecidableEq, Repr

/-- The region of a physical address admits a leaf of the type (18 R438); the window of a type-F leaf must be valid. -/
def State.typeFits (s : State) (ty pa : Nat) : Bool :=
  let w := pa / 2 ^ 40
  if w = 0 then ty == 0 || ty == 1
  else if w = 1 then ty == 2
  else if w < 16 then ty == 3
  else ty == 4 && (tabGet s.hub.windows w ⟨0, 0, 0, 0⟩).map.getLsbD 63

/-- The checks of a leaf at level 2 or 3 (10 R242, 18 R438, 20 R471). -/
def State.leafOk (s : State) (level : Nat) (e : DWord) : Bool :=
  let ty := pteType e
  let pa := ptePa e
  decide (ty < 5) && !(pteCh e && level == 2) && !(level == 2 && pa % 2 ^ 29 != 0)
    && (decide (2 ≤ ty) || s.backed pa (2 ^ levelSpan level)) && s.typeFits ty pa
    && (decide (2 ≤ ty) || tabGet s.hub.keySlots (pteKey e) 0 == 1)

/-- The addresses of the leaves of the group of a leaf, from leaf 0 up (10 R246); table is the address of the level-3 table. -/
def groupAddrs (table va : Nat) : List Nat := (List.range 32).map (fun i => table + 8 * (vaIndex va 3 / 32 * 32 + i))

/-- The second read of a CR leaf agrees with the first (10 R248). -/
def State.leafAgrees (s : State) (at_ : Nat) : Bool := tabGet s.homeDiff (at_ / 8) 0 == 0

/-- The group makes one entry (10 R246); each of its leaves stands for itself (10 R242), and a CR group only when every second read
agrees (log 77). -/
def State.groupOk (s : State) (addrs : List Nat) : Bool :=
  let z := s.readOwn64 (addrs.headD 0)
  ptePa z % 2 ^ 21 == 0
    && addrs.zipIdx.all (fun p =>
      let e := s.readOwn64 p.1
      pteValid e && e.toNat / 2 ^ 48 == 0 && pteLeaf e && s.leafOk 3 e && pteCh e && pteType e == pteType z && pteCr e == pteCr z
        && pteBm e == pteBm z && pteKey e == pteKey z && ptePa e == ptePa z + p.2 * 65536 && (!pteCr e || s.leafAgrees p.1))

/-- The entry that a walker makes of a leaf (10 R245, R246). -/
def State.makeEntry (s : State) (level table va : Nat) (e : DWord) : TlbEntry :=
  if level = 3 ∧ pteCh e ∧ s.groupOk (groupAddrs table va) then
    ⟨va / 2 ^ 21 * 2 ^ 21, 21, s.readOwn64 ((groupAddrs table va).headD 0)⟩
  else ⟨va / 2 ^ levelSpan level * 2 ^ levelSpan level, levelSpan level, e⟩

/-- What a walk reads and how it ends: the addresses read in order, the non-leaf entries met, and the end. -/
structure Walk where
  addrs : List Nat
  entries : List WalkEntry
  res : Translation
  deriving DecidableEq, Repr

/-- One entry of a walk from a level down (10 R242): n levels remain, table is the address of the table at level 4 - n. -/
def State.walkFrom (s : State) (va table : Nat) : Nat → Walk
  | 0 => ⟨[], [], .fault cPTE_FORMAT⟩
  | n + 1 =>
    let level := 3 - n
    let at_ := table + 8 * vaIndex va level
    let e := s.readOwn64 at_
    let ends (r : Translation) : Walk := ⟨[at_], [], r⟩
    if !pteValid e then ends (.fault cNOT_PRESENT)
    else if e.toNat / 2 ^ 48 ≠ 0 then ends (.fault cPTE_FORMAT)
    else if (pteLeaf e && decide (level < 2)) || (!pteLeaf e && level == 3) then ends (.fault cPTE_FORMAT)
    else if !pteLeaf e then
      if e.toNat / 2 % 2 ^ 15 ≠ 0 ∨ !s.backed (ptePa e) (tableBytes (level + 1)) then ends (.fault cPTE_FORMAT)
      else
        let w := s.walkFrom va (ptePa e) n
        ⟨at_ :: w.addrs, ⟨level, va / 2 ^ levelSpan level, e⟩ :: w.entries, w.res⟩
    else if !s.leafOk level e then ends (.fault cPTE_FORMAT)
    else if pteCr e && !s.leafAgrees at_ then ends (.fault cCRITICAL_LEAF)
    else
      ⟨at_ :: (if level = 3 ∧ pteCh e then groupAddrs table va else []), [], .leaf (s.makeEntry level table va e)⟩

/-- The entry of a list of translations that covers an address. -/
def tlbFind (l : List TlbEntry) (va : Nat) : Option TlbEntry := l.find? (fun e => e.base == va / 2 ^ e.span * 2 ^ e.span)

/-- A walk by the walkers of a die (10 R242, R245): from the deepest non-leaf entry that its walk cache holds, else from
the translation root. -/
def State.walkOf (s : State) (die va : Nat) : Walk :=
  let d := s.die die
  let hit (level : Nat) : Option WalkEntry := d.walk.find? (fun w => w.level == level && w.tag == va / 2 ^ levelSpan level)
  let root := d.root.toNat / 2 ^ 12 % 2 ^ 36 * 2 ^ 12
  match hit 2 with
  | some w => s.walkFrom va (ptePa w.pte) 1
  | none =>
    match hit 1 with
    | some w => s.walkFrom va (ptePa w.pte) 2
    | none =>
      match hit 0 with
      | some w => s.walkFrom va (ptePa w.pte) 3
      | none => if !s.backed root 4096 then ⟨[], [], .fault cPTE_FORMAT⟩ else s.walkFrom va root 4

/-- One address of each sector that a list reads, in order. -/
def sectorHeads : List Nat → List Nat
  | [] => []
  | a :: t => a :: (sectorHeads t).filter (fun b => b / 64 != a / 64)

/-- The walk cache of a die with entries added (10 R245; log 7). -/
def Die.addWalks (d : Die) (ws : List WalkEntry) : Die := { d with walk := ws ++ d.walk.filter (fun w => !ws.contains w) }

/-- A walk for a core, or for a unit of the die (10 R242, R249): its entries read coherently, as type-C loads of one token each (log 76).  The walk
cache keeps the non-leaf entries of a walk that succeeds (log 7). -/
def State.walk (s : State) (die : Nat) (site : Option Nat) (va : Nat) : State × Translation :=
  let w := s.walkOf die va
  match s.touch die site false (sectorHeads w.addrs) with
  | .wait s1 => (s1, .blocked)
  | .ok s1 false => (s1, .moved)
  | .trap s1 e => (s1, .fault e.cause)
  | .ok s1 true =>
    match w.res with
    | .leaf e => (s1.putDie die ((s1.die die).addWalks w.entries), .leaf e)
    | .fault cause =>
      if cause = cCRITICAL_LEAF then (s1.logMaybe die site ⟨1, 10, cCRITICAL_LEAF, BitVec.ofNat 64 va⟩, .fault cause)
      else (s1, .fault cause)
    | r => (s1, r)

/-- A translation for a core: its TLB, its cluster's, then a walk whose result both keep (10 R245; log 7). -/
def State.translate (s : State) (site va : Nat) : State × Translation :=
  let c := s.core site
  match tlbFind c.tlb va with
  | some e => (s, .leaf e)
  | none =>
    let k := sitePkgCluster site
    let ct := tabGet s.clusTlb k []
    match tlbFind ct va with
    | some e => (s.putCore site { c with tlb := (e :: c.tlb).take 64 }, .leaf e)
    | none =>
      match s.walk (siteDie site) (some site) va with
      | (s1, .blocked) => (s1, .blocked)
      | (s1, .leaf e) =>
        let s2 := { s1 with clusTlb := tabSet s1.clusTlb k ((e :: ct).take 1024) }
        (s2.onCore site (fun c => { c.count 8 1 with tlb := (e :: c.tlb).take 64 }), .leaf e)
      | (s1, r) => (s1.onCore site (fun c => c.count 8 1), r)

/-- The physical address that an entry gives (10 R242). -/
def TlbEntry.pa (e : TlbEntry) (va : Nat) : Nat := ptePa e.pte + va % 2 ^ e.span

/-- The entry translates a byte of [base, base + size); size 0 stands for every address (16 R409). -/
def TlbEntry.overlaps (e : TlbEntry) (base size : Nat) : Bool :=
  size == 0 || (decide (e.base < base + size) && decide (base < e.base + 2 ^ e.span))

/-- The entries of every translation cache of the package for a range dropped (10 R249). -/
def State.dropTranslations (s : State) (base size : Nat) : State :=
  { s with
    cores := s.cores.map (fun p => (p.1, { p.2 with tlb := p.2.tlb.filter (fun e => !e.overlaps base size) }))
    clusTlb := s.clusTlb.map (fun p => (p.1, p.2.filter (fun e => !e.overlaps base size)))
    dies := s.dies.map (fun p => (p.1, { p.2 with walk := p.2.walk.filter (fun w =>
      !(size == 0 || (decide (w.tag * 2 ^ levelSpan w.level < base + size)
        && decide (base < (w.tag + 1) * 2 ^ levelSpan w.level)))) })) }

/-- The entries of one core and its cluster for the page of an address dropped, as a refusal asks (18 R442). -/
def State.dropPage (s : State) (site va : Nat) : State :=
  let keep (e : TlbEntry) : Bool := e.base != va / 2 ^ e.span * 2 ^ e.span
  let c := s.core site
  let k := sitePkgCluster site
  { s.putCore site { c with tlb := c.tlb.filter keep } with
    clusTlb := tabSet s.clusTlb k ((tabGet s.clusTlb k []).filter keep) }

end Sys2Proof.Machine
end

