-- ==== Sys2Proof/Machine/Rights.lean ====
section
/-! DEFINITION. Owners, rights tables and rights lookups (11 R262 to R283). -/

namespace Sys2Proof.Machine

/-- The rights, by their bits in a range entry (11 R265). -/
def rR : Nat := 0
def rW : Nat := 1
def rX : Nat := 2
def rA : Nat := 3
def rE : Nat := 4
def rG : Nat := 5

/-- The cause of a missing right (11 R268). -/
def rightCause (r : Nat) : Nat :=
  match r with
  | 0 => cRIGHT_READ
  | 1 => cRIGHT_WRITE
  | 2 => cRIGHT_EXEC
  | _ => cRIGHT_ATOMIC

/-- A directory entry (11 R263): its two words. -/
structure Directory where
  at_ : Nat
  w0 : DWord
  w1 : DWord
  deriving DecidableEq, Repr

/-- The directory entry of an owner, by the registers of a die (11 R263). -/
def State.directory (s : State) (die o : Nat) : Directory :=
  let a := (s.die die).ownBase.toNat + 16 * o
  ⟨a, s.readOwn64 a, s.readOwn64 (a + 8)⟩

/-- Fields of a directory entry (11 R263). -/
def Directory.vd (d : Directory) : Nat := d.w0.toNat / 2 ^ 48 % 64
def Directory.table (d : Directory) : Nat := d.w0.toNat / 32 % 2 ^ 43 * 32
def Directory.count (d : Directory) : Nat := d.w1.toNat % 2 ^ 16
def Directory.capacity (d : Directory) : Nat := d.w1.toNat / 2 ^ 16 % 2 ^ 16
def Directory.quarantine (d : Directory) : Nat := d.w1.toNat / 2 ^ 32 % 2 ^ 16
def Directory.next (d : Directory) : Nat := d.w1.toNat / 2 ^ 48

/-- The owner is valid for an agent of a virtual device (11 R264). -/
def State.ownerValid (s : State) (die o vd : Nat) : Bool :=
  let d := s.directory die o
  o != 0 && decide (o < (s.die die).ownLim.toNat) && d.w0.getLsbD 0 && d.w0.toNat / 2 % 16 == 0
    && d.w0.toNat / 2 ^ 54 == 0 && decide (d.count ≤ d.capacity) && d.vd == vd

/-- Range entry i of a table (11 R265). -/
def State.rangeAt (s : State) (o : Nat) (d : Directory) (i : Nat) : RangeEntry :=
  let a := d.table + 32 * i
  ⟨o, s.readOwn64 a, s.readOwn64 (a + 8), s.readOwn64 (a + 16), s.readOwn64 (a + 24)⟩

/-- The bounds of a range entry as numbers: a limit of 0 stands for 2^64 (11 R265). -/
def RangeEntry.lo (e : RangeEntry) : Nat := e.base.toNat
def RangeEntry.hi (e : RangeEntry) : Nat := if e.limit = 0 then 2 ^ 64 else e.limit.toNat

/-- Fields of a range entry (11 R265). -/
def RangeEntry.retired (e : RangeEntry) : Bool := e.word.getLsbD 8
def RangeEntry.grantor (e : RangeEntry) : Nat := e.word.toNat / 2 ^ 32 % 2 ^ 20
def RangeEntry.rights (e : RangeEntry) : Nat := e.word.toNat % 64
def RangeEntry.covers (e : RangeEntry) (g : Nat) : Bool := decide (e.lo ≤ g) && decide (g < e.hi)
def RangeEntry.overlaps (e : RangeEntry) (b l : Nat) : Bool := decide (e.lo < l) && decide (b < e.hi)

/-- The binary search of 11 R267: the entries that it reads in order, and the upper bound it ends with; 17 halvings end any search
of 65,535 entries. -/
def State.searchRights (s : State) (o : Nat) (d : Directory) (g lo hi : Nat) : Nat → List Nat × Nat
  | 0 => ([], lo)
  | n + 1 =>
    if lo < hi then
      let mid := (lo + hi) / 2
      let r := if (s.rangeAt o d mid).lo ≤ g then s.searchRights o d g (mid + 1) hi n else s.searchRights o d g lo mid n
      (mid :: r.1, r.2)
    else ([], lo)

/-- RightsLookup of 11 R267. -/
def State.lookupRights (s : State) (die o g : Nat) : Option RangeEntry :=
  let d := s.directory die o
  let lo := (s.searchRights o d g 0 d.count 17).2
  if lo = 0 then none
  else
    let e := s.rangeAt o d (lo - 1)
    if g < e.hi then some e else none

/-- The die of the rights engine of a table: the home of its first byte (11 R271). -/
def Directory.engine (d : Directory) : Nat := homeDie d.table % 4

/-- Words read, or claimed for a write, by the rights engine of a die for a core (11 R271; log 76): a frame that refuses one makes
it wait, and a poisoned sector traps with the address of the access. -/
def State.rightsRead (s : State) (die site : Nat) (write : Bool) (at_ : DWord) (pas : List Nat) : Acc Nat :=
  match s.touch die (some site) write ((sectorHeads pas).filter (fun a => s.backed a 8)) with
  | .ok s1 true => .ok s1 0
  | .ok s1 false => .wait s1
  | .wait s1 => .wait s1
  | .trap s1 e => .trap s1 ⟨e.cause, at_⟩

/-- The directory entry of an owner read (11 R264). -/
def State.readDirectory (s : State) (site o : Nat) (at_ : DWord) : Acc Directory :=
  let d := s.directory (siteDie site) o
  (s.rightsRead (siteDie site) site false at_ [d.at_]).andThen fun s1 _ => .ok s1 d

/-- A rights walk (11 R271): within the budget of the engine's die (14 R362), the directory entry and the entries that the search
meets read coherently. -/
def State.rightsWalk (s : State) (site o g : Nat) (at_ : DWord) : Acc (Option RangeEntry) :=
  let d := s.directory (siteDie site) o
  if !s.mayCharge d.engine 6 then .wait s
  else
    (s.rightsRead d.engine site false at_
      (d.at_ :: (s.searchRights o d g 0 d.count 17).1.map (fun i => d.table + 32 * i))).andThen fun s1 _ =>
    .ok ((s1.charge d.engine 6).onCore site (fun c => c.count 9 1)) (s1.lookupRights (siteDie site) o g)

/-- A lookup through the RLB of the core at a site (11 R270): a hit on a retired entry whose quarantine has ended drops
it, and a found entry is kept (log 7). -/
def State.lookupRlb (s : State) (site o g : Nat) (at_ : DWord) : Acc (Option RangeEntry) :=
  let c := s.core site
  let expired (e : RangeEntry) : Bool := e.retired && decide (e.qend.toNat ≤ s.time)
  match c.rlb.find? (fun e => e.owner == o && e.covers g && !expired e) with
  | some e => .ok s (some e)
  | none =>
    let rlb := c.rlb.filter (fun e => !(e.owner == o && e.covers g))
    ((s.putCore site { c with rlb := rlb }).rightsWalk site o g at_).andThen fun s1 r =>
    match r.filter (fun e => !expired e) with
    | none => .ok s1 none
    | some e => .ok (s1.onCore site (fun c => { c with rlb := (e :: rlb).take 32 })) (some e)

/-- The first missing right of those needed, in the order R, W, X, A (11 R268). -/
def firstMissing (e : Option RangeEntry) (need : List Nat) : Option Nat :=
  [rR, rW, rX, rA].find? (fun r => need.contains r && !(match e with
    | none => false
    | some e => e.word.getLsbD r))

/-- One granule of RightsCheck (11 R268). -/
def State.checkGranule (s : State) (site o g at_ : Nat) (need : List Nat) (engine : Bool) : Acc Nat :=
  let a := BitVec.ofNat 64 at_
  (s.lookupRlb site o g a).andThen fun s1 e =>
  if e.any (fun x => x.retired) then .trap s1 ⟨cRETIRED, a⟩
  else if engine && !e.any (fun x => x.word.getLsbD rE) then .trap s1 ⟨cRIGHT_ENGINE, a⟩
  else
    match firstMissing e need with
    | some r => .trap s1 ⟨rightCause r, a⟩
    | none => .ok s1 0

/-- RightsCheck of 11 R268 over n granules from g up. -/
def State.checkGranules (s : State) (site o va g : Nat) (need : List Nat) (engine : Bool) : Nat → Acc Nat
  | 0 => .ok s 0
  | n + 1 =>
    (s.checkGranule site o g (max va g) need engine).andThen fun s1 _ => s1.checkGranules site o va (g + 64) need engine n

/-- The check of an owner under 11 R264, its directory entry read for an access at an address. -/
def State.checkOwner (s : State) (site o vd : Nat) (at_ : DWord) : Acc Bool :=
  if o = 0 ∨ (s.die (siteDie site)).ownLim.toNat ≤ o then .ok s false
  else (s.readDirectory site o at_).andThen fun s1 _ => .ok s1 (s1.ownerValid (siteDie site) o vd)

/-- RightsCheck of 11 R268 for an access of n bytes under an owner, a virtual device and a mode. -/
def State.checkRights (s : State) (site mode o vd va n : Nat) (need : List Nat) (engine : Bool) : Acc Nat :=
  if mode = 3 then .ok s 0
  else
    (s.checkOwner site o vd (BitVec.ofNat 64 va)).andThen fun s1 valid =>
    if !valid then .trap s1 ⟨cOWNER_INVALID, BitVec.ofNat 64 o⟩
    else s1.checkGranules site o va (va / 64 * 64) need engine ((va + n - 1) / 64 - va / 64 + 1)

/-- The current owner and virtual device of a core (11 R262). -/
def Core.owner (c : Core) : Nat := c.sp.own.toNat % 2 ^ 20
def Core.vdev (c : Core) : Nat := c.sp.vd.toNat % 64

/-- The whole table of an owner. -/
def State.rangeTable (s : State) (die o : Nat) : List RangeEntry :=
  let d := s.directory die o
  (List.range d.count).map (fun i => s.rangeAt o d i)

/-- The words of a table. -/
def tableWords (es : List RangeEntry) : List Nat :=
  es.flatMap (fun e => [e.base.toNat, e.limit.toNat, e.word.toNat, e.qend.toNat])

/-- A table written back with its count and next generation: one indivisible edit (11 R272). -/
def State.putTable (s : State) (die o : Nat) (es : List RangeEntry) (next : Nat) : State :=
  let d := s.directory die o
  (s.writeOwn64s d.table (tableWords es)).writeOwn (d.at_ + 8) 8
    (es.length % 2 ^ 16 + d.capacity * 2 ^ 16 + d.quarantine * 2 ^ 32 + next % 2 ^ 16 * 2 ^ 48)

/-- An entry put in base order. -/
def insertRange (e : RangeEntry) : List RangeEntry → List RangeEntry
  | [] => [e]
  | x :: t => if x.lo ≤ e.lo then x :: insertRange e t else e :: x :: t

/-- What is left of an entry outside [b, l) (11 R280). -/
def RangeEntry.outside (e : RangeEntry) (b l : Nat) : List RangeEntry :=
  (if e.lo < b then [{ e with limit := BitVec.ofNat 64 b }] else [])
    ++ (if l < e.hi then [{ e with base := BitVec.ofNat 64 l }] else [])

/-- The limit operand as a number (11 R265). -/
def limitOf (x : DWord) : Nat := if x = 0 then 2 ^ 64 else x.toNat

/-- The checks of 11 R278 common to grant, revoke and retire; target is none for retire.  What they read of the directory is read at
addresses of the range. -/
def State.rangeChecks (s : State) (site : Nat) (base limit : DWord) (target : Option DWord) : Acc Nat :=
  let c := s.core site
  if base.toNat % 64 ≠ 0 ∨ limit.toNat % 64 ≠ 0 ∨ (limit ≠ 0 ∧ limit.toNat ≤ base.toNat) then .trap s ⟨cRANGE_BAD, base⟩
  else
    (if c.mode = 3 then .ok s true else s.checkOwner site c.owner c.vdev base).andThen fun s1 mine =>
    if !mine then .trap s1 ⟨cOWNER_INVALID, BitVec.ofNat 64 c.owner⟩
    else
      match target with
      | none => .ok s1 0
      | some t =>
        (if t.toNat / 2 ^ 20 ≠ 0 then .ok s1 false else s1.checkOwner site t.toNat c.vdev base).andThen fun s2 valid =>
        if valid then .ok s2 0 else .trap s2 ⟨cOWNER_INVALID, t⟩

/-- The table of an owner, with n entries to come in it, claimed by its rights engine for an edit (11 R272): the sectors of the
directory entry and of the table, all tokens collected at their homes. -/
def State.claimTable (s : State) (site o n : Nat) (at_ : DWord) : Acc Nat :=
  let d := s.directory (siteDie site) o
  s.rightsRead d.engine site true at_ (d.at_ :: (List.range (d.count + n)).map (fun i => d.table + 32 * i))

/-- The granule after g at which the granter's entry may be another one: the end of the entry, or the start of another entry that
the RLB holds (11 R279). -/
def State.nextGranule (s : State) (site o g : Nat) (e : RangeEntry) : Nat :=
  (s.core site).rlb.foldl (fun n x => if x.owner = o ∧ g < x.lo ∧ x.lo < n then x.lo else n) e.hi

/-- The granter's own rights over [g, l), entry by entry through the RLB with RT handling (11 R279): the first granule that fails
raises its cause. -/
def State.granter (s : State) (site o r g l : Nat) : Nat → Acc Nat
  | 0 => .ok s 0
  | n + 1 =>
    if l ≤ g then .ok s 0
    else
      let a := BitVec.ofNat 64 g
      (s.lookupRlb site o g a).andThen fun s1 found =>
      match found with
      | none => .trap s1 ⟨cGRANT_DENIED, a⟩
      | some e =>
        if e.retired then .trap s1 ⟨cRETIRED, a⟩
        else if !e.word.getLsbD rG || (r &&& (63 ^^^ (e.rights % 64))) != 0 then .trap s1 ⟨cGRANT_DENIED, a⟩
        else s1.granter site o r (s1.nextGranule site o g e) l n

/-- The word at +16 of an entry (11 R265). -/
def rangeWord (grantor gen rights : Nat) (retired : Bool) : DWord :=
  BitVec.ofNat 64 (grantor % 2 ^ 20 * 2 ^ 32 + gen % 2 ^ 16 * 2 ^ 16 + (if retired then 256 else 0) + rights % 64)

/-- A round on the notification network started; its number. -/
def State.startRound (s : State) (site : Nat) (k : RoundKind) : State × Nat :=
  let id := tabFree s.rounds
  ({ s with rounds := tabSet s.rounds id ⟨k, site, s.time⟩ }, id)

/-- The trace record of a round's start or end (19 R458): no rule gives its physical address, FROM and TO, which are free values,
and it is recorded by the die of that address (19 R456; log 13).  A round of a migration is requested by no core. -/
def State.roundEv (s : State) (site : Option Nat) (kind owner arg : Nat) : TraceEv :=
  let field (i : Nat) : Nat := (Config.roundField s.free (4 * kind + i)).toNat
  let pa := field 0 / 64 * 64
  let ss := match site with
    | some n => (s.core n).sp.ss.toNat % 2 ^ 24
    | none => 0
  { die := pa / 2 ^ 38 % 4, kind := kind, scope := 3, count := 0, ss := ss,
    from_ := field 1 % 2 ^ 16, pa := pa, target := field 2 % 2 ^ 16, key := 0,
    owner := owner, core := site.map s.logical, arg := arg }

/-- A shutter started for (t, [b, l)) (11 R273). -/
def State.startShutter (s : State) (site t b l : Nat) : State :=
  ((s.startRound site (.shutter t b l)).1).note [s.roundEv (some site) 6 t (l % 2 ^ 64)]

/-- A retired entry whose quarantine has ended (11 R276). -/
def RangeEntry.expired (e : RangeEntry) (now : Nat) : Bool := e.retired && decide (e.qend.toNat ≤ now)

/-- grant (11 R279), its phase checks passed: the generation. -/
def State.grant (s : State) (site : Nat) (base limit target : DWord) (r : Nat) : Acc Nat :=
  (s.rangeChecks site base limit (some target)).andThen fun s0 _ =>
  let c := s0.core site
  let die := siteDie site
  let t := target.toNat
  let b := base.toNat
  let l := limitOf limit
  (if c.mode < 3 then s0.granter site c.owner r b l 65700 else .ok s0 0).andThen fun s1 _ =>
  (s1.claimTable site t 1 base).andThen fun s2 _ =>
  let live := (s2.rangeTable die t).filter (fun e => !(e.expired s2.time && e.overlaps b l))
  let d := s2.directory die t
  match ((live.filter (fun e => e.overlaps b l)).map (fun e => max b e.lo)).min? with
  | some g => .trap s2 ⟨cGRANT_DENIED, BitVec.ofNat 64 g⟩
  | none =>
    if live.length = d.capacity then .trap s2 ⟨cTABLE_FULL, target⟩
    else
      let grantor := if c.mode = 3 then 0 else c.owner
      let e : RangeEntry := ⟨t, base, limit, rangeWord grantor d.next r false, 0⟩
      .ok (s2.putTable die t (insertRange e live) (d.next + 1)) d.next

/-- A caller in a mode may revoke an entry (11 R280). -/
def mayRevoke (mode owner : Nat) (e : RangeEntry) : Bool := mode != 0 || (e.grantor == owner && !e.retired)

/-- revoke (11 R280), its phase checks passed: the number of entries removed or trimmed. -/
def State.revoke (s : State) (site : Nat) (base limit target : DWord) : Acc Nat :=
  (s.rangeChecks site base limit (some target)).andThen fun s0 _ =>
  let t := target.toNat
  (s0.claimTable site t 1 base).andThen fun s1 _ =>
  let c := s1.core site
  let die := siteDie site
  let b := base.toNat
  let l := limitOf limit
  let es := s1.rangeTable die t
  let hit (e : RangeEntry) : Bool := e.overlaps b l && mayRevoke c.mode c.owner e
  let n := (es.filter hit).length
  let es' := es.flatMap (fun e => if hit e then e.outside b l else [e])
  let d := s1.directory die t
  if d.capacity < es'.length then .trap s1 ⟨cTABLE_FULL, target⟩
  else if n = 0 then .ok s1 0
  else .ok ((s1.putTable die t es' d.next).startShutter site t b l) n

/-- retire (11 R282), its phase checks passed: the end of the quarantine.  An expired retired entry that overlaps the range goes
whole (11 R276).  s.eval of TABLE_FULL is the owner, and the grantor is s.own in every mode (log 100). -/
def State.retire (s : State) (site : Nat) (base limit : DWord) : Acc Nat :=
  (s.rangeChecks site base limit none).andThen fun s0 _ =>
  let o := (s0.core site).owner
  (s0.claimTable site o 2 base).andThen fun s1 _ =>
  let die := siteDie site
  let b := base.toNat
  let l := limitOf limit
  let es' := (s1.rangeTable die o).flatMap (fun e =>
    if !e.overlaps b l then [e] else if e.expired s1.time then [] else e.outside b l)
  let d := s1.directory die o
  let qend := (s1.time + 1000 * d.quarantine) % 2 ^ 64
  if d.capacity < es'.length + 1 then .trap s1 ⟨cTABLE_FULL, BitVec.ofNat 64 o⟩
  else
    let e : RangeEntry := ⟨o, base, limit, rangeWord o d.next 0 true, BitVec.ofNat 64 qend⟩
    .ok ((s1.putTable die o (insertRange e es') (d.next + 1)).startShutter site o b l) qend

/-- rchk (11 R283), its phase check passed. -/
def State.rchk (s : State) (site : Nat) (addr who : DWord) : Acc DWord :=
  let c := s.core site
  let o := if who = 0 then BitVec.ofNat 64 c.owner else who
  if c.mode = 0 ∧ who ≠ 0 ∧ who ≠ BitVec.ofNat 64 c.owner then .trap s ⟨cPRIVILEGE, 0⟩
  else
    (if o.toNat / 2 ^ 20 ≠ 0 then .ok s false else s.checkOwner site o.toNat c.vdev addr).andThen fun s1 valid =>
    if !valid then .trap s1 ⟨cOWNER_INVALID, o⟩
    else
      (s1.lookupRlb site o.toNat (addr.toNat / 64 * 64) addr).andThen fun s2 found =>
      .ok s2 (match found with
              | none => 0x8000000000000000
              | some e => e.word &&& 0x000FFFFFFFFF013F)

end Sys2Proof.Machine
end

