-- ==== Sys2Proof/Machine/Global.lean ====
section
/-! DEFINITION. Global accesses: the checks of 10 R256 and what each type of memory does (10 R243, R253 to R255, 18 R449
to R455). -/

namespace Sys2Proof.Machine

/-- A signed n-byte value. -/
def signedOf (n v : Nat) : Int := if 2 ^ (8 * n - 1) ≤ v then (v : Int) - 2 ^ (8 * n) else v

/-- op(old, b) of 10 R258 for function codes 0 to 8 on n bytes. -/
def amoFn (fn n old b : Nat) : Nat :=
  match fn with
  | 0 => b
  | 1 => (old + b) % 2 ^ (8 * n)
  | 2 => old &&& b
  | 3 => old ||| b
  | 4 => old ^^^ b
  | 5 => if signedOf n old ≤ signedOf n b then old else b
  | 6 => if signedOf n old ≤ signedOf n b then b else old
  | 7 => if old ≤ b then old else b
  | _ => if old ≤ b then b else old

/-- What an operation writes, given the n bytes it reads (10 R257 to R260): none when it writes nothing. -/
def MemOp.result (op : MemOp) (n old : Nat) : Option Nat :=
  match op with
  | .load => none
  | .store v => some v
  | .amo fn b => some (amoFn fn n old b)
  | .cas b c => if old = b then some c else none
  | .incw b => some (if b ≤ old then 0 else old + 1)
  | .faddb v c => if old + v ≤ c then some (old + v) else none

/-- The operation is an atomic, and one that a PCIe target carries (18 R449). -/
def MemOp.atomic : MemOp → Bool
  | .load => false
  | .store _ => false
  | _ => true
def MemOp.pcie : MemOp → Bool
  | .amo fn _ => fn == 0 || fn == 1
  | .cas _ _ => true
  | _ => false

/-- The rights that a core's operation needs (11 R266). -/
def MemOp.needs : MemOp → List Nat
  | .load => [rR]
  | .store _ => [rW]
  | _ => [rA]

/-- An access: who makes it, under which owner, virtual device and mode, to which bytes. -/
structure Access where
  site : Nat
  mode : Nat
  owner : Nat
  vd : Nat
  va : Nat
  n : Nat
  op : MemOp
  need : List Nat
  engine : Bool
  /-- which engine: 0 or 1 the copy channel, 2 the converter, 3 the matrix unit, 5 the core itself, 6 the device for it -/
  eng : Nat := 5
  /-- only memory of type C serves it (08 R179) -/
  obj : Bool := false
  /-- the types of memory by number, 0 C, 1 W, 2 D, 3 H, 4 F, in which its maker may find what it names (17 R420, R426) -/
  types : List Nat := [0, 1, 2, 3, 4]
  /-- a load that holds every token of its sector (08 R211) -/
  hold : Bool := false
  deriving DecidableEq, Repr

/-- The access of a core's own instruction. -/
def State.coreAccess (s : State) (site va n : Nat) (op : MemOp) : Access :=
  let c := s.core site
  { site := site, mode := c.mode, owner := c.owner, vd := c.vdev, va := va, n := n, op := op, need := op.needs, engine := false }

/-- The window of a type-F address (18 R448). -/
def State.window (s : State) (pa : Nat) : Window := tabGet s.hub.windows (pa / 2 ^ 40) ⟨0, 0, 0, 0⟩
def Window.port (w : Window) : Nat := w.map.toNat / 2 ^ 40 % 32
def Window.dpid (w : Window) : Nat := w.map.toNat / 2 ^ 16 % 2 ^ 12

/-- Where a type-F access goes: the target's identifier and its address, in one number (18 R449). -/
def State.target (s : State) (pa : Nat) : Nat :=
  let w := s.window pa
  w.dpid * 2 ^ 64 + w.base.toNat / 2 ^ 40 * 2 ^ 40 + pa % 2 ^ 40

/-- The window carries the operation (18 R449). -/
def State.carries (s : State) (pa : Nat) (op : MemOp) : Bool :=
  let w := s.window pa
  !op.atomic || w.map.getLsbD 62 || (w.map.getLsbD 61 && op.pcie)

/-- The register blocks of the hub's, an uncore's and a quadrant's window that are accessible in M mode only: offset of
each and the offset past it (20 R472, R473, R471; 12 R307; 14 R361, R362; 16 R389, R406; 17 R413; 18 R440, R448, R452; 19 R456). -/
def hubBlocks : List (Nat × Nat) := [(0xE00, 0x1100), (0x1800, 0x1820), (0x2000, 0x4000), (0x6000, 0x6800)]
def uncoreBlocks : List (Nat × Nat) :=
  [(0, 0x18), (0x800, 0x840), (0xA00, 0xA38), (0xC00, 0xC10), (0xD00, 0xD28), (0x1000, 0x1018), (0x1400, 0x1440)]
def quadBlocks : List (Nat × Nat) := [(0x900, 0x940)]

/-- The lowest mode in which a device register is accessible: M in these blocks; S in the start status, the capability list
and the matrix weights (20 R474, R477, 15 R367); an unlisted offset belongs to no block and checks none (20 R472; log 35). -/
def registerMode (pa : Nat) : Nat :=
  let o := pa % 2 ^ 40
  let w := o / 65536
  let f := o % 65536
  let within (bs : List (Nat × Nat)) : Nat := if bs.any (fun b => decide (b.1 ≤ f) && decide (f < b.2)) then 3 else 0
  if 20 < w then 0
  else if w = 0 then (if f < 8 ∨ (0x4000 ≤ f ∧ f < 0x6000) then 1 else within hubBlocks)
  else if (w - 1) % 5 = 0 then within uncoreBlocks
  else if 0xB00 ≤ f ∧ f < 0xC00 then 1
  else within quadBlocks

/-- The type admits the access (10 R243, R256 step 4; 18 R449, R451; 20 R472). -/
def State.typeAdmits (s : State) (e : TlbEntry) (a : Access) : Bool :=
  let pa := e.pa a.va
  if a.obj && pteType e.pte != 0 || !a.types.contains (pteType e.pte) then false
  else match pteType e.pte with
  | 0 => pteBm e.pte || !s.exposed pa
  | 1 => !a.op.atomic && !s.exposed pa
  | 2 => !a.op.atomic && a.n == 8
  | 3 => true
  | _ => s.carries pa a.op

/-- How the checks of an access end. -/
inductive Reached where
  /-- every check up to step 5 passed -/
  | ok (s : State) (e : TlbEntry)
  | trap (s : State) (e : Exc)
  /-- a refusal of a frame (18 R442) -/
  | moved (s : State)
  | wait (s : State)
  deriving DecidableEq, Repr

/-- Steps 2 to 5 of 10 R256, and the mode of a register block (20 R472). -/
def State.reach (s : State) (a : Access) : Reached :=
  let va := BitVec.ofNat 64 a.va
  if a.va % a.n ≠ 0 then .trap s ⟨cALIGN, va⟩
  else
    match s.translate a.site a.va with
    | (s1, .fault cause) => .trap s1 ⟨cause, va⟩
    | (s1, .moved) => .moved s1
    | (s1, .blocked) => .wait s1
    | (s1, .leaf e) =>
      if !s1.typeAdmits e a then .trap s1 ⟨cBAD_TYPE, va⟩
      else
        match s1.checkRights a.site a.mode a.owner a.vd a.va a.n a.need a.engine with
        | .trap s2 x => .trap s2 x
        | .wait s2 => .wait s2
        | .ok s2 _ =>
          if pteType e.pte = 2 ∧ a.mode < registerMode (e.pa a.va) then .trap s2 ⟨cPRIVILEGE, va⟩ else .ok s2 e

/-- How an access ends. -/
inductive GRes where
  /-- performed: the n bytes that it read -/
  | ok (s : State) (old : Nat)
  /-- a device register, to be performed by its block -/
  | device (s : State) (pa : Nat)
  | trap (s : State) (e : Exc)
  | wait (s : State)
  deriving DecidableEq, Repr

/-- The refusals of one access of a core: by its maker and its address (10 R255). -/
def Core.movesOf (c : Core) (eng va : Nat) : Nat := ((c.moved.find? (fun m => m.1 == eng && m.2.1 == va)).map (fun m => m.2.2)).getD 0
def Core.setMoves (c : Core) (eng va n : Nat) : Core :=
  let rest := c.moved.filter (fun m => !(m.1 == eng && m.2.1 == va))
  { c with moved := if n = 0 then rest else rest ++ [(eng, va, n)] }

/-- A refusal of an access counted (10 R255): the entries of the page are dropped, and the eighth refusal of one access raises
MOVED_RETRY_LIMIT. -/
def State.refused (s : State) (site eng va : Nat) : Acc Nat :=
  let s1 := s.dropPage site va
  let n := (s1.core site).movesOf eng va + 1
  let s2 (k : Nat) : State := s1.onCore site (fun c => (c.count 12 1).setMoves eng va k)
  if 8 ≤ n then .trap (s2 0) ⟨cMOVED_RETRY_LIMIT, BitVec.ofNat 64 va⟩ else .wait (s2 n)

/-- An access that has performed is refused no more. -/
def State.admitted (s : State) (site eng va : Nat) : State :=
  if (s.core site).movesOf eng va = 0 then s else s.onCore site (fun c => c.setMoves eng va 0)

/-- A sequence as the end of an access. -/
def Acc.toGRes (r : Acc Nat) : GRes :=
  match r with
  | .ok s v => .ok s v
  | .trap s e => .trap s e
  | .wait s => .wait s

/-- Who asks for what an access needs (12 R291). -/
def Access.who (a : Access) : Asker := .eng a.site a.eng

/-- An operation on device memory of type C by an agent (10 R253, R258; 12 R285): its tokens collected, then performed
indivisibly. -/
def State.performC (s : State) (a : Access) (key pa : Nat) (agent : Nat) : GRes :=
  let k := pa / 64
  let write := match a.op with
    | .load => false
    | _ => true
  match s.obtain key pa agent (write || a.hold) a.who with
  | .wait s1 => .wait s1
  | .trap s1 e => .trap s1 e
  | .ok s1 _ =>
    if (s1.sector k).poison && (!write || a.op.atomic) then
      .trap (s1.logFor (homeDie pa) a.site ⟨1, 6, cUNCORRECTABLE, BitVec.ofNat 64 pa⟩) ⟨cUNCORRECTABLE, BitVec.ofNat 64 a.va⟩
    else
      let old := s1.readPa key pa a.n
      match a.op.result a.n old with
      | none => .ok s1 old
      | some v => .ok ((s1.writePa key pa a.n v).healed k a.n) old

/-- The pending accesses of a core without that of one maker. -/
def Core.outDone (c : Core) (eng : Nat) : Core := { c with out := c.out.filter (fun o => o.eng != eng) }

/-- An access that a party outside has answered is pending no more. -/
def State.answeredOut (s : State) (a : Access) : State :=
  if (s.core a.site).out.any (fun o => o.eng == a.eng) then s.onCore a.site (fun c => c.outDone a.eng) else s

/-- An access that a party outside has not answered is kept, with the engine that made it (16 R388). -/
def State.unanswered (s : State) (a : Access) (pa : Nat) : State :=
  s.onCore a.site (fun c => { c.outDone a.eng with out := (c.outDone a.eng).out ++ [⟨a.va, pa, a.n, a.op, a.eng⟩] })

/-- The slice holds the line of type H that an operation needs: any copy for a load, the exclusive one for the rest (10 R243,
18 R455). -/
def HostLine.serves (h : HostLine) (slice : Nat) (op : MemOp) : Bool :=
  h.slices.contains slice && (h.excl || op == .load)

/-- The line as a slice holds it once the host has granted it: shared for a load, exclusively for the rest. -/
def HostLine.granted (h : HostLine) (slice : Nat) (op : MemOp) : HostLine :=
  if op = .load then ⟨if h.excl then [slice] else if h.slices.contains slice then h.slices else h.slices ++ [slice], false⟩
  else ⟨[slice], true⟩

/-- A port is trained and not held down; a host-facing one that carries CXL.cache and CXL.mem has trained to 64 GT/s (18 R447). -/
def State.port (s : State) (n : Nat) : Port := tabGet s.ports n ⟨0, false, false, false⟩
def State.portUp (s : State) (n : Nat) : Bool := decide (n < 24) && (s.port n).rate != 0 && !(s.port n).down
def State.hostLink (s : State) : Bool := s.ports.any (fun p => s.portUp p.1 && p.2.host && p.2.rate == 2)

/-- How the host, and the target behind a window, answer now: a party that no port reaches does not answer (18 R447; log 78). -/
def State.hostAnswer (s : State) : Answer := if s.hostLink then s.hostAns else .silent
def State.targetAnswer (s : State) (w : Window) : Answer := if s.portUp w.port then tabGet s.extAns w.dpid .serves else .silent

/-- An operation on host memory (10 R243, 18 R455): served from the slice when it holds the line; the host grants the line
otherwise. -/
def State.performH (s : State) (a : Access) (pa : Nat) : GRes :=
  let slice := agentL1 a.site pa
  let line := pa / 128
  let held := tabGet s.hostLines line ⟨[], false⟩
  let old := memRead s.hostMem pa a.n
  let done (s : State) : GRes :=
    .ok (match a.op.result a.n old with
         | none => s
         | some v => { s with hostMem := memWrite s.hostMem pa a.n v }) old
  if held.serves slice a.op then done (s.answeredOut a)
  else
    match s.hostAnswer with
    | .refuses => .trap (s.answeredOut a) ⟨cHOST_ABORT, BitVec.ofNat 64 a.va⟩
    | .silent => .wait (s.unanswered a pa)
    | .serves =>
      match (s.answeredOut a).makeSlot slice line a.who with
      | none => .wait s
      | some s1 => done { s1 with hostLines := tabSet s1.hostLines line (held.granted slice a.op) }

/-- An access of a window counted in REFUSE or TOUT (18 R448, R450). -/
def State.countWindow (s : State) (pa : Nat) (timeout : Bool) : State :=
  let w := s.window pa
  let sat (x : Nat) : Nat := if x + 1 < 2 ^ 32 then x + 1 else x
  let w' : Window := if timeout then { w with tout := sat w.tout } else { w with refuse := sat w.refuse }
  { s with hub := { s.hub with windows := tabSet s.hub.windows (pa / 2 ^ 40) w' } }

/-- A sector of another device's memory is poisoned, or no more. -/
def State.extSpoil (s : State) (k : Nat) (bad : Bool) : State :=
  { s with extPoison := if bad then (if s.extPoison.contains k then s.extPoison else s.extPoison ++ [k]) else s.extPoison.filter (· != k) }

/-- A frame of another device is marked incoming by a migration of this device, so that requests that reach it wait (18 R441, R444). -/
def State.extIncoming (s : State) (t : Nat) : Bool :=
  s.migs.any (fun m => m.xdev && decide (1 ≤ m.state) && m.state != 4 && m.state != 7 && s.target (65536 * m.new) / 65536 == t / 65536)

/-- An operation on another device's memory (10 R243, 18 R448 to R450). -/
def State.performF (s : State) (a : Access) (pa : Nat) : GRes :=
  let w := s.window pa
  if 23 < w.port then .trap s ⟨cREMOTE_ABORT, BitVec.ofNat 64 a.va⟩
  else
    match s.targetAnswer w with
    | .refuses => .trap ((s.answeredOut a).countWindow pa false) ⟨cREMOTE_ABORT, BitVec.ofNat 64 a.va⟩
    | .silent => .wait (s.unanswered a pa)
    | .serves =>
      let t := s.target pa
      let store := match a.op with
        | .store _ => true
        | _ => false
      if s.extIncoming t then .wait s
      else
        let s := s.answeredOut a
        if s.extPoison.contains (t / 64) && !store then .trap s ⟨cUNCORRECTABLE, BitVec.ofNat 64 a.va⟩
        else
          let old := memRead s.extMem t a.n
          match a.op.result a.n old with
          | none => .ok s old
          | some v => .ok (if a.n = 64 then ({ s with extMem := memWrite s.extMem t a.n v } : State).extSpoil (t / 64) false
                           else { s with extMem := memWrite s.extMem t a.n v }) old

/-- One of the core's posted stores overlaps n bytes, by its virtual address or where it goes now: a page may have moved since it was
posted (10 R254, 18 R442). -/
def Core.postedOverlaps (c : Core) (va pa n : Nat) : Bool :=
  c.posted.any (fun p => (decide (p.pa < pa + n) && decide (pa < p.pa + p.n)) || (decide (p.va < va + n) && decide (va < p.va + p.n)))

/-- A core's operation on type-W memory (10 R243, R254): a load as type C, a store posted; an engine's write is
applied at the home (14 R336). -/
def State.performW (s : State) (a : Access) (key pa : Nat) : GRes :=
  match a.op with
  | .store v =>
    if a.engine then
      match s.applyHome key pa a.n v a.who with
      | .wait s1 => .wait s1
      | .trap s1 e => .trap s1 e
      | .ok s1 _ => .ok s1 0
    else
      let c := s.core a.site
      if 16 ≤ c.posted.length then .wait s
      else .ok (s.putCore a.site { c with posted := c.posted ++ [⟨a.va, pa, a.n, v, key, 1, 0⟩] }) 0
  | _ => s.performC a key pa (agentL1 a.site pa)

/-- Steps 6 and 7 of 10 R256 and the operation, for an access whose earlier checks have passed. -/
def State.perform (s : State) (a : Access) (e : TlbEntry) : GRes :=
  let pa := e.pa a.va
  let key := pteKey e.pte
  let store := match a.op with
    | .store _ => true
    | _ => false
  let home := pteType e.pte == 1 && store
  let agent := if home then agentHome (homeDie pa) else agentL1 a.site pa
  if !a.engine && a.op == .load && (s.core a.site).postedOverlaps a.va pa a.n then .wait s
  else if decide (pteType e.pte < 2) && !(home && !a.engine) && s.turnsAway pa agent a.who then (s.refused a.site a.eng a.va).toGRes
  else
    match pteType e.pte with
    | 0 => s.performC a key pa agent
    | 1 => s.performW a key pa
    | 2 => .device s pa
    | 3 => s.performH a pa
    | _ => s.performF a pa

/-- A global access (10 R256, steps 2 to 7). -/
def State.access (s : State) (a : Access) : GRes :=
  match s.reach a with
  | .trap s1 x => .trap s1 x
  | .moved s1 => (s1.refused a.site a.eng a.va).toGRes
  | .wait s1 => .wait s1
  | .ok s1 e =>
    match s1.perform a e with
    | .ok s2 v => .ok (s2.admitted a.site a.eng a.va) v
    | r => r

end Sys2Proof.Machine
end

