-- ==== Sys2Proof/Machine/Barrier.lean ====
section
/-! DEFINITION. Barrier channels: membership, arrivals, pending bytes, completion and releases (08 R195 to R203). -/

namespace Sys2Proof.Machine

/-- The key of a channel: 32 per die, then the package channels 32 to 39 (08 R195). -/
def chanKey (die ch : Nat) : Nat := if ch < 32 then die * 32 + ch else 96 + ch

/-- The number of a channel, and the die of a die channel, by its key. -/
def chanNumber (k : Nat) : Nat := if k < 128 then k % 32 else k - 96
def chanDie (k : Nat) : Nat := if k < 128 then k / 32 else 0

/-- The channel of a key. -/
def State.chan (s : State) (k : Nat) : Channel := tabGet s.chans k Channel.reset
def State.putChan (s : State) (k : Nat) (c : Channel) : State := { s with chans := tabSet s.chans k c }

/-- A word of a virtual device's descriptor as the scheduler read it (17 R414, R415). -/
def State.descWord (s : State) (vd i : Nat) : Nat := (tabGet s.vds vd VDev.reset).desc.getD i 0

/-- The channel is allotted to the virtual device (08 R195, 17 R414). -/
def State.allotted (s : State) (vd k : Nat) : Bool :=
  if k < 128 then (s.descWord vd (2 + k / 64)).testBit (k % 64) else (s.descWord vd 4).testBit (k - 128)

/-- The gang whose seam channel it is (09 R218). -/
def State.seamGang (s : State) (k : Nat) : Option (Nat × Gang) := s.gangs.find? (fun p => p.2.chan == k)

/-- The phase token of a channel (08 R196). -/
def tokenOf (k phase : Nat) : DWord := BitVec.ofNat 64 (phase % 2 ^ 48 * 2 ^ 16 + chanDie k * 64 + chanNumber k)

/-- A phase lies behind another (08 R196). -/
def behind (q p : Nat) : Bool :=
  let d := (p + 2 ^ 48 - q % 2 ^ 48) % 2 ^ 48
  decide (1 ≤ d) && decide (d ≤ 2 ^ 47)

/-- The phase Pc of a core (08 R202): the channel's, or, while releases are on their way to it, the phase of the first of them. -/
def State.seenPhase (s : State) (k site : Nat) : Nat :=
  ((s.releases.find? (fun r => r.chan == k && !r.reached.contains site)).map (fun r => r.phase)).getD (s.chan k).phase

/-- Every member has arrived for the current phase (08 R199). -/
def Channel.full (c : Channel) : Bool := c.st == .active && c.members.all (fun m => c.arr0.contains m)

/-- The next phase begins (08 R197 to R199). -/
def Channel.advance (c : Channel) : Channel :=
  let members := c.members.filter (fun m => !c.leaves.contains m) ++ c.joins
  { c with
    members := members
    joins := []
    leaves := []
    arr0 := c.arr1
    arr1 := []
    phase := (c.phase + 1) % 2 ^ 48
    cnt0 := c.cnt1
    cnt1 := 0
    st := if members.isEmpty then .idle else .active }

/-- An idle channel becomes active when it has enough members (08 R198). -/
def Channel.form (c : Channel) : Channel :=
  if c.st = .idle ∧ ¬c.members.isEmpty ∧ c.thr ≤ c.members.length then { c with st := .active } else c

/-- Phases complete while they can, or the channel breaks (08 R199, R200); answers the phases completed. -/
def Channel.settle (c : Channel) : Nat → Channel × List Nat
  | 0 => (c, [])
  | n + 1 =>
    if c.full then
      if c.cnt0 = 0 then
        match c.advance.settle n with
        | (c', ps) => (c', c.phase :: ps)
      else if c.cnt0 < 0 then ({ c with st := .broken }, [])
      else (c, [])
    else (c, [])

/-- The releases of completed phases set out (08 R199). -/
def State.addReleases (s : State) (k : Nat) (ps : List Nat) : State :=
  { s with releases := s.releases ++ ps.map (fun p => ⟨k, p, []⟩) }

/-- A channel that is no seam channel settles after a change (08 R199, R200); a phase and its successor may complete
together. -/
def State.settleChan (s : State) (k : Nat) : State :=
  match (s.chan k).settle 3 with
  | (c, ps) => (s.putChan k c).addReleases k ps

/-- Which arrival a core's next arrival is (08 R199). -/
inductive Turn where
  /-- for the current phase -/
  | now
  /-- for the next phase -/
  | next
  /-- it waits until the current phase completes -/
  | wait
  /-- it has none -/
  | none
  deriving DecidableEq, Repr

/-- The cores that a release of a channel reaches (08 R199): those of its die, or of the package. -/
def State.reachSites (s : State) (k : Nat) : List Nat :=
  (if k < 128 then (List.range 1024).map (fun i => k / 32 * 1024 + i) else List.range 4096).filter s.works

/-- A release has reached sites; once it has reached every core it is dropped (08 R199, R202). -/
def State.reachedBy (s : State) (r : Release) (sites : List Nat) : State :=
  let r' : Release := { r with reached := r.reached ++ sites.filter (fun t => !r.reached.contains t) }
  let rs := s.releases.map (fun x => if x = r then r' else x)
  { s with releases := rs.filter (fun x => !(x == r' && (s.reachSites r.chan).all (fun m => r'.reached.contains m))) }

/-- The turn of a site (08 R197, R199). -/
def Channel.turn (c : Channel) (site : Nat) : Turn :=
  if c.members.contains site then
    if !c.arr0.contains site then .now
    else if !c.arr1.contains site then .next
    else .wait
  else if c.joins.contains site then if c.arr1.contains site then .wait else .next
  else .none

/-- A core leaves the channel, or has left it (09 R230). -/
def Channel.left (c : Channel) (site : Nat) : Bool := c.leaves.contains site || !c.members.contains site

/-- An arrival that adds pending bytes, with the phase that it belongs to (08 R199 to R201). -/
def Channel.arrive (c : Channel) (site bytes : Nat) (now : Bool) : Channel :=
  if now then { c with arr0 := c.arr0 ++ [site], cnt0 := c.cnt0 + bytes }
  else { c with arr1 := c.arr1 ++ [site], cnt1 := c.cnt1 + bytes }

/-- The phase of an arrival. -/
def Channel.phaseOf (c : Channel) (now : Bool) : Nat := if now then c.phase else (c.phase + 1) % 2 ^ 48

/-- Adding bytes keeps the counter of the arrival's phase in range (08 R200, R201). -/
def Channel.inRange (c : Channel) (bytes : Nat) (now : Bool) : Bool :=
  decide ((if now then c.cnt0 else c.cnt1) + bytes ≤ 2 ^ 27 - 1)

/-- Bytes landed for a phase are subtracted from its counter, which may go below -2^27 (log 72); a phase behind the current one
breaks the channel (08 R200). -/
def Channel.land (c : Channel) (phase bytes : Nat) : Channel :=
  if phase = c.phase then { c with cnt0 := c.cnt0 - bytes }
  else if phase = (c.phase + 1) % 2 ^ 48 then { c with cnt1 := c.cnt1 - bytes }
  else { c with st := .broken }

/-- The core is bound: a member of a channel, or with a join pending (08 R197). -/
def State.boundChans (s : State) (site : Nat) : List Nat :=
  (s.chans.filter (fun p => p.2.members.contains site || p.2.joins.contains site)).map (fun p => p.1)
def State.bound (s : State) (site : Nat) : Bool := !(s.boundChans site).isEmpty

/-- The checks that every barrier instruction makes on a channel it names (08 R195, 09 R218, R234): the cause.  bpoll may name
a seam channel. -/
def State.chanCheck (s : State) (site k : Nat) (poll : Bool) : Option Exc :=
  let c := s.core site
  let e := BitVec.ofNat 64 (chanNumber k)
  if c.guarded && !((s.seamGang k).any (fun g => g.2.cores.contains site)) then some ⟨cRB_REFUSED, e⟩
  else if !s.allotted c.vdev k || (decide (k < 128) && k / 32 != siteDie site) || (!poll && (s.seamGang k).isSome) then
    some ⟨cBARRIER_MEMBERSHIP, e⟩
  else none

/-- join (08 R197, R198), its channel checked: the channel and the phase of its token; a broken one as an active one (log 71). -/
def Channel.join (c : Channel) (site : Nat) : Option (Channel × Nat) :=
  if c.members.contains site ∨ c.joins.contains site then none
  else if c.st = .idle then some ({ c with members := c.members ++ [site] }.form, c.phase)
  else some ({ c with joins := c.joins ++ [site] }, (c.phase + 1) % 2 ^ 48)

/-- leave (08 R197), its channel checked: a leave that is already pending stays so.  A broken channel is treated as an active
one here and in join (log 71).  The cancelling of a join takes its arrival in P + 1 back (log 97). -/
def Channel.leave (c : Channel) (site : Nat) : Option (Channel × Nat) :=
  if c.joins.contains site then
    some ({ c with joins := c.joins.filter (· != site), arr1 := c.arr1.filter (· != site) }, (c.phase + 1) % 2 ^ 48)
  else if !c.members.contains site then none
  else if c.st = .idle then some ({ c with members := c.members.filter (· != site) }, c.phase)
  else
    some ({ c with leaves := if c.leaves.contains site then c.leaves else c.leaves ++ [site], arr0 := if c.arr0.contains site then c.arr0 else c.arr0 ++ [site] },
      (c.phase + 1) % 2 ^ 48)

/-- btx on a broken channel (08 R203). -/
def Channel.mend (c : Channel) : Channel :=
  { Channel.reset with phase := (c.phase + 1) % 2 ^ 48, thr := c.thr }

/-- The cores that wait in place on a channel take BARRIER_BROKEN (08 R200, R203). -/
def State.breakWaits (s : State) (k : Nat) : List Nat → State
  | [] => s
  | site :: t =>
    let c := s.core site
    let hit := match c.wait with
      | .barrier k' _ => k' == k
      | .arrive k' => k' == k
      | .seam _ k' _ => k' == k
      | .final k' _ => k' == k
      | _ => false
    (if hit then s.trapAt site c ⟨cBARRIER_BROKEN, BitVec.ofNat 64 (chanNumber k)⟩ else s).breakWaits k t

/-- The sites of the cores that the state lists. -/
def State.sites (s : State) : List Nat := s.cores.map (fun p => p.1)

/-- btx (08 R203), its checks made: the old threshold.  The releases of phases that have completed still reach every core (08 R199). -/
def State.btx (s : State) (k v : Nat) : State × Nat :=
  let c := s.chan k
  if c.st = .broken then
    let s1 := s.breakWaits k s.sites
    (s1.putChan k { c.mend with thr := v }, c.thr)
  else (s.putChan k ({ c with thr := v } : Channel).form, c.thr)

/-- The check of a token that wait and bpoll make (08 R202): the channel's key, or the cause. -/
def State.tokenCheck (s : State) (site : Nat) (tok : DWord) (poll : Bool) : Except Exc (Nat × Nat) :=
  let n := tok.toNat
  let ch := n % 64
  let die := n / 64 % 4
  let phase := n / 2 ^ 16
  let k := chanKey die ch
  if n / 2 ^ 8 % 2 ^ 8 ≠ 0 ∨ 39 < ch then .error ⟨cBARRIER_VALUE, tok⟩
  else
    let p := (s.chan k).phase
    if !behind phase p && phase != p && phase != (p + 1) % 2 ^ 48 then .error ⟨cBARRIER_VALUE, tok⟩
    else
      match s.chanCheck site k poll with
      | some e => .error e
      | none => if (s.chan k).st = .broken then .error ⟨cBARRIER_BROKEN, BitVec.ofNat 64 ch⟩ else .ok (k, phase)

end Sys2Proof.Machine
end

