-- ==== Sys2Proof/Machine/Objects.lean ====
section
/-! DEFINITION. The objects of threads in global memory: accesses in sequence, thread records and handles, continuation
queues, spawning, waking, signals (08 R179 to R194, R214 to R216; 17 R414, R435). -/

namespace Sys2Proof.Machine

/-- The thread of a core as an agent. -/
def State.agent (s : State) (site : Nat) : Agent :=
  let c := s.core site
  { site := site, mode := c.mode, owner := c.owner, vd := c.vdev, tvec := c.sp.tvec, tag := c.tag }

/-- The device itself, which needs no right, at a site, for a virtual device (08 R190). -/
def Agent.device (site vd : Nat) : Agent :=
  { site := site, mode := 3, owner := 0, vd := vd, tvec := 0, tag := none, slot := true }

/-- A virtual device's context area, and the address of a site slot in it (17 R414, R431). -/
def State.contextArea (s : State) (vd : Nat) : Nat := s.descWord vd 1
def State.siteRecord (s : State) (vd site : Nat) : Nat := s.contextArea vd + 393216 * site

/-- The n bytes lie in the thread record, continuation record or frame of a site slot (17 R431; log 28). -/
def State.inSlot (s : State) (vd a n : Nat) : Bool :=
  let b := s.contextArea vd
  b != 0 && decide (b ≤ a) && decide (a + n ≤ b + 393216 * 4096) && decide (349696 ≤ (a - b) % 393216)

/-- An access as a sequence. -/
def State.acc (s : State) (a : Access) : Acc Nat :=
  match s.access a with
  | .ok s' v => .ok s' v
  | .trap s' e => .trap s' e
  | .wait s' => .wait s'
  | .device s' _ => .trap s' ⟨cBAD_TYPE, BitVec.ofNat 64 a.va⟩

/-- An access of an agent to an object in memory of type C (08 R179). -/
def Agent.access (g : Agent) (va n : Nat) (op : MemOp) (need : List Nat) : Access :=
  { site := g.site, mode := g.mode, owner := g.owner, vd := g.vd, va := va % 2 ^ 64, n := n, op := op, need := need,
    engine := false, eng := g.eng, obj := true }

/-- A load by physical address in a site slot: the errors of the home's copy are met, and a poisoned sector delivers no data (12 R308,
16 R403). -/
def State.slotLoad (s : State) (site pa n : Nat) : Acc Nat :=
  match s.meetHbm (pa / 64) with
  | (s1, true) => .wait s1
  | (s1, false) =>
    if (s1.sector (pa / 64)).poison then
      .trap (s1.logFor (homeDie pa) site ⟨1, 6, cUNCORRECTABLE, BitVec.ofNat 64 pa⟩) ⟨cUNCORRECTABLE, BitVec.ofNat 64 pa⟩
    else .ok s1 (s1.readOwn pa n)

/-- An access of an agent to an object, by physical address in a site slot: a load of the device, or a store. -/
def State.objDo (s : State) (g : Agent) (va n : Nat) (op : MemOp) (need : List Nat) (hold : Bool) : Acc Nat :=
  if g.slot && s.inSlot g.vd va n then
    if !s.backed va n then .trap s ⟨cNOT_PRESENT, BitVec.ofNat 64 va⟩
    else
      match op with
      | .store v => .ok (s.writeOwn va n v) 0
      | _ => s.slotLoad g.site va n
  else s.acc { g.access va n op need with hold := hold }

/-- A load, a load that holds every token, and a store of n bytes of an object. -/
def State.objLoad (s : State) (g : Agent) (va n : Nat) : Acc Nat := s.objDo g va n .load [rR] false
def State.objHold (s : State) (g : Agent) (va n : Nat) : Acc Nat := s.objDo g va n .load [rR] true
def State.objStore (s : State) (g : Agent) (va n v : Nat) : Acc Nat := s.objDo g va n (.store v) [rW] false

/-- Stores of 8 bytes from an address up. -/
def State.objStores (s : State) (g : Agent) (va : Nat) : List Nat → Acc Nat
  | [] => .ok s 0
  | v :: t => (s.objStore g va 8 v).andThen fun s1 _ => s1.objStores g (va + 8) t

/-- The checks of an access without its effect. -/
def State.objCheck (s : State) (a : Access) : Acc Nat :=
  match s.reach a with
  | .ok s' _ => .ok s' 0
  | .trap s' e => .trap s' e
  | .moved s' => s'.refused a.site a.eng a.va
  | .wait s' => .wait s'

/-- An object must be aligned to its size (08 R179). -/
def State.aligned (s : State) (va n : Nat) : Acc Nat :=
  if va % n = 0 then .ok s 0 else .trap s ⟨cALIGN, BitVec.ofNat 64 va⟩

/-- Fields of a handle (08 R185). -/
def handleRec (h : Nat) : Nat := h % 2 ^ 48 * 16
def handleGen (h : Nat) : Nat := h / 2 ^ 48

/-- Fields of a thread record's first word (08 R184). -/
def recState (w : Nat) : Nat := w / 2 ^ 16 % 4
def recGen (w : Nat) : Nat := w % 2 ^ 16
def recLix (w : Nat) : Nat := w / 2 ^ 56
def recOwner (w : Nat) : Nat := w / 2 ^ 20 % 2 ^ 20
def recTvec (w : Nat) : DWord := BitVec.ofNat 64 (w / 2 ^ 40 % 2 ^ 16 * 4)

/-- A record's first word with another state. -/
def recWith (w state : Nat) : Nat := w / 2 ^ 18 * 2 ^ 18 + state * 2 ^ 16 + w % 2 ^ 16

/-- Whether a handle is live or dead, by the first word of its record (08 R185). -/
def handleLive (h w : Nat) : Bool := recGen w == handleGen h && recState w != 0
def handleDead (h w : Nat) : Bool :=
  let d := (recGen w + 2 ^ 16 - handleGen h) % 2 ^ 16
  (d == 0 && recState w == 0) || (decide (1 ≤ d) && decide (d ≤ 32767))

/-- Fields of a continuation record's first word (08 R182). -/
def contHk (w : Nat) : Nat := w / 2 ^ 62
def contHix (w : Nat) : Nat := w / 2 ^ 48 % 2 ^ 14
def contPri (w : Nat) : Nat := w / 2 ^ 44 % 2 ^ 4
def contSm (w : Nat) : Bool := w.testBit 42
def contVec (w : Nat) : Bool := w.testBit 41
def contWb (w : Nat) : Bool := w.testBit 40
def contW (w : Nat) : Nat := w / 2 ^ 32 % 2 ^ 8
def contCode (w : Nat) : Nat := w % 2 ^ 18

/-- u of 08 R187: the 64-byte units of workspace that go with the thread; and the units that dispatch lays out. -/
def contUnits (w : Nat) : Nat := if contVec w then max (contW w) 41 else contW w
def contSpan (w : Nat) : Nat := max (contW w) 41

/-- The working core with a package logical number (00 R5). -/
def State.siteOf? (s : State) (n : Nat) : Option Nat := (List.range 4096).find? (fun t => s.works t && s.logical t == n)

/-- The continuation record is valid (08 R183), SM judged against a mode. -/
def State.contValid (s : State) (mode w frame : Nat) : Bool :=
  decide (8 ≤ contW w) && (!contVec w || decide (41 ≤ contW w)) && decide (contPri w ≤ 3) && !w.testBit 43
    && w / 2 ^ 18 % 2 ^ 14 == 0 && contCode w % 4 == 0 && (!contSm w || decide (1 ≤ mode))
    && (match contHk w with
        | 0 => true
        | 1 => decide (contHix w ≤ 3)
        | 2 => decide (contHix w ≤ 511)
        | _ => (s.siteOf? (contHix w)).isSome)
    && frame % 64 == 0

/-- The placement hint admits a core (08 R182, R186). -/
def State.hintAdmits (s : State) (w site : Nat) : Bool :=
  match contHk w with
  | 0 => true
  | 1 => siteDie site == contHix w
  | 2 => sitePkgCluster site == contHix w
  | _ => s.logical site == contHix w

/-- The address of a virtual device's descriptor (17 R414). -/
def State.descAddr (s : State) (vd : Nat) : Nat := s.hub.vdt.toNat / 2 ^ 9 % 2 ^ 39 * 512 + 512 * vd

/-- A continuation queue: its ring, its log2, and the address of its head and tail words (17 R414). -/
def State.qRing (s : State) (vd cls : Nat) : Nat := s.descWord vd (8 + 2 * cls) / 64 % 2 ^ 42 * 64
def State.qLog (s : State) (vd cls : Nat) : Nat := s.descWord vd (8 + 2 * cls) % 32
def State.qWord (s : State) (vd cls : Nat) : Nat := s.descAddr vd + 72 + 16 * cls
def State.qHead (s : State) (vd cls : Nat) : Nat := s.readOwn (s.qWord vd cls) 4
def State.qTail (s : State) (vd cls : Nat) : Nat := s.readOwn (s.qWord vd cls + 4) 4

/-- A queue exists when its log2 is 4 to 20 (17 R414; log 16). -/
def State.qExists (s : State) (vd cls : Nat) : Bool := decide (4 ≤ s.qLog vd cls) && decide (s.qLog vd cls ≤ 20)

/-- The number of entries of a queue (17 R414). -/
def State.qCount (s : State) (vd cls : Nat) : Nat := (s.qTail vd cls + 2 ^ 32 - s.qHead vd cls) % 2 ^ 32

/-- The address of entry i of a queue, counted from its head. -/
def State.qSlot (s : State) (vd cls i : Nat) : Nat := s.qRing vd cls + 8 * ((s.qHead vd cls + i) % 2 ^ s.qLog vd cls)

/-- The queue serves: it exists, and its words and entries, with the place of the next, deliver data (log 95). -/
def State.qServes (s : State) (vd cls : Nat) : Bool :=
  s.qExists vd cls && s.sound (s.qWord vd cls / 64)
    && (List.range (min (s.qCount vd cls) (2 ^ s.qLog vd cls - 1) + 1)).all (fun i => s.sound (s.qSlot vd cls i / 64))

/-- No handle can join the queue (17 R414). -/
def State.qFull (s : State) (vd cls : Nat) : Bool := !s.qServes vd cls || s.qCount vd cls == 2 ^ s.qLog vd cls

/-- A handle appended to a queue that is not full (08 R186). -/
def State.qPush (s : State) (vd cls h : Nat) : State :=
  let t := s.qTail vd cls
  (s.writeOwn (s.qRing vd cls + 8 * (t % 2 ^ s.qLog vd cls)) 8 h).writeOwn (s.qWord vd cls + 4) 4 ((t + 1) % 2 ^ 32)

/-- The handles of a queue, first to last. -/
def State.qEntries (s : State) (vd cls : Nat) : List Nat :=
  (List.range (if s.qServes vd cls then s.qCount vd cls else 0)).map (fun i => s.readOwn (s.qSlot vd cls i) 8)

/-- Entry i taken out of a queue; the entries before it keep their order (08 R186; log 16). -/
def State.qTake (s : State) (vd cls : Nat) : Nat → State
  | 0 => s.writeOwn (s.qWord vd cls) 4 ((s.qHead vd cls + 1) % 2 ^ 32)
  | i + 1 => (s.writeOwn (s.qSlot vd cls (i + 1)) 8 (s.readOwn (s.qSlot vd cls i) 8)).qTake vd cls i

/-- One live thread more or less of an image tag (17 R435). -/
def State.tagAdd (s : State) (vd tag : Nat) (up : Bool) : State :=
  let v := tabGet s.vds vd VDev.reset
  match tabGet? v.tags tag with
  | none => s
  | some (l, n) => { s with vds := tabSet s.vds vd { v with tags := tabSet v.tags tag (l, if up then n + 1 else n - 1) } }

/-- The image tag that a spawn writes (17 R435; log 15). -/
def Agent.lix (g : Agent) : Nat := g.tag.getD 0

/-- spawn of 08 R191 for an agent, its superstep checks made: the handle, or 0 when the queue is full.  The checks of every
access precede the first write. -/
def State.spawnAs (s : State) (g : Agent) (ca ta : Nat) : Acc Nat :=
  if 2 ^ 52 ≤ ta then .trap s ⟨cTHREAD_RECORD, BitVec.ofNat 64 ta⟩
  else
    (s.objLoad g ca 32).andThen fun s1 c =>
    if !s1.contValid g.mode (c % 2 ^ 64) (c / 2 ^ 64 % 2 ^ 64) then .trap s1 ⟨cTHREAD_RECORD, BitVec.ofNat 64 ca⟩
    else
      (s1.aligned ta 64).andThen fun s2 _ =>
      (s2.objHold g ta 8).andThen fun s3 w =>
      if recState w ≠ 0 then .trap s3 ⟨cTHREAD_RECORD, BitVec.ofNat 64 ta⟩
      else if s3.qFull g.vd (contPri (c % 2 ^ 64)) then .ok s3 0
      else
        let gen := (recGen w + 1) % 2 ^ 16
        let h := gen * 2 ^ 48 + ta / 16
        (s3.objStores g (ta + 8) [c % 2 ^ 64, c / 2 ^ 64 % 2 ^ 64, c / 2 ^ 128 % 2 ^ 64, c / 2 ^ 192, 0, 0, 0]).andThen
          fun s4 _ =>
          (s4.objStore g ta 8 (g.lix * 2 ^ 56 + g.tvec.toNat / 4 % 2 ^ 16 * 2 ^ 40 + g.owner * 2 ^ 20 + 2 ^ 16 + gen)).andThen
            fun s5 _ => .ok ((s5.qPush g.vd (contPri (c % 2 ^ 64)) h).tagAdd g.vd g.lix true) h

/-- The waiter of a handle. -/
def State.waiterOf (s : State) (h : Nat) : Option Waiter := s.waiters.find? (fun w => w.handle == h)

/-- A waiter taken off the device's list, but for one that is marked, whose mark stays (08 R213). -/
def State.unwait (s : State) (h : Nat) : State := { s with waiters := s.waiters.filter (fun w => w.handle != h || w.marked) }

/-- A wait in place on an object ends: the core tries its instruction again (08 R181). -/
def State.endWait (s : State) (site obj : Nat) : State :=
  if (s.core site).wait = .object obj then s.onCore site (fun c => { c with wait := .none }) else s

/-- The wake of a waiter is held back, and is repeated at each later change of its object (08 R212). -/
def State.holdBack (s : State) (h : Nat) : State :=
  { s with waiters := s.waiters.map (fun w => if w.handle = h then { w with heldBack := true } else w) }

/-- The thread of a handle woken (08 R212): a wait in place ends; a suspended thread joins its queue.  False: the queue is
full or its record could not be reached, and the thread stays blocked. -/
def State.wake (s : State) (site vd h : Nat) : Acc Bool :=
  let w := s.waiterOf h
  match w.bind (fun w => w.site.map (fun t => (t, w.object))) with
  | some (t, obj) => .ok ((s.endWait t obj).unwait h) true
  | none =>
    let a := handleRec h
    let vd := (w.map (fun w => w.vd)).getD vd
    let g := Agent.device site vd
    let held (s' : State) (cause : Nat) : Acc Bool :=
      .ok ((s'.holdBack h).logFor (siteDie site) site ⟨0, 12, cause, BitVec.ofNat 64 a⟩) false
    match s.objHold g a 16 with
    | .wait s1 => .wait s1
    | .trap s1 e => held s1 e.cause
    | .ok s1 v =>
      let r := v % 2 ^ 64
      let cls := contPri (v / 2 ^ 64) % 4
      if !handleLive h r || recState r != 3 then .ok (s1.unwait h) true
      else if s1.qFull vd cls then held s1 cTHREAD_RECORD
      else
        match s1.objStore g a 8 (recWith r 1) with
        | .ok s2 _ => .ok ((s2.qPush vd cls h).unwait h) true
        | .trap s2 e => held s2 e.cause
        | .wait s2 => .wait s2

/-- Every thread in sigwait on an object woken (08 R215, R216). -/
def State.wakeAll (s : State) (site vd : Nat) : List Nat → Acc Bool
  | [] => .ok s true
  | h :: t => (s.wake site vd h).andThen fun s1 _ => s1.wakeAll site vd t

/-- The handles that wait on an object with a kind; and those of them whose wake is held back (08 R212). -/
def State.waitersOn (s : State) (obj kind : Nat) : List Nat :=
  (s.waiters.filter (fun w => w.object == obj && w.kind == kind)).map (fun w => w.handle)
def State.heldBackOn (s : State) (obj kind : Nat) : List Nat :=
  (s.waiters.filter (fun w => w.object == obj && w.kind == kind && w.heldBack)).map (fun w => w.handle)

/-- The on-zero spawn of a signal (08 R215): the value of LOST, bit 2. -/
def State.onZero (s : State) (g : Agent) (va : Nat) : Acc Nat :=
  let lost (s' : State) (e : Option Exc) : Acc Nat :=
    match e with
    | none => .ok s' 4
    | some e => .ok (s'.logFor (siteDie g.site) g.site ⟨1, 12, e.cause, e.eval⟩) 4
  match s.objLoad g (va + 24) 8 with
  | .wait s1 => .wait s1
  | .trap s1 e => lost s1 (some e)
  | .ok s1 ta =>
    match s1.spawnAs g (va + 32) ta with
    | .wait s2 => .wait s2
    | .trap s2 e => lost s2 (if e.cause = cTHREAD_RECORD then none else some e)
    | .ok s2 h => if h = 0 then lost s2 none else .ok s2 0

/-- The records of threads about to be woken held, so that no later step of the operation waits. -/
def State.holdRecords (s : State) (site vd : Nat) : List Nat → Acc Nat
  | [] => .ok s 0
  | h :: t =>
    if ((s.waiterOf h).bind (fun w => w.site)).isSome then s.holdRecords site vd t
    else
      match s.objHold (Agent.device site vd) (handleRec h) 16 with
      | .wait s1 => .wait s1
      | .trap s1 _ => s1.holdRecords site vd t
      | .ok s1 _ => s1.holdRecords site vd t

/-- The decrement of a signal by an agent (08 R215), the whole of it indivisible: the new counter.  Every sector that it
writes is held before the first write. -/
def State.sigdec (s : State) (g : Agent) (va : Nat) (amount : DWord) : Acc DWord :=
  (s.aligned va 64).andThen fun s1 _ =>
  (s1.acc { g.access va 8 .load [rA] with hold := true }).andThen fun s2 old =>
  (s2.acc (g.access (va + 8) 8 .load [rA])).andThen fun s3 flags =>
  let new := BitVec.ofNat 64 old - amount
  let fires := old % 2 ^ 64 != 0 && new == 0
  let wakes := if new.toInt ≤ 0 then s3.waitersOn va 3 else s3.heldBackOn va 3
  (s3.holdRecords g.site g.vd wakes).andThen fun s4 _ =>
  (if fires && flags.testBit 0 then s4.onZero g va else .ok s4 0).andThen fun s5 lost =>
  (s5.acc (g.access va 8 (.store new.toNat) [rA])).andThen fun s6 _ =>
  (if fires then s6.acc (g.access (va + 8) 8 (.store (flags ||| 2 ||| lost)) [rA]) else .ok s6 0).andThen fun s7 _ =>
  (s7.wakeAll g.site g.vd wakes).andThen fun s8 _ => .ok s8 new

/-- A sequence that ends an instruction of a core. -/
def Acc.finish {α : Type} (r : Acc α) (f : State → α → SRes) : SRes :=
  match r with
  | .ok s a => f s a
  | .trap s e => .trap s e
  | .wait s => .wait s .stall

/-- The result of an instruction written to a register of its core. -/
def State.result (s : State) (site : Nat) (d : GOp) (x : DWord) : State := s.onCore site (fun c => c.wg .D d x 1)

end Sys2Proof.Machine
end

