-- ==== Sys2Proof/Machine/Nests.lean ====
section
/-! DEFINITION. Nest blocks, footprint blocks and converter descriptors as data (14 R335, R336, R345 to R351). -/

namespace Sys2Proof.Machine

/-- A list of 64-bit words as one number, the first word lowest. -/
def wordsNum : List Nat → Nat
  | [] => 0
  | w :: t => w + 2 ^ 64 * wordsNum t

/-- A field of n bytes at a byte offset of a block, unsigned and signed. -/
def blkField (b off n : Nat) : Nat := b / 256 ^ off % 256 ^ n
def blkSigned (b off n : Nat) : Int := signedOf n (blkField b off n)

/-- The fields of a nest block (14 R335). -/
def nestCounts (b : Nat) : List Nat := (List.range 5).map (fun j => blkField b (2 * j) 2)
def nestFlags (b : Nat) : Nat := blkField b 10 2
def nestSrc (b : Nat) : List Int := (List.range 5).map (fun j => blkSigned b (12 + 4 * j) 4)
def nestDst (b : Nat) : List Int := (List.range 5).map (fun j => blkSigned b (32 + 4 * j) 4)
def nestElem (b : Nat) : Nat := 2 ^ (blkField b 52 1 % 8)
def nestBt (b : Nat) : Nat := blkField b 53 1 % 64
def nestSigVa (b : Nat) : Nat := blkField b 56 8
def nestSig (b : Nat) : Bool := (nestFlags b).testBit 0
def nestBar (b : Nat) : Bool := (nestFlags b).testBit 1
def nestSeam (b : Nat) : Bool := (nestFlags b).testBit 2
def nestCode (b : Nat) : Bool := (nestFlags b).testBit 3

/-- The number of elements. -/
def nestTotal (b : Nat) : Nat := (nestCounts b).foldl (· * ·) 1

/-- The indices of element k, dimension 0 first (14 R336). -/
def nestIndex : List Nat → Nat → List Nat
  | [], _ => []
  | n :: t, k => k % n :: nestIndex t (k / n)

/-- The linear index of an iteration vector (14 R336). -/
def nestLinear : List Nat → List Nat → Nat
  | n :: ns, i :: is => i + n * nestLinear ns is
  | _, _ => 0

/-- The offset of an element: the sum of index times stride. -/
def nestOffset : List Nat → List Int → Int
  | i :: is, d :: ds => (i : Int) * d + nestOffset is ds
  | _, _ => 0

/-- The lowest and the highest offset of a nest with no count of 0 (14 R338). -/
def nestLow : List Nat → List Int → Int
  | n :: ns, d :: ds => (if d < 0 then ((n : Int) - 1) * d else 0) + nestLow ns ds
  | _, _ => 0
def nestHigh : List Nat → List Int → Int
  | n :: ns, d :: ds => (if d < 0 then 0 else ((n : Int) - 1) * d) + nestHigh ns ds
  | _, _ => 0

/-- Two spans of bytes intersect. -/
def spansMeet (a la b lb : Int) : Bool := decide (a < b + lb) && decide (b < a + la)

/-- The spanned byte ranges of source and destination intersect (14 R338 row 6). -/
def nestSelfMeets (b : Nat) (dst src : Int) : Bool :=
  let ns := nestCounts b
  let e : Int := nestElem b
  nestTotal b != 0
    && spansMeet (src + nestLow ns (nestSrc b)) (nestHigh ns (nestSrc b) - nestLow ns (nestSrc b) + e)
        (dst + nestLow ns (nestDst b)) (nestHigh ns (nestDst b) - nestLow ns (nestDst b) + e)

/-- The nest block is valid (14 R335) in a gang or not, for a copy.gl or not; the channel of BAR is judged apart. -/
def nestValid (b : Nat) (gang gl : Bool) : Bool :=
  nestFlags b / 16 == 0 && blkField b 52 1 / 8 == 0 && decide (blkField b 52 1 % 8 ≤ 6) && blkField b 53 1 / 64 == 0
    && blkField b 54 2 == 0 && decide (nestTotal b < 2 ^ 40) && !(nestBar b && nestSeam b) && (!nestSeam b || gang)
    && (!nestBar b || decide (nestBt b < 40)) && (!nestCode b || gl)

/-- A region of a footprint block (14 R345). -/
structure Foot where
  base : Nat
  len : Nat
  loc : Bool
  write : Bool
  deriving DecidableEq, Repr

/-- The used regions of a footprint block. -/
def footRegions : List Nat → List Foot
  | b :: w :: t =>
    let n := w % 2 ^ 40
    (if n = 0 then [] else [⟨b, n, w.testBit 62, w.testBit 63⟩]) ++ footRegions t
  | _ => []

/-- The reserved bits of a footprint block are zero. -/
def footReserved : List Nat → Bool
  | _ :: w :: t => w / 2 ^ 40 % 2 ^ 22 == 0 && footReserved t
  | _ => true

/-- The footprint block is valid (14 R346). -/
def footValid (ws : List Nat) : Bool :=
  let rs := footRegions ws
  footReserved ws && !rs.isEmpty
    && rs.all (fun r => if r.loc then decide (r.base + r.len ≤ localSize) else decide (r.base + r.len ≤ 2 ^ 64))

/-- Every byte of an element lies in a used region of its space, in a write region when it is written (14 R347). -/
def footCovers (ws : List Nat) (loc write : Bool) (a : Int) (n : Nat) : Bool :=
  ws.isEmpty || (List.range n).all (fun i => (footRegions ws).any (fun r =>
    r.loc == loc && (!write || r.write) && decide ((r.base : Int) ≤ a + i) && decide (a + i < r.base + r.len)))

/-- Two regions overlap in one space. -/
def Foot.meets (x y : Foot) : Bool := x.loc == y.loc && decide (x.base < y.base + y.len) && decide (y.base < x.base + x.len)

/-- Two footprint blocks make an edge (14 R348). -/
def footEdge (xs ys : List Nat) : Bool :=
  (footRegions xs).any (fun x => (footRegions ys).any (fun y => x.meets y && (x.write || y.write)))

/-- The fields of a converter descriptor, its two words as one number (14 R350). -/
def descN (d : Nat) : Nat := d % 2 ^ 16
def descM (d : Nat) : Nat := d / 2 ^ 16 % 2 ^ 16
def descSp (d : Nat) : Nat := d / 2 ^ 32 % 2 ^ 32
def descDp (d : Nat) : Nat := d / 2 ^ 64 % 2 ^ 32
def descQ4 (d : Nat) : Bool := d.testBit 97
def descQ4t (d : Nat) : Nat := d / 2 ^ 98 % 4
def descTr (d : Nat) : Bool := d.testBit 100

/-- The width of an element in bits: 4 when block-scaled by Q4, else the type's (04 R88, R111, R112). -/
def elemWidth (q4 : Bool) (t : Nat) : Nat := if q4 then 4 else tyWidth (BitVec.ofNat 4 t)

/-- The bytes of the scales of a row record, padded to 16 (14 R351). -/
def scaleBytes (n : Nat) : Nat := (n / 32 + 15) / 16 * 16

/-- The bytes of a row of n elements: plain, or a row record (14 R351). -/
def rowBytes (record : Bool) (n w : Nat) : Nat := (if record then scaleBytes n else 0) + (n * w + 7) / 8

/-- The shape of a converter command: rows, elements per row, and whether a side is block-scaled: source, then
destination (14 R349). -/
def convSrcRecord (sub : Nat) : Bool := sub == 2 || sub == 3
def convDstRecord (sub : Nat) : Bool := sub == 1 || sub == 3
def convTransposed (sub d : Nat) : Bool := sub == 3 || (sub == 1 && descTr d)
def convRows (sub d : Nat) : Nat := if convTransposed sub d then descN d else descM d
def convCols (sub d : Nat) : Nat := if convTransposed sub d then descM d else descN d
def convTotal (d : Nat) : Nat := descM d * descN d

/-- The widths of source and destination elements. -/
def convSrcWidth (sub d t2 : Nat) : Nat := elemWidth (descQ4 d && convSrcRecord sub) t2
def convDstWidth (sub d t1 : Nat) : Nat := elemWidth (descQ4 d && convDstRecord sub) t1

/-- The descriptor is valid (14 R350) for a family member and its types; so is none that breaks the stated range or use of a field
(log 103). -/
def descValid (sub t1 t2 d : Nat) : Bool :=
  let n := descN d
  let m := descM d
  let q4 := descQ4 d
  let six (w len : Nat) : Bool := w != 6 || len % 4 == 0
  d / 2 ^ 101 == 0 && !d.testBit 96 && n != 0 && m != 0 && (!descTr d || sub == 1)
    && (match sub with
        | 0 => !q4
        | 1 => q4 == (t1 == 0)
        | 2 => q4 == (t2 == 0)
        | _ => q4 == (t1 == 0))
    && (!convSrcRecord sub || n % 32 == 0) && (!convDstRecord sub || convCols sub d % 32 == 0)
    && (sub != 3 || m % 32 == 0)
    && six (convSrcWidth sub d t2) n && six (convDstWidth sub d t1) (convCols sub d)
    && decide (rowBytes (convSrcRecord sub) n (convSrcWidth sub d t2) ≤ descSp d)
    && decide (rowBytes (convDstRecord sub) (convCols sub d) (convDstWidth sub d t1) ≤ descDp d)

end Sys2Proof.Machine
end

