-- ==== Sys2Proof/Machine/Engines.lean ====
section
/-! DEFINITION. What the engines of a core share: their queues, footprint edges, leave, faults and completion (14 R332 to
R348, R360, R361), and the landing of tagged bytes (08 R200, 14 R342). -/

namespace Sys2Proof.Machine

/-- Engine 0 or 1, a copy channel, or 2, the converter. -/
def Core.eng (c : Core) (e : Nat) : Engine :=
  match e with
  | 0 => c.eng0
  | 1 => c.eng1
  | _ => c.conv
def Core.setEng (c : Core) (e : Nat) (x : Engine) : Core :=
  match e with
  | 0 => { c with eng0 := x }
  | 1 => { c with eng1 := x }
  | _ => { c with conv := x }

/-- The head of an engine's queue changed. -/
def Engine.onHead (x : Engine) (f : Cmd → Cmd) : Engine :=
  match x.queue with
  | [] => x
  | h :: t => { x with queue := f h :: t }

/-- The commands of a core that are not complete and carry footprints: number and block (14 R348). -/
def Core.kept (c : Core) : List (Nat × List Nat) :=
  (((c.eng0.queue ++ c.eng1.queue ++ c.conv.queue).map (fun x => (x.id, x.foot))) ++ c.mx.cmds.map (fun x => (x.id, x.foot))).filter
    (fun p => !p.2.isEmpty)

/-- The numbers of the commands that are not complete. -/
def Core.pendingIds (c : Core) : List Nat :=
  (c.eng0.queue ++ c.eng1.queue ++ c.conv.queue).map (fun x => x.id) ++ c.mx.cmds.map (fun x => x.id)

/-- The edges of a new command (14 R348). -/
def Core.edgesOf (c : Core) (foot : List Nat) : List Nat :=
  if foot.isEmpty then [] else (c.kept.filter (fun p => footEdge p.2 foot)).map (fun p => p.1)

/-- Every command at the end of an edge has completed or been discarded. -/
def Core.edgesMet (c : Core) (es : List Nat) : Bool := es.all (fun i => !c.pendingIds.contains i)

/-- The commands that are not complete with their edges. -/
def Core.edgeTable (c : Core) : List (Nat × List Nat) :=
  (c.eng0.queue ++ c.eng1.queue ++ c.conv.queue).map (fun x => (x.id, x.edges)) ++ c.mx.cmds.map (fun x => (x.id, x.edges))

/-- Command i is a given one, or waits for it through edges, at most n of them. -/
def waitsFor (t : List (Nat × List Nat)) (old : Nat) : Nat → Nat → Bool
  | 0, i => i == old
  | n + 1, i => i == old || t.any (fun p => p.1 == i && p.2.any (waitsFor t old n))

/-- The edges of a command that resumes a faulted one: what waits for the faulted command waits for the resume, and not the
other way round (14 R340, R348; log 36). -/
def Core.resumeEdges (c : Core) (old : Nat) (es : List Nat) : List Nat := es.filter (fun i => !waitsFor c.edgeTable old 12 i)

/-- A block of local memory read for a command under 02 R42 and R43, as 64-bit words. -/
def Core.readBlock (c : Core) (a : Int) (n : Nat) : Core × Except Exc (List Nat) :=
  match localCheck c.xbAddr a n with
  | some e => (c, .error e)
  | none =>
    match c.eccWords ((List.range (n / 8)).map (fun i => a.toNat / 8 + i)) with
    | (c', some e) => (c', .error e)
    | (c', none) => (c', .ok ((List.range (n / 8)).map (fun i => memRead c'.loc (a.toNat + 8 * i) 8)))

/-- The governor of a quadrant (14 R361). -/
def State.gov (s : State) (q : Nat) : Governor := tabGet s.governors q Governor.reset
def State.putGov (s : State) (q : Nat) (g : Governor) : State := { s with governors := tabSet s.governors q g }

/-- A request for leave enters the FIFO of the core's island, once. -/
def State.askLeave (s : State) (site eng cls : Nat) : State :=
  let q := siteQuad site
  let g := s.gov q
  if g.fifo.any (fun r => r.site == site && r.eng == eng) then s
  else s.putGov q { g with fifo := g.fifo ++ [⟨site, eng, cls⟩] }

/-- Leave returned, or its request withdrawn (14 R361). -/
def State.returnLeave (s : State) (site eng : Nat) : State :=
  let q := siteQuad site
  let g := s.gov q
  let mine := g.out.filter (fun o => o.1 == site && o.2.1 == eng)
  s.putGov q
    { g with
      est := mine.foldl (fun e o => e - o.2.2) g.est
      out := g.out.filter (fun o => !(o.1 == site && o.2.1 == eng))
      fifo := g.fifo.filter (fun r => !(r.site == site && r.eng == eng)) }

/-- The agent for which a command acts (08 R215, 14 R332). -/
def State.cmdAgent (s : State) (site eng mode owner vd : Nat) (tvec : DWord) : Agent :=
  { site := site, mode := mode, owner := owner, vd := vd, tvec := tvec, tag := (s.core site).tag, eng := eng }

/-- A channel settles after bytes landed or an arrival: a channel that breaks ends the waits on it (08 R199, R200); a seam
channel completes with its superstep. -/
def State.afterChange (s : State) (k : Nat) : State :=
  let s1 := if (s.seamGang k).isSome then s else s.settleChan k
  if (s1.chan k).st = .broken then s1.breakWaits k s1.sites else s1

/-- Landed bytes with a tag (08 R200, 14 R342). -/
def State.landTag (s : State) (tag : Option (Nat × Nat)) (n : Nat) : State :=
  match tag with
  | none => s
  | some (phase, k) => (s.putChan k ((s.chan k).land phase n)).afterChange k

/-- A command stopped by an element's cause (14 R340); in a protected gang a consumed error stops the core for its
rollback (09 R237). -/
def State.engFail (s : State) (site e : Nat) (cause : Nat) (addr : DWord) (iv : List Nat) (sig : Bool) : State :=
  let c := s.core site
  if c.guarded && consumes cause then s.putCore site { c with run := .consumed, lost := cause }
  else
    let x := c.eng e
    (s.putCore site (c.setEng e { x with fault := some ⟨cause, addr, sig⟩, iv := iv, rep := false })).returnLeave site e

/-- A refusal by a home counted for the head command of an engine (14 R339 row 7). -/
def State.engRefused (s : State) (site e va : Nat) (iv : List Nat) : State :=
  let s1 := s.dropPage site va
  let c := s1.core site
  let m := ((c.eng e).queue.head?.map (fun x => x.moved)).getD 0 + 1
  let s2 := s1.putCore site ((c.setEng e ((c.eng e).onHead (fun x => { x with moved := m }))).count 12 1)
  if 8 ≤ m then s2.engFail site e cMOVED_RETRY_LIMIT (BitVec.ofNat 64 va) iv false else s2

/-- One global side of an element. -/
structure Side where
  va : Nat
  n : Nat
  op : MemOp
  need : List Nat
  deriving DecidableEq, Repr

/-- How the checks of the global sides of an element end. -/
inductive SideRes where
  | ok (s : State) (es : List (Side × TlbEntry))
  | fail (s : State) (e : Exc)
  | moved (s : State) (va : Nat)
  | wait (s : State)

/-- An engine's access (11 R269). -/
def Side.access (x : Side) (site mode owner vd : Nat) : Access :=
  { site := site, mode := mode, owner := owner, vd := vd, va := x.va, n := x.n, op := x.op, need := x.need, engine := true }

/-- Row 3 of 14 R339 over the global sides. -/
def State.translateSides (s : State) (site : Nat) : List Side → SideRes
  | [] => .ok s []
  | x :: t =>
    match s.translate site x.va with
    | (s1, .fault cause) => .fail s1 ⟨cause, BitVec.ofNat 64 x.va⟩
    | (s1, .moved) => .moved s1 x.va
    | (s1, .blocked) => .wait s1
    | (s1, .leaf e) =>
      match s1.translateSides site t with
      | .ok s2 es => .ok s2 ((x, e) :: es)
      | r => r

/-- Row 5 of 14 R339 over the global sides. -/
def State.rightsSides (s : State) (site mode owner vd : Nat) : List (Side × TlbEntry) → Acc Nat
  | [] => .ok s 0
  | (x, _) :: t =>
    (s.checkRights site mode owner vd x.va x.n x.need true).andThen fun s1 _ => s1.rightsSides site mode owner vd t

/-- The agent at which an engine's access to a page performs: the home for a write of type W, the tile fetch unit for the matrix unit
(engine 3), else a slice (12 R285, R309; 15 R371). -/
def Access.agentAt (a : Access) (e : TlbEntry) : Nat :=
  let pa := e.pa a.va
  if pteType e.pte = 1 ∧ a.op ≠ .load then agentHome (homeDie pa)
  else if a.eng = 3 then agentTfu (sitePkgCluster a.site) else agentL1 a.site pa

/-- A side is refused by the home of its page (18 R442). -/
def State.sideRefused (s : State) (site eng : Nat) (e : TlbEntry) (a : Access) : Bool :=
  let b : Access := { a with eng := eng }
  decide (pteType e.pte < 2) && s.turnsAway (e.pa a.va) (b.agentAt e) (.eng site eng)

/-- Rows 2 to 7 of 14 R339 for the global sides of an element, source then destination, of a copy channel or of the matrix unit, engine
3, which takes types C and W alone (15 R371); cover lists the bytes that its footprint must cover: local, written, address, length. -/
def State.checkSides (s : State) (site eng mode owner vd : Nat) (foot : List Nat) (cover : List (Bool × Bool × Int × Nat))
    (xs : List Side) : SideRes :=
  match xs.find? (fun x => x.va % x.n != 0) with
  | some x => .fail s ⟨cALIGN, BitVec.ofNat 64 x.va⟩
  | none =>
    match s.translateSides site xs with
    | .ok s1 es =>
      match es.find? (fun p => pteType p.2.pte == 2 || eng == 3 && decide (2 ≤ pteType p.2.pte) || !s1.typeAdmits p.2 (p.1.access site mode owner vd)) with
      | some p => .fail s1 ⟨cBAD_TYPE, BitVec.ofNat 64 p.1.va⟩
      | none =>
        match s1.rightsSides site mode owner vd es with
        | .trap s2 e => .fail s2 e
        | .wait s2 => .wait s2
        | .ok s2 _ =>
          match cover.find? (fun x => !footCovers foot x.1 x.2.1 x.2.2.1 x.2.2.2) with
          | some x => .fail s2 ⟨cFOOTPRINT_VIOLATION, BitVec.ofInt 64 x.2.2.1⟩
          | none =>
            match es.find? (fun p => s2.sideRefused site eng p.2 (p.1.access site mode owner vd)) with
            | some p => .moved s2 p.1.va
            | none => .ok s2 es
    | r => r

/-- The access of a side that passed the checks. -/
def State.performSide (s : State) (site eng mode owner vd : Nat) (x : Side) (e : TlbEntry) : GRes :=
  s.perform { x.access site mode owner vd with eng := eng } e

/-- The head command of an engine, when it runs and no fault stands. -/
def Engine.running (x : Engine) : Option Cmd :=
  match x.fault, x.queue with
  | none, h :: _ => if h.stage = .running then some h else none
  | _, _ => none

/-- A command that reaches the wait for a credit of a term queues for it (14 R360). -/
def Core.queueCredit (c : Core) (t id : Nat) : Core :=
  let q := c.credits.filter (fun p => c.pendingIds.contains p.2)
  { c with credits := if q.contains (t, id) then q else q ++ [(t, id)] }

/-- A command passes the wait for a credit of a term: it takes one in its turn (14 R360); none, while it waits. -/
def Core.passCredit (c : Core) (t id : Nat) (wants : Bool) : Except Core Core :=
  if !wants then .ok c
  else
    let c1 := c.queueCredit t id
    if c1.creditOf t = 0 ∨ (c1.credits.find? (fun p => p.1 == t)) ≠ some (t, id) then .error c1
    else .ok { c1.takeCredit t with credits := c1.credits.filter (· != (t, id)) }

/-- A held command takes the next step toward running (14 R332): edges, credit, leave, which it asks for when it needs it. -/
def State.startCmd (s : State) (site e : Nat) (needs : Cmd → Bool) : State :=
  let c := s.core site
  let x := c.eng e
  match x.fault, x.queue with
  | none, h :: _ =>
    if h.stage ≠ .held ∨ !c.edgesMet h.edges then s
    else
      match c.passCredit (h.word2 / 16 % 16) h.id (h.word2.testBit 2 && !h.credit) with
      | .error c1 => s.putCore site c1
      | .ok c1 =>
        let s1 := s.putCore site (c1.setEng e (x.onHead (fun y => { y with credit := true })))
        if needs h && !h.leave then s1.askLeave site e 1
        else
          s1.onCore site (fun c => c.setEng e
            { (c.eng e).onHead (fun y => { y with stage := .running, begun := true }) with
              wptr := h.k, flags := if h.begun then (c.eng e).flags else 0 })
  | _, _ => s

/-- A command leaves its queue complete, with its pulse (14 R342). -/
def State.finishCmd (s : State) (site e : Nat) : State :=
  (s.onCore site (fun c => (c.setEng e { c.eng e with queue := (c.eng e).queue.tail }).pulse (e + 1) 0)).returnLeave site e

/-- What reports a standing fault of the selected engines: the first of channel 0, channel 1, the converter (14 R333,
R340, R343). -/
def Core.engFault (c : Core) (sel : Nat) : Option (Nat × Exc) :=
  ([0, 1, 2].filter (fun e => sel == 3 || sel == e)).findSome? (fun e =>
    (c.eng e).fault.map (fun f => (e, ⟨cCOPY_FAULT, BitVec.ofNat 64 (f.cause + e * 512)⟩)))

/-- The fault of an engine marked as reported. -/
def Core.report (c : Core) (e : Nat) : Core := c.setEng e { c.eng e with rep := true }

/-- Every command of the selected engines is complete. -/
def Core.engIdle (c : Core) (sel : Nat) : Bool :=
  ([0, 1, 2].filter (fun e => sel == 3 || sel == e)).all (fun e => (c.eng e).queue.isEmpty)

/-- cpwait (14 R343). -/
def State.bodyCpwait (s : State) (site sel : Nat) : SRes :=
  match (s.core site).engFault sel with
  | some (e, x) => .trap (s.onCore site (fun c => c.report e)) x
  | none => if (s.core site).engIdle sel then .done s else .wait s (.cpwait sel)

/-- The state of an engine as STAT gives it (14 R344). -/
def Engine.stat (x : Engine) (conv : Bool) : Nat :=
  let st :=
    if x.fault.isSome then 2
    else
      match x.queue with
      | [] => 0
      | h :: _ => if h.stage = .held then 3 else 1
  x.queue.length * 2 ^ 18 + st * 2 ^ 16 + (if conv then x.flags * 2 ^ 10 else 0) + (if x.rep then 512 else 0)
    + (x.fault.map (fun f => f.cause)).getD 0

/-- cpstat (14 R344); FVA is 0 and IVL and IVH hold the vector recorded last while no fault is recorded (log 102). -/
def bodyCpstat (d : GOp) (sel : Nat) (c : Core) : CoreRes :=
  let x := c.eng (sel / 8)
  let iv (j : Nat) : Nat := x.iv.getD j 0
  let v :=
    match sel % 8 with
    | 0 => x.stat (sel / 8 == 2)
    | 1 => (x.fault.map (fun f => f.addr.toNat)).getD 0
    | 2 => iv 0 + iv 1 * 2 ^ 16 + iv 2 * 2 ^ 32 + iv 3 * 2 ^ 48
    | 3 => iv 4
    | _ => x.wptr % 2 ^ 40
  .done (c.wg .D d (BitVec.ofNat 64 v) 1)

/-- How an issued command enters its engine's queue (14 R340): it replaces a faulted one with RS, and discards it
otherwise. -/
def Core.enqueue (c : Core) (e : Nat) (rs : Bool) (x : Cmd) : Core :=
  let g := c.eng e
  let queue :=
    match g.fault with
    | none => g.queue ++ [x]
    | some _ =>
      if rs then
        match g.queue with
        | [] => [x]
        | old :: t => { x with id := old.id, edges := c.resumeEdges old.id x.edges } :: t
      else g.queue.tail ++ [x]
  ({ c with cmdId := c.cmdId + 1 }).setEng e { g with queue := queue, fault := none, rep := false }

/-- The queue of an engine has no place for another command, or the footprint checker is full, a faulted command still among its eight
(14 R332, R348; log 101). -/
def Core.noPlace (c : Core) (e : Nat) (foot : Bool) : Bool :=
  decide (4 ≤ (c.eng e).queue.length - (if (c.eng e).fault.isSome then 1 else 0)) || (foot && decide (8 ≤ c.kept.length))

/-- Where a resumed command starts (14 R340): the recorded vector read in its own nest, or past its last element when only
the signal is left. -/
def Core.resumeAt (c : Core) (e : Nat) (counts : List Nat) (total : Nat) : Nat :=
  match (c.eng e).fault with
  | none => 0
  | some f => if f.sig then total else nestLinear counts (c.eng e).iv

end Sys2Proof.Machine
end

