-- ==== Sys2Proof/Machine/Ordered.lean ====
section
/-! DEFINITION. Ordered operations: announcement, application at the home, landing (13 R315 to R320; 09 R233). -/

namespace Sys2Proof.Machine

/-- The width in bytes of an ordered operation's type (13 R315). -/
def ordBytes (ty : Nat) : Nat := if ty = 2 ∨ ty = 6 ∨ ty = 10 then 4 else 8

/-- The rank of a core in its gang (09 R217). -/
def Core.rank (c : Core) : Nat := c.sp.gang.toNat % 2 ^ 12

/-- Seam mode: the core belongs to a superstep gang (09 R233). -/
def Core.seamMode (c : Core) : Bool := c.sp.psw.getLsbD 4

/-- An ordered operation at issue (13 R316), its operands read: D the record, A the target, B the operand. -/
def State.announce (s : State) (site sub ty rm : Nat) (d a b : DWord) : SRes :=
  let c := s.core site
  let seam := c.seamMode
  let n := ordBytes ty
  if seam && decide (256 ≤ c.ordCount) then .trap s ⟨cSEAM_STATE, 256⟩
  else if !seam && decide (16 ≤ (c.ordPend.filter (fun p => !p.2)).length) then .wait s .busy
  else
    let acc : Access :=
      { site := site, mode := c.mode, owner := c.owner, vd := c.vdev, va := a.toNat, n := n, op := .amo 0 0, need := [rA],
        engine := false, obj := true }
    match s.reach acc with
    | .trap s1 e => .trap s1 e
    | .wait s1 => .wait s1 .stall
    | .moved s1 =>
      match s1.refused site 5 a.toNat with
      | .trap s2 e => .trap s2 e
      | .wait s2 => .wait s2 .stall
      | .ok s2 _ => .wait s2 .stall
    | .ok s1 e =>
      match localCheck c.xbAddr d.toInt 16 with
      | some x => .trap s1 x
      | none =>
        let op : OrdOp :=
          { site := site, seam := seam, win := if seam then c.sp.ss.toNat else s.time / 64,
            num := if seam then c.rank else s.logical site, seq := c.ordSeq, sub := sub, ty := ty, rm := rm, v := b,
            va := a.toNat, pa := e.pa a.toNat, key := pteKey e.pte, owner := c.owner, vd := c.vdev, mode := c.mode,
            rec_ := d.toNat, moves := 0, back := false }
        let s2 := s1.onCore site (fun c =>
          { c with ordPend := c.ordPend ++ [(d.toNat, seam)]
                   ordCount := if seam then c.ordCount + 1 else c.ordCount
                   ordSeq := c.ordSeq + 1 })
        .done { s2 with ords := tabSet s2.ords (tabFree s2.ords) op }

/-- What an ordered operation makes of the old word, with the flags of a rounding (13 R318). -/
def OrdOp.fn (o : OrdOp) (old : Nat) : Nat × Nat :=
  let n := ordBytes o.ty
  let v := o.v.toNat % 2 ^ (8 * n)
  let t : BitVec 4 := BitVec.ofNat 4 o.ty
  let x := BitVec.ofNat 64 old
  let y := BitVec.ofNat 64 v
  let res (r : FRes) : Nat × Nat := (r.bits.toNat % 2 ^ (8 * n), r.flags.toNat)
  let signed := o.ty == 2 || o.ty == 3
  match o.sub with
  | 0 => if 8 ≤ o.ty then res (fpAdd t (BitVec.ofNat 3 o.rm) x y) else ((old + v) % 2 ^ (8 * n), 0)
  | 1 => if 8 ≤ o.ty then res (fpMin t x y) else (amoFn (if signed then 5 else 7) n old v, 0)
  | 2 => if 8 ≤ o.ty then res (fpMax t x y) else (amoFn (if signed then 6 else 8) n old v, 0)
  | 3 => (v, 0)
  | _ => (old, 0)

/-- VALUE: the old word extended (13 R318). -/
def OrdOp.value (o : OrdOp) (old : Nat) : DWord :=
  if o.ty = 2 ∨ o.ty = 3 then BitVec.ofInt 64 (signedOf (ordBytes o.ty) old) else BitVec.ofNat 64 old

/-- The status word of a record (13 R319). -/
def OrdOp.status (o : OrdOp) (flags cause : Nat) : DWord := BitVec.ofNat 64 (o.win % 2 ^ 48 * 2 ^ 16 + flags * 2 ^ 9 + cause)

/-- An operation leaves the tables, its record on its way. -/
def State.ordLand (s : State) (i : Nat) (o : OrdOp) (value : DWord) (flags cause : Nat) : State :=
  { s with ords := tabDel s.ords i, lands := tabSet s.lands (tabFree s.lands) ⟨o.site, o.rec_, value, o.status flags cause, o.pa⟩ }

/-- The order of keys (13 R317). -/
def OrdOp.before (x y : OrdOp) : Bool :=
  decide (x.win < y.win) || (x.win == y.win && (decide (x.num < y.num) || (x.num == y.num && decide (x.seq < y.seq))))

/-- The first operation of a table by key. -/
def ordFirst : List (Nat × OrdOp) → Option (Nat × OrdOp)
  | [] => none
  | p :: t =>
    match ordFirst t with
    | none => some p
    | some q => if q.2.before p.2 then some q else some p

/-- An operation is returned by its home with MOVED (13 R320, 18 R442). -/
def State.ordReturn (s : State) (i : Nat) (o : OrdOp) : State :=
  { s with
    ords := tabSet s.ords i { o with back := true, moves := o.moves + 1 }
    reqs := s.reqs.filter (fun p => !(p.2.sector == o.pa / 64 && p.2.who == .ord o.site)) }

/-- An operation whose checks have passed performs at its home, which holds every token of the sector (13 R318). -/
def State.ordPerform (s : State) (i : Nat) (o : OrdOp) : State :=
  let n := ordBytes o.ty
  let old := s.readPa o.key o.pa n
  let r := o.fn old
  let s1 := if o.sub = 4 then s else s.homeWrite o.key o.pa n r.1
  (s1.note [{ s1.recordFor (.ord o.site) (agentL1 o.site o.pa) (o.pa / 64) 5 with key := o.key, arg := o.sub }]).ordLand i o (o.value old) r.2 0

/-- One operation applied at its home (13 R318); false, when it must wait. -/
def State.ordApply (s : State) (i : Nat) (o : OrdOp) : State × Bool :=
  let home := agentHome (homeDie o.pa)
  if s.turnsAway o.pa home (.ord o.site) then (s.ordReturn i o, true)
  else
    match s.checkRights o.site o.mode o.owner o.vd o.va (ordBytes o.ty) [rA] false with
    | .wait s1 => (s1, false)
    | .trap s1 e => (s1.ordLand i o 0 0 e.cause, true)
    | .ok s1 _ =>
      if (s1.sector (o.pa / 64)).poison then
        ((s1.logFor (homeDie o.pa) o.site ⟨1, 6, cUNCORRECTABLE, BitVec.ofNat 64 o.pa⟩).ordLand i o 0 0 cUNCORRECTABLE, true)
      else
        match s1.obtain o.key o.pa home true (.ord o.site) with
        | .ok s2 _ => (s2.ordPerform i o, true)
        | .wait s2 => (s2, false)
        | .trap s2 _ => (s2, false)

/-- An earlier operation of the same thread, which another home may have, is not yet applied (13 R310, R317). -/
def State.ordBehind (s : State) (o : OrdOp) : Bool :=
  !o.seam && s.ords.any (fun p => p.2.site == o.site && !p.2.seam && !p.2.back && p.2.before o)

/-- The operations of a filter applied in key order, at most n, until one must wait.  In seam mode one that its home returned
keeps its turn (09 R233); in window mode it comes back in another window (13 R320). -/
def State.ordApplyAll (s : State) (f : OrdOp → Bool) : Nat → State
  | 0 => s
  | n + 1 =>
    match ordFirst (s.ords.filter (fun p => f p.2 && (p.2.seam || !p.2.back))) with
    | none => s
    | some (i, o) =>
      if o.back || s.ordBehind o then s
      else
        match s.ordApply i o with
        | (s1, false) => s1
        | (s1, true) => s1.ordApplyAll f n

/-- A home applies a window (13 R318): at its tick or later, after every earlier window. -/
def State.applyWindow (s : State) (die w : Nat) : State :=
  let mine (o : OrdOp) : Bool := !o.seam && homeDie o.pa == die
  if s.time < 64 * w + 128 ∨ s.ords.any (fun p => mine p.2 && !p.2.back && decide (p.2.win < w)) then s
  else s.ordApplyAll (fun o => mine o && o.win == w) s.ords.length

/-- A record lands (13 R318, R319): one indivisible write of 16 bytes. -/
def State.landRecord (s : State) (i : Nat) : State :=
  match tabGet? s.lands i with
  | none => s
  | some l =>
    let c := s.core l.site
    let pend := c.ordPend.erase (l.rec_, (c.ordPend.find? (fun p => p.1 == l.rec_)).any (fun p => p.2))
    let c1 := (c.pokeLocal l.rec_ 8 l.value.toNat).pokeLocal (l.rec_ + 8) 8 l.status.toNat
    { s.putCore l.site { c1 with ordPend := pend } with lands := tabDel s.lands i }

/-- A home that refuses an announcement returns it (13 R320), at once or in its turn.  A returned one is made again, or its record lands
after eight refusals; a target that no longer translates counts as one more (log 18), and one whose walk waits does not. -/
def State.reannounce (s : State) (i : Nat) : State :=
  match tabGet? s.ords i with
  | none => s
  | some o =>
    let again (s1 : State) : State := { s1 with ords := tabSet s1.ords i { o with moves := o.moves + 1 } }
    if !o.back then
      if s.turnsAway o.pa (agentHome (homeDie o.pa)) (.ord o.site) then s.ordReturn i o else s
    else if 8 ≤ o.moves then s.ordLand i o 0 0 cMOVED_RETRY_LIMIT
    else
      match (s.dropPage o.site o.va).translate o.site o.va with
      | (s1, .leaf e) =>
        if pteType e.pte ≠ 0 then again s1
        else
          let o1 : OrdOp :=
            { o with back := false, pa := e.pa o.va, key := pteKey e.pte, win := if o.seam then o.win else s.time / 64 }
          { s1 with ords := tabSet s1.ords i o1 }
      | (s1, .blocked) => s1
      | (s1, _) => again s1

/-- The head of a core's posted stores changed, or gone. -/
def State.onPosted (s : State) (site : Nat) (f : Posted → List Posted) : State :=
  s.onCore site (fun c => { c with posted := match c.posted with
                                             | [] => []
                                             | p :: t => f p ++ t })

/-- A core may take the trap of a posted store now (log 75). -/
def Core.takesPosted (c : Core) : Bool :=
  c.run == .running && (c.wait.interruptible || c.wait == .busy || (c.wait == .stall && c.out.isEmpty)) && c.rep.isNone

/-- A posted store that cannot perform raises its cause in its core, at the next instruction that has not begun or at a wait that an
interrupt abandons (10 R255; log 75); one of a core that has stopped for good raises none. -/
def State.postedFails (s : State) (site va cause : Nat) : State :=
  let c := s.core site
  if c.takesPosted then
    let s1 := s.onPosted site (fun _ => [])
    s1.trapAt site (s1.core site) ⟨cause, BitVec.ofNat 64 va⟩
  else if c.settling then s.onPosted site (fun _ => [])
  else s

/-- A posted store whose page refused it is translated again (18 R442), and counted (10 R255). -/
def State.postedAgain (s : State) (site : Nat) (p : Posted) : State :=
  if 8 ≤ p.moves + 1 then (s.onPosted site (fun p => [{ p with moves := p.moves + 1 }])).postedFails site p.va cMOVED_RETRY_LIMIT
  else
    match (s.dropPage site p.va).translate site p.va with
    | (s1, .leaf e) =>
      (s1.onPosted site (fun p => [{ p with pa := e.pa p.va, key := pteKey e.pte, ty := pteType e.pte, moves := p.moves + 1 }])).onCore site
        (fun c => c.count 12 1)
    | (s1, .fault cause) => s1.postedFails site p.va cause
    | (s1, _) => s1

/-- A posted store whose page has become one of another type than W performs by that type (10 R254, 18 R442; log 75). -/
def State.postedElsewhere (s : State) (site : Nat) (p : Posted) : State :=
  let a : Access := 
    { site := site, mode := 3, owner := 0, vd := 0, va := p.va, n := p.n, op := .store p.value, need := [], engine := true, eng := 6 }
  let r := if p.ty = 2 then GRes.trap s ⟨cBAD_TYPE, 0⟩ else if p.ty = 3 then s.performH a p.pa else s.performF a p.pa
  match r with
  | .ok s1 _ => s1.onPosted site (fun _ => [])
  | .wait s1 => s1
  | .device s1 _ => s1
  | .trap s1 e => if (s1.core site).takesPosted || (s1.core site).settling then s1.postedFails site p.va e.cause else s

/-- The head of a core's posted stores applied at its home (10 R254, 12 R309), or translated again after a refusal
(18 R442). -/
def State.applyPosted (s : State) (site : Nat) : State :=
  match (s.core site).posted.head? with
  | none => s
  | some p =>
    if 8 ≤ p.moves then s.postedFails site p.va cMOVED_RETRY_LIMIT
    else if 2 ≤ p.ty then s.postedElsewhere site p
    else if s.turnsAway p.pa (agentHome (homeDie p.pa)) (.posted site) then s.postedAgain site p
    else
      match s.applyHome p.key p.pa p.n p.value (.posted site) with
      | .ok s1 _ => s1.onPosted site (fun _ => [])
      | .wait s1 => s1
      | .trap s1 _ => s1

end Sys2Proof.Machine
end

