-- ==== Sys2Proof/Machine/Copy.lean ====
section
/-! DEFINITION. Copy commands: issue, elements and completion (14 R335 to R342). -/

namespace Sys2Proof.Machine

/-- Which sides of a copy are global, by SUB: 0 gl, 1 lg, 2 ll, 3 gg (14 R337). -/
def copySrcGlobal (sub : Nat) : Bool := sub == 0 || sub == 3
def copyDstGlobal (sub : Nat) : Bool := sub == 1 || sub == 3

/-- The read set and the write regions of a protected gang's core with a footprint block added (09 R236): none, when it
breaks the rule. -/
def Core.addFoot (c : Core) (foot : List Nat) (check : Bool) : Option Core :=
  let rs := footRegions foot
  let new (w : Bool) : List (Nat × Nat × Bool) := (rs.filter (fun r => r.write == w)).map (fun r => (r.base, r.len, r.loc))
  let meets (x y : Nat × Nat × Bool) : Bool :=
    x.2.2 == y.2.2 && decide (x.1 < y.1 + y.2.1) && decide (y.1 < x.1 + x.2.1)
  let reads := c.reads ++ new false
  if check && ((new true).any (fun w => reads.any (meets w)) || (new false).any (fun r => c.writes.any (meets r))
      || decide (32 < reads.length)) then none
  else some { c with reads := reads, writes := c.writes ++ new true }

/-- Row 8 of 14 R338: the phase of the BAR or SEAM tag with the key of its channel. -/
inductive TagRes where
  | ok (tag : Option (Nat × Nat))
  | trap (e : Exc)
  /-- the phase that it would name lies beyond the next (08 R200) -/
  | wait (k : Nat)

/-- The tag of a command whose bytes count on a channel (08 R199, R200; 14 R342). -/
def State.tagOn (s : State) (site k : Nat) : TagRes :=
  let c := s.chan k
  match c.turn site with
  | .now => .ok (some (c.phase, k))
  | .next => .ok (some ((c.phase + 1) % 2 ^ 48, k))
  | .wait => .wait k
  | .none => .trap ⟨cBARRIER_MEMBERSHIP, BitVec.ofNat 64 (chanNumber k)⟩

/-- The key of the seam channel of a core, by the SEAM field of s.gang (09 R217). -/
def State.seamKey (s : State) (site : Nat) : Nat := chanKey (siteDie site) ((s.core site).sp.gang.toNat / 2 ^ 56 % 64)

/-- The tag of a nest block. -/
def State.nestTag (s : State) (site b : Nat) : TagRes :=
  if nestBar b then
    let k := chanKey (siteDie site) (nestBt b)
    if !s.allotted (s.core site).vdev k then .trap ⟨cBARRIER_MEMBERSHIP, BitVec.ofNat 64 (nestBt b)⟩ else s.tagOn site k
  else if nestSeam b then s.tagOn site (s.seamKey site)
  else .ok none

/-- Row 7 of 14 R338: a command's signal. -/
def State.sigCheck (s : State) (site va : Nat) : Acc Nat :=
  if va % 64 ≠ 0 then .trap s ⟨cALIGN, BitVec.ofNat 64 va⟩
  else s.objCheck ((s.agent site).access va 8 (.amo 1 0) [rA])

/-- A local block of a command waits for pending bytes, as a command of the core's copy channels (13 R319). -/
def Core.blockBusy (c : Core) (a : DWord) (n : Nat) : Bool := c.localBusy a.toInt n

/-- A copy instruction (14 R337, R338), its operands read; s.eval of PHASE_GLOBAL and RB_REFUSED names its source first (log 98). -/
def State.issueCopy (s : State) (site sub ch term : Nat) (he rs : Bool) (d a b f : DWord) : SRes :=
  let c := s.core site
  let global := if copySrcGlobal sub then a else if copyDstGlobal sub then d else 0
  if c.noPlace ch (f != 0) then .wait s .retry
  else if (copySrcGlobal sub || copyDstGlobal sub) && c.computePhase then .trap s ⟨cPHASE_GLOBAL, global⟩
  else if c.guarded && f == 0 then .trap s ⟨cRB_REFUSED, if copySrcGlobal sub || copyDstGlobal sub then global else a⟩
  else if c.blockBusy b 64 || (f != 0 && c.blockBusy f 64) then .wait s .busy
  else
    match c.readBlock b.toInt 64 with
    | (c1, .error e) => .trap (s.putCore site c1) e
    | (c1, .ok blk) =>
      match (if f = 0 then (c1, .ok []) else c1.readBlock f.toInt 64) with
      | (c2, .error e) => .trap (s.putCore site c2) e
      | (c2, .ok foot) =>
        let s2 := s.putCore site c2
        let n := wordsNum blk
        let seamBt := nestBar n && (s2.seamGang (chanKey (siteDie site) (nestBt n))).isSome
        if !nestValid n (c.sp.psw.getLsbD 4) (sub == 0) || seamBt then .trap s2 ⟨cCOPY_NEST, b⟩
        else if f != 0 && !footValid foot then .trap s2 ⟨cFOOTPRINT_VIOLATION, f⟩
        else
          match (if c2.guarded then c2.addFoot foot (c2.sp.psw.getLsbD 5) else some c2) with
          | none => .trap s2 ⟨cFOOTPRINT_VIOLATION, f⟩
          | some c3 =>
            let at_ (x : DWord) : Int := if sub = 3 then (x.toNat : Int) else x.toInt
            if 2 ≤ sub && nestSelfMeets n (at_ d) (at_ a) then .trap s2 ⟨cCOPY_NEST, b⟩
            else
              match (if nestSig n then s2.sigCheck site (nestSigVa n) else .ok s2 0) with
              | .trap s3 e => .trap s3 e
              | .wait s3 => .wait s3 .stall
              | .ok s3 _ =>
                match s3.nestTag site n with
                | .trap e => .trap s3 e
                | .wait k => .wait s3 (.arrive k)
                | .ok tag =>
                  if rs && (c.eng ch).fault.isNone then .trap s3 ⟨cCOPY_NEST, b⟩
                  else
                    let total := nestTotal n
                    let cmd : Cmd :=
                      { id := c.cmdId, sub := sub, conv := false, dst := d, src := a,
                        word2 := term * 16 + (if he then 4 else 0) + (if rs then 2 else 0) + ch, t1 := 0, t2 := 0, rm := 0,
                        sat := false, blk := blk, foot := foot, owner := c.owner, vd := c.vdev, mode := c.mode,
                        tvec := c.sp.tvec, tag := tag, k := if rs then c.resumeAt ch (nestCounts n) total else 0,
                        vals := [], begun := false, stage := .held, edges := c.edgesOf foot, credit := false, leave := false, moved := 0 }
                    .done (s3.onCore site (fun x => ({ x with reads := c3.reads, writes := c3.writes } : Core).enqueue ch rs cmd))

/-- A copy of more than 4,096 bytes asks for leave (14 R361). -/
def copyNeedsLeave (x : Cmd) : Bool :=
  let n := wordsNum x.blk
  decide (4096 < nestElem n * nestTotal n)

/-- The local words that reading n bytes at a reads. -/
def wordsOf (a n : Nat) : List Nat := (List.range ((a + n - 1) / 8 - a / 8 + 1)).map (fun i => a / 8 + i)

/-- The local checks of an element (14 R339 row 1): a read, and a write of fewer than 8 bytes, read stored words. -/
def Core.elemLocal (c : Core) (a : Int) (n : Nat) (write : Bool) : Core × Option Exc :=
  match localCheck c.xbAddr a n with
  | some e => (c, some e)
  | none => c.eccWords (if write && decide (8 ≤ n) then [] else wordsOf a.toNat n)

/-- The local checks of an element's sides in order. -/
def Core.elemLocals (c : Core) : List (Int × Nat × Bool) → Core × Option Exc
  | [] => (c, none)
  | (a, n, w) :: t =>
    match c.elemLocal a n w with
    | (c1, some e) => (c1, some e)
    | (c1, none) => c1.elemLocals t

/-- Element k of a copy landed (14 R341, R342). -/
def State.landed (s : State) (site ch : Nat) (tag : Option (Nat × Nat)) (e : Nat) : State :=
  (s.onCore site (fun c =>
    let x := c.eng ch
    c.setEng ch { x.onHead (fun y => { y with k := y.k + 1, moved := 0 }) with wptr := x.wptr + 1 })).landTag tag e

/-- One element of the running copy of a channel (14 R336, R339). -/
def State.copyElement (s : State) (site ch : Nat) : State :=
  let c := s.core site
  match (c.eng ch).running with
  | none => s
  | some x =>
    let b := wordsNum x.blk
    let ns := nestCounts b
    let e := nestElem b
    if nestTotal b ≤ x.k then s
    else
      let ix := nestIndex ns x.k
      let sg := copySrcGlobal x.sub
      let dg := copyDstGlobal x.sub
      let srcI : Int := (if sg then (x.src.toNat : Int) else x.src.toInt) + nestOffset ix (nestSrc b)
      let dstI : Int := (if dg then (x.dst.toNat : Int) else x.dst.toInt) + nestOffset ix (nestDst b)
      let srcVa := (srcI % 2 ^ 64).toNat
      let dstVa := (dstI % 2 ^ 64).toNat
      if (!sg && c.localBusy srcI e) || (!dg && c.localBusy dstI e) then s
      else
        match c.elemLocals ((if sg then [] else [(srcI, e, false)]) ++ (if dg then [] else [(dstI, e, true)])) with
        | (c1, some f) => (s.putCore site c1).engFail site ch f.cause f.eval ix false
        | (c1, none) =>
          let s1 := s.putCore site c1
          let rd : Side := ⟨srcVa, e, .load, [if nestCode b then rX else rR]⟩
          let wr : Side := ⟨dstVa, e, .store 0, [rW]⟩
          match s1.checkSides site ch x.mode x.owner x.vd x.foot
              [(!sg, false, if sg then srcVa else srcI, e), (!dg, true, if dg then dstVa else dstI, e)] ((if sg then [rd] else []) ++ (if dg then [wr] else [])) with
          | .fail s2 f => s2.engFail site ch f.cause f.eval ix false
          | .moved s2 va => s2.engRefused site ch va ix
          | .wait s2 => s2
          | .ok s2 es =>
            let read : GRes :=
              match (if sg then es.head? else none) with
              | some (y, t) => s2.performSide site ch x.mode x.owner x.vd y t
              | none => .ok s2 (memRead (s2.core site).loc srcI.toNat e)
            match read with
            | .trap s3 f => s3.engFail site ch f.cause f.eval ix false
            | .wait s3 => s3
            | .device s3 _ => s3
            | .ok s3 v =>
              match (if dg then es.getLast? else none) with
              | none => (s3.onCore site (fun c => c.pokeLocal dstI.toNat e v)).landed site ch x.tag e
              | some (y, t) =>
                match s3.performSide site ch x.mode x.owner x.vd { y with op := .store v } t with
                | .trap s4 f => s4.engFail site ch f.cause f.eval ix false
                | .wait s4 => s4
                | .device s4 _ => s4
                | .ok s4 _ => s4.landed site ch x.tag e

/-- The completion of a copy whose elements have all landed (14 R342): its signal, its pulse. -/
def State.copyComplete (s : State) (site ch : Nat) : State :=
  match ((s.core site).eng ch).running with
  | none => s
  | some x =>
    let b := wordsNum x.blk
    if x.k < nestTotal b then s
    else if !nestSig b then s.finishCmd site ch
    else
      match s.sigdec (s.cmdAgent site ch x.mode x.owner x.vd x.tvec) (nestSigVa b) 1 with
      | .ok s1 _ => s1.finishCmd site ch
      | .wait s1 => s1
      | .trap s1 e => s1.engFail site ch e.cause e.eval [0, 0, 0, 0, 0] true

end Sys2Proof.Machine
end

