-- ==== Sys2Proof/Machine/Converter.lean ====
section
/-! DEFINITION. The format converter: issue, elements and block scaling (14 R349 to R356). -/

namespace Sys2Proof.Machine

/-- The bytes that hold w bits at bit position b above address a: an access of w / 8 bytes, or single bytes (04 R111,
R112). -/
def bitSpan (a : Int) (b w : Nat) : List (Int × Nat) :=
  if 8 ≤ w then [(a + (b / 8 : Nat), w / 8)]
  else (List.range ((b % 8 + w + 7) / 8)).map (fun i => (a + (b / 8 + i : Nat), 1))

/-- w bits at bit position b above address a. -/
def Core.bitsAt (c : Core) (a b w : Nat) : Nat := memRead c.loc (a + b / 8) ((b % 8 + w + 7) / 8) / 2 ^ (b % 8) % 2 ^ w

/-- w bits written at bit position b above address a, the other bits of their bytes kept. -/
def Core.putBits (c : Core) (a b w v : Nat) : Core :=
  let n := (b % 8 + w + 7) / 8
  let old := memRead c.loc (a + b / 8) n
  let sh := b % 8
  c.pokeLocal (a + b / 8) n (old % 2 ^ sh + v % 2 ^ w * 2 ^ sh + old / 2 ^ (sh + w) * 2 ^ (sh + w))

/-- The source row of a command, and the bit position of an element in it (14 R350, R351). -/
def convSrcRow (x : Cmd) (m : Nat) : Int := x.src.toInt + (m * descSp (wordsNum x.blk) : Nat)
def convSrcBit (x : Cmd) (n : Nat) : Nat :=
  let d := wordsNum x.blk
  (if convSrcRecord x.sub then 8 * scaleBytes (descN d) else 0) + n * convSrcWidth x.sub d x.t2

/-- The same of the destination. -/
def convDstRow (x : Cmd) (r : Nat) : Int := x.dst.toInt + (r * descDp (wordsNum x.blk) : Nat)
def convDstBit (x : Cmd) (e : Nat) : Nat :=
  let d := wordsNum x.blk
  (if convDstRecord x.sub then 8 * scaleBytes (convCols x.sub d) else 0) + e * convDstWidth x.sub d x.t1

/-- The source elements, row and column, that element e of destination row r depends on: its block for quant and
retile. -/
def convNeeds (x : Cmd) (r e : Nat) : List (Nat × Nat) :=
  let d := wordsNum x.blk
  let es := if convDstRecord x.sub then (List.range 32).map (fun i => e / 32 * 32 + i) else [e]
  es.map (fun e => if convTransposed x.sub d then (e, r) else (r, e))

/-- The local reads of a source element: its bits, and the scale byte of its block. -/
def convReads (x : Cmd) (p : Nat × Nat) : List (Int × Nat × Bool) :=
  let d := wordsNum x.blk
  ((if convSrcRecord x.sub then [(convSrcRow x p.1 + (p.2 / 32 : Nat), 1)] else [])
    ++ bitSpan (convSrcRow x p.1) (convSrcBit x p.2) (convSrcWidth x.sub d x.t2) : List (Int × Nat)).map (fun q => (q.1, q.2, false))

/-- The local writes of an element: the scale byte with the first of a block, and its bits. -/
def convWrites (x : Cmd) (r e : Nat) : List (Int × Nat × Bool) :=
  let d := wordsNum x.blk
  ((if convDstRecord x.sub && e % 32 == 0 then [(convDstRow x r + (e / 32 : Nat), 1)] else [])
    ++ bitSpan (convDstRow x r) (convDstBit x e) (convDstWidth x.sub d x.t1) : List (Int × Nat)).map (fun q => (q.1, q.2, true))

/-- The bits of a source element and the scale byte of its block, 0 when its side has none. -/
def Core.convRead (c : Core) (x : Cmd) (p : Nat × Nat) : Nat × Nat :=
  (c.bitsAt (convSrcRow x p.1).toNat (convSrcBit x p.2) (convSrcWidth x.sub (wordsNum x.blk) x.t2),
    if convSrcRecord x.sub then c.bitsAt ((convSrcRow x p.1).toNat + p.2 / 32) 0 8 else 0)

/-- The value of a source element, scaled when its side is block-scaled (04 R108 to R110, 14 R354). -/
def convValue (x : Cmd) (r : Nat × Nat) : FV :=
  if convSrcRecord x.sub then
    let v := if descQ4 (wordsNum x.blk) then nibbleValue (r.2 / 64) r.1 else fp (BitVec.ofNat 4 x.t2) (BitVec.ofNat 64 r.1)
    if r.2 % 64 = 63 then .nan false else v.scale (r.2 % 64)
  else fp (BitVec.ofNat 4 x.t2) (BitVec.ofNat 64 r.1)

/-- emax of an element type (14 R353). -/
def quantEmax (q4 : Bool) (q4t t1 : Nat) : Int :=
  if q4 then (if q4t ≤ 1 then 2 else 3)
  else
    match t1 with
    | 12 => 8
    | 13 => 15
    | 14 => 4
    | _ => 2

/-- The larger of two magnitudes. -/
def magMax (x y : Nat × Int) : Nat × Int :=
  let e := min x.2 y.2
  if x.1 * 2 ^ (x.2 - e).toNat ≤ y.1 * 2 ^ (y.2 - e).toNat then y else x

/-- The largest magnitude of a block, or none when it holds a NaN or an infinity. -/
def blockMax : List FV → Option (Nat × Int)
  | [] => some (0, 0)
  | .fin _ m e :: t => (blockMax t).map (fun y => if m = 0 then y else if y.1 = 0 then (m, e) else magMax (m, e) y)
  | _ :: _ => none

/-- The scale of a block (14 R353). -/
def quantScale (emax : Int) (vs : List FV) : Nat :=
  match blockMax vs with
  | none => 63
  | some (0, _) => 32
  | some (m, e) =>
    let s := (bitLen m : Int) - 1 + e - emax + 32
    if s < 0 then 0 else if 62 < s then 62 else s.toNat

/-- The magnitude of a 4-bit code in eighths, over the codes 0 to 7, or to 8 for a negative uniform integer (04 R109). -/
def quantMag (ty mag : Nat) : Nat := if ty = 0 then 8 * mag else nibbleEighths ty mag

/-- The 4-bit code nearest to a scaled value (14 R353). -/
def quantNibble (ty : Nat) (rm : RMode) (neg : Bool) (sig : Nat) (exp : Int) : FRes :=
  let top := if ty = 0 && neg then 8 else 7
  let e := min exp (-3)
  let v := sig * 2 ^ (exp - e).toNat
  let unit := 2 ^ (-3 - e).toNat
  let code (m : Nat) : DWord :=
    BitVec.ofNat 64 (if ty = 0 then (if neg then (16 - m) % 16 else m) else (if neg then 8 + m else m))
  if quantMag ty top * unit < v then ⟨code top, flagOFNX⟩
  else
    let lo := ((List.range (top + 1)).filter (fun m => decide (quantMag ty m * unit ≤ v))).foldl max 0
    let d := v - quantMag ty lo * unit
    let gap := (quantMag ty (lo + 1) - quantMag ty lo) * unit
    if d = 0 then ⟨code lo, 0⟩
    else ⟨code (if roundsUp rm neg lo (decide (gap < 2 * d)) (decide (gap = 2 * d)) true then lo + 1 else lo), flagNX⟩

/-- The code of one element of a block with its scale (14 R353). -/
def quantCode (q4 : Bool) (q4t t1 : Nat) (rm : RMode) (sat : Bool) (s : Nat) (v : FV) : FRes :=
  match v with
  | .fin neg m e =>
    if s = 63 then ⟨0, 0⟩
    else if m = 0 then (if q4 then quantNibble q4t rm neg 0 0 else ⟨withSign (fmtOf (BitVec.ofNat 4 t1)) neg 0, 0⟩)
    else if q4 then quantNibble q4t rm neg m (e + 32 - s)
    else roundNonzero (fmtOf (BitVec.ofNat 4 t1)) rm (sat || t1 != 13) neg m (e + 32 - s) false
  | _ => ⟨0, 0⟩

/-- The result of element e of a row from the source elements that it needs: its bits, its scale byte, its flags. -/
def convResult (x : Cmd) (e : Nat) (src : List (Nat × Nat)) : FRes × Nat :=
  let d := wordsNum x.blk
  let t1 : BitVec 4 := BitVec.ofNat 4 x.t1
  let rm : RMode := BitVec.ofNat 3 x.rm
  match x.sub with
  | 0 => (convert t1 (BitVec.ofNat 4 x.t2) rm x.sat (BitVec.ofNat 64 (src.headD (0, 0)).1), 0)
  | 2 => (fpToFp (fmtOf t1) rm false (convValue x (src.headD (0, 0))), 0)
  | _ =>
    let vs := src.map (convValue x)
    let s := quantScale (quantEmax (descQ4 d) (descQ4t d) x.t1) vs
    let z := match blockMax vs with
      | some (0, _) => true
      | _ => false
    let q := quantCode (descQ4 d) (descQ4t d) x.t1 rm x.sat s (if z then .fin false 0 0 else vs.getD (e % 32) (.fin false 0 0))
    (⟨q.bits, if s = 63 then q.flags ||| flagNV else q.flags⟩, (if descQ4 d then descQ4t d * 64 else 0) + s)

/-- An element with its scale byte and the zero bytes after the scales written (14 R351). -/
def Core.convPut (c : Core) (x : Cmd) (r e : Nat) (v : DWord) (sb : Nat) : Core :=
  let d := wordsNum x.blk
  let row := (convDstRow x r).toNat
  let n := convCols x.sub d
  let c1 := if convDstRecord x.sub && e % 32 == 0 then c.pokeLocal (row + e / 32) 1 sb else c
  let c2 :=
    if convDstRecord x.sub && e == 0 then
      (List.range (scaleBytes n - n / 32)).foldl (fun c i => c.pokeLocal (row + n / 32 + i) 1 0) c1
    else c1
  c2.putBits row (convDstBit x e) (convDstWidth x.sub d x.t1) v.toNat

/-- One element of the running converter command (14 R350 to R355); quant and retile read a block once, at the first of its elements
that they produce (log 85). -/
def State.convElement (s : State) (site : Nat) : State :=
  let c := s.core site
  match c.conv.running with
  | none => s
  | some x =>
    let d := wordsNum x.blk
    if convTotal d ≤ x.k then s
    else
      let n := convCols x.sub d
      let r := x.k / n
      let e := x.k % n
      let needs := convNeeds x r e
      match c.elemLocals ((if x.vals.isEmpty then needs.flatMap (convReads x) else []) ++ convWrites x r e) with
      | (c1, some f) => (s.putCore site c1).engFail site 2 f.cause f.eval [e, r, 0, 0, 0] false
      | (c1, none) =>
        let src := if x.vals.isEmpty then needs.map (c1.convRead x) else x.vals
        let res := convResult x e src
        let c2 := c1.convPut x r e res.1.bits res.2
        let g := c2.conv
        let vals := if convDstRecord x.sub && e % 32 != 31 then src else []
        s.putCore site { c2 with
          conv := { g.onHead (fun y => { y with k := y.k + 1, vals := vals }) with
                    wptr := g.wptr + 1, flags := g.flags ||| res.1.flags.toNat } }

/-- The completion of a converter command (14 R342). -/
def State.convComplete (s : State) (site : Nat) : State :=
  match (s.core site).conv.running with
  | none => s
  | some x => if x.k < convTotal (wordsNum x.blk) then s else s.finishCmd site 2

/-- A converter instruction (14 R349, R350), its operands read; a resume without a recorded fault breaks R350 (log 17), and no operand
names a footprint block (log 84). -/
def State.issueConv (s : State) (site sub t1 t2 rm : Nat) (sat : Bool) (term : Nat) (he rs : Bool) (d a b : DWord) : SRes :=
  let c := s.core site
  if c.noPlace 2 false then .wait s .retry
  else
    match c.readBlock b.toInt 16 with
    | (c1, .error e) => .trap (s.putCore site c1) e
    | (c1, .ok blk) =>
      let s1 := s.putCore site c1
      let n := wordsNum blk
      if !descValid sub t1 t2 n || (rs && c.conv.fault.isNone) then .trap s1 ⟨cCONV_FORMAT, b⟩
      else
        let cols := convCols sub n
        let cmd : Cmd :=
          { id := c.cmdId, sub := sub, conv := true, dst := d, src := a,
            word2 := term * 16 + (if he then 4 else 0) + (if rs then 2 else 0), t1 := t1, t2 := t2, rm := rm, sat := sat,
            blk := blk, foot := [], owner := c.owner, vd := c.vdev, mode := c.mode, tvec := c.sp.tvec, tag := none,
            k := if rs then c.resumeAt 2 [cols, convRows sub n] (convTotal n) else 0,
            vals := [], begun := false, stage := .held, edges := [], credit := false, leave := false, moved := 0 }
        .done (s1.onCore site (fun x => x.enqueue 2 rs cmd))

end Sys2Proof.Machine
end

