-- ==== Sys2Proof/Machine/MatrixData.lean ====
section
/-! DEFINITION. The data of the matrix unit: operand descriptors (15 R368 to R370), exact block sums and their accumulation
(04 R114, R115), checksums (15 R380). -/

namespace Sys2Proof.Machine

/-- Fields of an operand descriptor, four 64-bit words (15 R368). -/
def mxBase (d : List Nat) : Nat := d.getD 0 0
def mxPitch (d : List Nat) : Nat := d.getD 1 0 / 2 ^ 32
def mxRecs (d : List Nat) : Nat := d.getD 1 0 / 2 ^ 16 % 2 ^ 16
def mxLen (d : List Nat) : Nat := d.getD 1 0 % 2 ^ 16
def mxLocal (d : List Nat) : Bool := (d.getD 2 0).testBit 11
def mxOr (d : List Nat) : Bool := (d.getD 2 0).testBit 10
def mxSc (d : List Nat) : Bool := (d.getD 2 0).testBit 9
def mxQ4 (d : List Nat) : Bool := (d.getD 2 0).testBit 6
def mxType (d : List Nat) : Nat := d.getD 2 0 % 16
def mxSig (d : List Nat) : Nat := d.getD 3 0

/-- A format as one number: type, Q4 and SC; 255 is none (15 R375). -/
def mxFmt (d : List Nat) : Nat := mxType d + (if mxQ4 d then 16 else 0) + (if mxSc d then 32 else 0)
def fmtQ4 (f : Nat) : Bool := f.testBit 4
def fmtSc (f : Nat) : Bool := f.testBit 5

/-- The width of a format's elements in bits, and K of the slot for it (15 R363). -/
def fmtWidth (f : Nat) : Nat := elemWidth (fmtQ4 f) (f % 16)
def fmtK (f : Nat) : Nat := if fmtQ4 f then 256 else if f % 16 < 12 then 64 else 128

/-- The bytes of a record (15 R369). -/
def mxRecBytes (d : List Nat) : Nat :=
  (if mxSc d then scaleBytes (mxLen d) else 0) + (mxLen d * fmtWidth (mxFmt d) + 7) / 8

/-- The formats that mload and mstream take (15 R369). -/
def mxOperandOk (d : List Nat) : Bool :=
  if mxQ4 d then mxType d == 0 && mxSc d
  else if mxType d = 8 ∨ mxType d = 9 then !mxSc d
  else decide (12 ≤ mxType d)

/-- The descriptor is valid (15 R369) for kind 0 mload, 1 mstream, 2 mstore. -/
def mxDescOk (kind row0 lastK : Nat) (d : List Nat) : Bool :=
  let w := d.getD 2 0
  w / 2 ^ 12 == 0 && w / 2 ^ 7 % 4 == 0 && w / 2 ^ 4 % 4 == 0 && mxBase d % 16 == 0 && mxPitch d % 16 == 0
    && (mxRecs d ≤ 1 || decide (mxRecBytes d ≤ mxPitch d))
    && (match kind with
        | 0 => mxOperandOk d && mxLen d == fmtK (mxFmt d) && mxRecs d == 64
        | 1 =>
          mxOperandOk d && decide (fmtWidth (mxFmt d) * mxLen d ≤ 2048) && mxLen d == lastK && decide (1 ≤ lastK)
            && decide (1 ≤ mxRecs d) && decide (row0 + mxRecs d ≤ 256)
        | _ =>
          (decide (8 ≤ mxType d) && decide (mxType d ≤ 10)) && !mxQ4 d && !mxSc d && mxLen d == 64
            && decide (1 ≤ mxRecs d) && decide (row0 + mxRecs d ≤ 256))

/-- The orientation that the use requires (15 R370). -/
def mxOrientOk (kind : Nat) (tr : Bool) (d : List Nat) : Bool :=
  match kind with
  | 0 => mxOr d != tr
  | 1 => mxOr d == tr
  | _ => !mxOr d

/-- w bits at bit position b of a list of bytes. -/
def bytesBits (m : Memory) (a b w : Nat) : Nat := memRead m (a + b / 8) ((b % 8 + w + 7) / 8) / 2 ^ (b % 8) % 2 ^ w

/-- Element k of a run of packed elements at a, with the scale byte of its block (04 R108 to R112). -/
def mxElem (m : Memory) (a f sb k : Nat) : FV :=
  let b := bytesBits m a (k * fmtWidth f) (fmtWidth f)
  if fmtQ4 f then nibbleValue (sb / 64) b else fp (BitVec.ofNat 4 (f % 16)) (BitVec.ofNat 64 b)

/-- A block of 32 elements with its scale: 63 for a NaN block, 32 for no scale byte (04 R108, R110). -/
structure MxBlock where
  elems : List FV
  scale : Nat
  deriving DecidableEq, Repr

/-- Block j of a run: elements from a, scale bytes from sc. -/
def mxBlock (m : Memory) (a sc f j : Nat) : MxBlock :=
  let sb := if fmtSc f then memRead m (sc + j) 1 else 32
  ⟨(List.range 32).map (fun i => mxElem m a f sb (32 * j + i)), sb % 64⟩

/-- A block sum: finite and exact, or a special value with its NV (04 R115). -/
inductive BSum where
  | fin (d : Dyadic)
  | special (v : FV) (nv : Bool)
  deriving DecidableEq, Repr

/-- A product of two elements, when it is not finite: an infinity, or 0 times infinity. -/
def prodInf (x y : FV) : Option (Option Bool) :=
  match x, y with
  | .inf a, .inf b => some (some (a != b))
  | .inf a, .fin b m _ => some (if m = 0 then none else some (a != b))
  | .fin b m _, .inf a => some (if m = 0 then none else some (a != b))
  | _, _ => none

/-- The block sum of 32 pairs (04 R114, R115), with NV when several reasons for a NaN hold at once as log 65 states. -/
def blockSum (a w : MxBlock) : BSum :=
  let ps := a.elems.zip w.elems
  let infs := ps.filterMap (fun p => prodInf p.1 p.2)
  let zeroInf := infs.contains none
  let both := infs.contains (some true) && infs.contains (some false)
  let nan := (a.elems ++ w.elems).any FV.isNaN
  let snan := (a.elems ++ w.elems).any FV.isSNaN
  if a.scale = 63 ∨ w.scale = 63 then .special (.nan false) false
  else if nan || zeroInf || both then .special (.nan false) (zeroInf || both || snan)
  else if infs.contains (some true) then .special (.inf true) false
  else if infs.contains (some false) then .special (.inf false) false
  else .fin (ps.foldl (fun s p => s.add (p.1.dyadic.mul p.2.dyadic)) ⟨0, 0⟩)

/-- A finite sum more (15 R381). -/
def BSum.plus (s : BSum) (d : Dyadic) : BSum :=
  match s with
  | .fin x => .fin (x.add d)
  | x => x

/-- BlockAccumulate (04 R114, R115): the new accumulator and its flags. -/
def accumulate (acc : Nat) (sa sw : Nat) (s : BSum) : FRes :=
  let f := fmtOf 10
  let v := fp 10 (BitVec.ofNat 64 acc)
  let nan : DWord := canonNaN f
  match s with
  | .special y nv =>
    if v.isNaN then ⟨nan, nvIf nv⟩
    else if y.isNaN then ⟨nan, nvIf nv⟩
    else
      let r := fpAddV f 0 v y
      ⟨r.bits, r.flags⟩
  | .fin d =>
    if v.isNaN then ⟨nan, 0⟩
    else if d.sig = 0 then ⟨BitVec.ofNat 64 acc, 0⟩
    else fpAddV f 0 v (.fin (decide (d.sig < 0)) d.sig.natAbs (d.exp + sa + sw - 64))

/-- A grid of block sums: row, column, value. -/
abbrev SumGrid := List (List BSum)

/-- Whether a dyadic is zero. -/
def Dyadic.isZero (d : Dyadic) : Bool := d.sig == 0

/-- The amount that the array's sums exceed the checksums by, over a list of sums (15 R380): the checksums are exact sums
of the same products, so the difference is that of the sums as formed and as they should be. -/
def excess (formed exact : List BSum) : Dyadic :=
  (formed.zip exact).foldl (fun d p =>
    match p with
    | (.fin x, .fin y) => d.add (x.add y.neg)
    | _ => d) ⟨0, 0⟩

/-- Column n of a grid. -/
def gridColumn (g : SumGrid) (n : Nat) : List BSum := g.map (fun r => r.getD n (.fin ⟨0, 0⟩))

/-- How the test of one block ends (15 R380): unchanged or excluded, corrected, or several mismatches. -/
inductive Tested where
  | pass (g : SumGrid)
  | corrected (g : SumGrid)
  | multi
  deriving DecidableEq, Repr

/-- The test of one block of a tile (15 R380). -/
def testBlock (formed exact : SumGrid) : Tested :=
  if exact.any (fun r => r.any (fun x => match x with
      | .special _ _ => true
      | .fin _ => false)) then .pass formed
  else
    let rows := (List.range exact.length).filter (fun m => !(excess (formed.getD m []) (exact.getD m [])).isZero)
    let cols := (List.range 64).filter (fun n => !(excess (gridColumn formed n) (gridColumn exact n)).isZero)
    match rows, cols with
    | [], [] => .pass formed
    | [m], [n] =>
      let d := excess (gridColumn formed n) (gridColumn exact n)
      .corrected (formed.zipIdx.map (fun r => if r.2 = m then r.1.zipIdx.map (fun x => if x.2 = n then x.1.plus d.neg else x.1) else r.1))
    | _, _ => .multi

/-- The sectors of n bytes from a. -/
def sectorsOf (a n : Nat) : List Nat := (List.range ((a + n - 1) / 64 - a / 64 + 1)).map (fun i => (a / 64 + i) * 64)

end Sys2Proof.Machine
end

