-- ==== Sys2Proof/Machine/Fence.lean ====
section
/-! DEFINITION. What a fence waits for: earlier work of its core by kind and by the homes of its bytes (13 R311, R312). -/

namespace Sys2Proof.Machine

/-- The least scope, counted from a core, that contains the home of a physical address (13 R311). -/
def homeScope (site pa : Nat) : Nat :=
  if pa < 2 ^ 40 then (if homeDie pa = siteDie site then 2 else 3) else if pa < 2 ^ 41 then 3 else 4

/-- A byte of n bytes from an address is homed within a scope; a byte without a translation has no home, and one whose walk must
wait counts as within it (log 82). -/
def State.homedWithin (s : State) (site scope a n : Nat) : Bool :=
  [a, a + n - 1].any (fun va =>
    match (s.translate site (va % 2 ^ 64)).2 with
    | .leaf e => decide (homeScope site (e.pa (va % 2 ^ 64)) ≤ scope)
    | .fault _ => false
    | _ => true)

/-- A copy or converter command touches a byte within a scope (13 R312): one of an element of its nest on a global side, any byte of local
memory, or one of the signal object that it decrements (14 R332). -/
def State.cmdWithin (s : State) (site scope : Nat) (x : Cmd) : Bool :=
  let b := wordsNum x.blk
  let ns := nestCounts b
  let side (glob : Bool) (a : DWord) (st : List Int) : Bool :=
    !glob || decide (2 ≤ scope) && (List.range (nestTotal b)).any (fun k =>
      s.homedWithin site scope ((((a.toNat : Int) + nestOffset (nestIndex ns k) st) % 2 ^ 64).toNat) (nestElem b))
  x.conv || (nestSig b && s.homedWithin site scope (nestSigVa b) 64) || nestTotal b != 0
    && (side (x.sub == 0 || x.sub == 3) x.src (nestSrc b) || side (x.sub == 1 || x.sub == 3) x.dst (nestDst b))

/-- A matrix command touches a byte within a scope: one of a sector of its records, or of the signal object that it decrements
(15 R365); mzero touches none. -/
def State.mxWithin (s : State) (site scope : Nat) (x : MxCmd) : Bool :=
  x.kind != 3 && (mxLocal x.desc || (mxSig x.desc != 0 && s.homedWithin site scope (mxSig x.desc) 64)
    || decide (2 ≤ scope) && (List.range (mxRecs x.desc)).any (fun m =>
    (sectorsOf (mxBase x.desc + mxPitch x.desc * m) (mxRecBytes x.desc)).any (fun a => s.homedWithin site scope a 64)))

/-- The commands of an engine that have neither completed nor stopped in a fault (13 R312). -/
def Engine.live (x : Engine) : List Cmd := if x.fault.isSome then x.queue.tail else x.queue

/-- Nothing remains that a fence of a kind and a scope waits for (13 R312). -/
def State.fenceMet (s : State) (site kind scope : Nat) : Bool :=
  let c := s.core site
  let takes (k : Nat) : Bool := kind == 0 || kind == k
  (!takes 1 || c.posted.all (fun p => decide (scope < homeScope site p.pa)))
    && (!takes 2 || ((c.eng0.live ++ c.eng1.live ++ c.conv.live).all (fun x => !s.cmdWithin site scope x)
      && (if c.mx.fault.isSome then c.mx.cmds.tail else c.mx.cmds).all (fun x => !s.mxWithin site scope x)))
    && (!takes 3 || (s.ords.all (fun p => p.2.site != site || p.2.seam || decide (scope < homeScope site p.2.pa))
      && s.lands.all (fun p => p.2.site != site || decide (scope < homeScope site p.2.pa))))

/-- fence (13 R312, 09 R219). -/
def State.bodyFence (s : State) (site kind scope : Nat) : SRes :=
  if (s.core site).computePhase ∧ 1 ≤ scope then .trap s ⟨cPHASE_GLOBAL, 0⟩
  else if s.fenceMet site kind scope then .done s
  else .wait s (.fence kind scope)

end Sys2Proof.Machine
end

