-- ==== Sys2Proof/Machine/Matrix.lean ====
section
/-! DEFINITION. The matrix queue of a core: issue checks, the arbiter, the units of work, faults and their report, saving
and restoring (15 R363 to R385). -/

namespace Sys2Proof.Machine

/-- The matrix queue of a core changed. -/
def Core.onMx (c : Core) (f : MxQueue → MxQueue) : Core := { c with mx := f c.mx }

/-- The head command of a queue changed. -/
def MxQueue.onHead (q : MxQueue) (f : MxCmd → MxCmd) : MxQueue :=
  match q.cmds with
  | [] => q
  | h :: t => { q with cmds := f h :: t }

/-- Fields of a captured command (15 R373): T, row0, j, BE, ZR, count. -/
def MxCmd.row0 (x : MxCmd) : Nat := x.word2 / 2 ^ 8 % 2 ^ 8
def MxCmd.count (x : MxCmd) : Nat := x.word2 / 2 ^ 16 % 2 ^ 9
def MxCmd.pair (x : MxCmd) : Nat := x.word2 / 2 ^ 16 % 4
def MxCmd.be (x : MxCmd) : Bool := x.word2.testBit 18
def MxCmd.zr (x : MxCmd) : Bool := x.word2.testBit 19
def MxCmd.term (x : MxCmd) : Nat := x.word2 / 2 ^ 4 % 16
def MxCmd.he (x : MxCmd) : Bool := x.word2.testBit 2

/-- The units or positions of a command: tiles, rows, or one (15 R366, R382). -/
def MxCmd.total (x : MxCmd) : Nat :=
  match x.kind with
  | 1 => (mxRecs x.desc + 63) / 64
  | 2 => mxRecs x.desc
  | _ => 1

/-- The draw class of a command (15 R365). -/
def MxCmd.cls (x : MxCmd) : Nat :=
  match x.kind with
  | 3 => 0
  | 1 => if !mxQ4 x.desc && mxType x.desc < 12 then 2 else 3
  | _ => 1

/-- The cause that a standing fault is reported with (15 R382). -/
def MxFault.report (f : MxFault) : Exc :=
  if f.cause = cABFT_MULTI ∨ f.cause = cBOUND_TRAP then ⟨f.cause, BitVec.ofNat 64 (f.row * 2 ^ 8 + f.sub)⟩
  else ⟨cCOPY_FAULT, BitVec.ofNat 64 (f.cause + 3 * 512)⟩

/-- A standing fault dropped with the faulted command and any later ones (15 R382); the K of the last mload that stays
(15 R369). -/
def MxQueue.discard (q : MxQueue) : MxQueue :=
  if q.fault.isSome then { q with cmds := [], fault := none, rep := false, lastK := q.doneK } else q

/-- The queue has no place for another command, or the footprint checker is full, a faulted command still among its eight (14 R332,
R348; log 101). -/
def Core.mxNoPlace (c : Core) (foot : Bool) : Bool :=
  (c.mx.fault.isNone && decide (4 ≤ c.mx.cmds.length)) || (foot && decide (8 ≤ c.kept.length))

/-- A command enters its queue (15 R382). -/
def Core.mxEnqueue (c : Core) (rs : Bool) (x : MxCmd) : Core :=
  let q := if rs then c.mx else c.mx.discard
  let q1 : MxQueue :=
    { q with
      cmds :=
        if rs then
          match q.cmds with
          | [] => [x]
          | old :: t => { x with id := old.id, edges := c.resumeEdges old.id x.edges } :: t
        else q.cmds ++ [x]
      fault := none
      rep := false
      lastK := if x.kind = 0 then mxLen x.desc else q.lastK }
  { c with mx := q1, cmdId := c.cmdId + 1 }

/-- mload, mstream and mstore (15 R374), their operands read: kind 0, 1, 2; a the descriptor, f the footprint. -/
def State.issueMx (s : State) (site kind : Nat) (tr : Bool) (rm word2 : Nat) (rs : Bool) (a f : DWord) : SRes :=
  let c := s.core site
  if c.mxNoPlace (f != 0) then .wait s .retry
  else if c.blockBusy a 32 || (f != 0 && c.blockBusy f 64) then .wait s .busy
  else
    match c.readBlock a.toInt 32 with
    | (c1, .error e) => .trap (s.putCore site c1) e
    | (c1, .ok desc) =>
      match (if f = 0 then (c1, .ok []) else c1.readBlock f.toInt 64) with
      | (c2, .error e) => .trap (s.putCore site c2) e
      | (c2, .ok foot) =>
        let s2 := s.putCore site c2
        let base := BitVec.ofNat 64 (mxBase desc)
        let row0 := word2 / 2 ^ 8 % 2 ^ 8
        if !mxLocal desc && c2.computePhase then .trap s2 ⟨cPHASE_GLOBAL, base⟩
        else if !mxLocal desc && c2.guarded && f == 0 then .trap s2 ⟨cRB_REFUSED, base⟩
        else if !mxDescOk kind row0 (if rs then c2.mx.lastK else c2.mx.discard.lastK) desc then .trap s2 ⟨cCONV_FORMAT, a⟩
        else if !mxOrientOk kind tr desc then .trap s2 ⟨cMX_ORIENT, a⟩
        else if f != 0 && !footValid foot then .trap s2 ⟨cFOOTPRINT_VIOLATION, f⟩
        else
          match (if c2.guarded then c2.addFoot foot (c2.sp.psw.getLsbD 5) else some c2) with
          | none => .trap s2 ⟨cFOOTPRINT_VIOLATION, f⟩
          | some c3 =>
            match (if mxSig desc = 0 then .ok s2 0 else s2.sigCheck site (mxSig desc)) with
            | .trap s3 e => .trap s3 e
            | .wait s3 => .wait s3 .stall
            | .ok s3 _ =>
              if rs && !c2.mx.fault.any (fun x => x.kind == kind) then .trap s3 ⟨cCONV_FORMAT, a⟩
              else
                let x : MxCmd :=
                  { id := c2.cmdId, kind := kind, desc := desc, foot := foot, word2 := word2, rm := rm, kdim := mxLen desc,
                    owner := c2.owner, vd := c2.vdev, mode := c2.mode, tvec := c2.sp.tvec,
                    pos := if rs then (c2.mx.fault.map (fun x => x.pos)).getD 0 else 0, stage := .held,
                    edges := c2.edgesOf foot, credit := false, leave := false, granted := false, moved := 0 }
                .done (s3.onCore site (fun y => ({ y with reads := c3.reads, writes := c3.writes } : Core).mxEnqueue rs x))

/-- mzero (15 R374, R377). -/
def State.issueMzero (s : State) (site word2 : Nat) (rs : Bool) : SRes :=
  let c := s.core site
  if c.mxNoPlace false then .wait s .retry
  else if rs then .trap s ⟨cCONV_FORMAT, 0⟩
  else
    let x : MxCmd :=
      { id := c.cmdId, kind := 3, desc := [], foot := [], word2 := word2, rm := 0, kdim := 0, owner := c.owner, vd := c.vdev,
        mode := c.mode, tvec := c.sp.tvec, pos := 0, stage := .held, edges := [], credit := false, leave := false,
        granted := false, moved := 0 }
    .done (s.onCore site (fun y => y.mxEnqueue false x))

/-- The tile fetch pins of a queue end (15 R372). -/
def State.unpinTile (s : State) (site : Nat) : State := { s with pins := s.pins.filter (fun p => p.kind != .tile site) }

/-- A command stopped (15 R382), and with it the pins and the sectors fetched for its unit (15 R372); in a protected gang a consumed
error stops the core for its rollback (09 R237). -/
def State.mxFail (s0 : State) (site : Nat) (f : MxFault) : State :=
  let s := (s0.unpinTile site).onCore site (fun c => c.onMx (fun q => { q with pocket := [] }))
  let c := s.core site
  if c.guarded && consumes f.cause then s.putCore site { c with run := .consumed, lost := f.cause }
  else
    (s.putCore site (c.onMx (fun q => { q.onHead (fun x => { x with pos := f.pos, stage := .held, granted := false }) with
      fault := some f, rep := false }))).returnLeave site 3

/-- A refusal by a home counted for the head command (15 R371, 10 R255). -/
def State.mxRefused (s : State) (site va pos kind : Nat) : State :=
  let s1 := s.dropPage site va
  let m := ((s1.core site).mx.cmds.head?.map (fun x => x.moved)).getD 0 + 1
  let s2 := s1.onCore site (fun c => (c.onMx (fun q => q.onHead (fun x => { x with moved := m }))).count 12 1)
  if 8 ≤ m then s2.mxFail site ⟨cMOVED_RETRY_LIMIT, BitVec.ofNat 64 va, pos, kind, 0, 0⟩ else s2

/-- A held head command takes the next steps toward running (15 R365): edges, credit, leave. -/
def State.mxStart (s : State) (site : Nat) : State :=
  let c := s.core site
  match c.mx.fault, c.mx.cmds with
  | none, h :: _ =>
    if c.run ≠ .running ∨ h.stage ≠ .held ∨ !c.edgesMet h.edges then s
    else
      match c.passCredit h.term h.id (h.he && !h.credit) with
      | .error c1 => s.putCore site c1
      | .ok c1 =>
        let s1 := s.putCore site (c1.onMx (fun q => q.onHead (fun x => { x with credit := true })))
        if !h.leave then s1.askLeave site 3 h.cls
        else s1.onCore site (fun c => c.onMx (fun q => q.onHead (fun x => { x with stage := .running })))
  | _, _ => s

/-- The weights of a cluster's queues (15 R367). -/
def State.mxWeight (s : State) (cluster j : Nat) : Nat :=
  let k := cluster % 128
  let w := k / 16
  let c := k % 16
  let quad := cluster / 128 * 4 + w / 4 * 2 + c / 8
  let v := tabGet s.mxWeights (quad * 32 + w % 4 * 8 + c % 8) 0x0101010101010101
  v.toNat / 2 ^ (8 * j) % 16

/-- A unit of an mload or mstream waits for a sector that is on its way to the fetch unit (15 R372, R383). -/
def State.mxArriving (s : State) (site : Nat) : Bool :=
  (s.core site).mx.fault.isNone && (s.core site).mx.cmds.head?.any (fun x => x.granted && decide (x.kind < 2))
    && s.reqs.any (fun p => p.2.who == .eng site 3)

/-- The core waits to save its queue: no unit starts, and the fetch unit asks for no further sector (15 R383). -/
def Core.mxClosing (c : Core) : Bool := c.wait == .save || c.wait == .ack

/-- The queue of a slot has a unit ready (15 R366); none starts while a save waits (15 R383). -/
def State.mxReady (s : State) (cluster j : Nat) : Bool :=
  let site := clusterSite cluster j
  let c := s.core site
  s.works site && c.run == .running && !c.mxClosing && c.mx.fault.isNone
    && (match c.mx.cmds with
        | [] => false
        | h :: _ => h.stage == .running && !h.granted)

/-- The arbiter's choice: the first ready queue with credit after the last one served (15 R366). -/
def State.mxChoose (s : State) (cluster : Nat) (a : Arbiter) : Option Nat :=
  ((List.range 8).map (fun i => (a.last + 1 + i) % 8)).find? (fun j => s.mxReady cluster j && decide (0 < a.credits.getD j 0))

/-- A grant of the array of a cluster (15 R365, R366). -/
def State.mxGrant (s : State) (cluster : Nat) : State :=
  let s1 := (List.range 8).foldl (fun s j => s.mxStart (clusterSite cluster j)) s
  let busy := (List.range 8).any (fun j => ((s1.core (clusterSite cluster j)).mx.cmds.head?).any (fun x => x.granted))
  let a := tabGet s1.arbiters cluster ⟨List.replicate 8 1, 7⟩
  let a' : Arbiter := { a with credits := (List.range 8).map (s1.mxWeight cluster) }
  let give (a : Arbiter) (j : Nat) : State :=
    let s2 : State :=
      { s1 with arbiters := tabSet s1.arbiters cluster ⟨a.credits.set j (a.credits.getD j 0 - 1), j⟩ }
    s2.onCore (clusterSite cluster j) (fun c =>
      (c.onMx (fun q => q.onHead (fun x => { x with granted := true }))).count 15 1)
  if busy then s1
  else
    match s1.mxChoose cluster a with
    | some j => give a j
    | none =>
      match s1.mxChoose cluster a' with
      | some j => give a' j
      | none => s1

/-- What a unit of work has of its operands, or how its access to them stops. -/
inductive Fetched (α : Type) where
  | ok (s : State) (a : α)
  | fail (s : State) (e : Exc)
  | moved (s : State) (va : Nat)
  | wait (s : State)

/-- One step of a unit's accesses after another. -/
def Fetched.andThen {α β : Type} (r : Fetched α) (f : State → α → Fetched β) : Fetched β :=
  match r with
  | .ok s a => f s a
  | .fail s e => .fail s e
  | .moved s va => .moved s va
  | .wait s => .wait s

/-- One sector of an operand read, and pinned when it comes from a home (15 R371, R372). -/
def State.fetchSector (s : State) (site : Nat) (x : MxCmd) (va : Nat) : Fetched (List Byte) :=
  let c := s.core site
  if mxLocal x.desc then
    match c.elemLocal va 64 false with
    | (c1, some e) => .fail (s.putCore site c1) e
    | (c1, none) =>
      if footCovers x.foot true false va 64 then .ok (s.putCore site c1) (memBytes c1.loc va 64)
      else .fail (s.putCore site c1) ⟨cFOOTPRINT_VIOLATION, BitVec.ofNat 64 va⟩
  else
    let side : Side := ⟨va, 64, .load, [rR]⟩
    match s.checkSides site 3 x.mode x.owner x.vd x.foot [(false, false, va, 64)] [side] with
    | .fail s1 e => .fail s1 e
    | .moved s1 v => .moved s1 v
    | .wait s1 => .wait s1
    | .ok s1 es =>
      match es with
      | [] => .wait s1
      | (_, t) :: _ =>
        let agent := agentTfu (sitePkgCluster site)
        match s1.performC ({ side.access site x.mode x.owner x.vd with eng := 3 }) (pteKey t.pte) (t.pa va) agent with
        | .ok s2 v => .ok { s2 with pins := s2.pins ++ [⟨t.pa va / 64, agent, .tile site⟩] } ((List.range 64).map (fun i => BitVec.ofNat 8 (v / 256 ^ i)))
        | .trap s2 e => .fail s2 e
        | .wait s2 => .wait s2
        | .device s2 _ => .wait s2

/-- The fetch unit keeps what it has read for the unit of work that waits (15 R372). -/
def State.keepFetched (s : State) (site : Nat) (got : List Byte) : State :=
  s.onCore site (fun c => c.onMx (fun q => { q with pocket := got }))

/-- Sectors read one after another, behind those already read; they are kept when one must wait. -/
def State.fetchSectors (s : State) (site : Nat) (x : MxCmd) (got : List Byte) : List Nat → Fetched (List Byte)
  | [] => .ok s got
  | va :: t =>
    match s.fetchSector site x va with
    | .ok s1 y => s1.fetchSectors site x (got ++ y) t
    | .fail s1 e => .fail s1 e
    | .moved s1 v => .moved (s1.keepFetched site got) v
    | .wait s1 => .wait (s1.keepFetched site got)

/-- The address of a record. -/
def mxRecAt (d : List Nat) (m : Nat) : Nat := mxBase d + m * mxPitch d

/-- The order in which the fetch unit reads the sectors of a unit of work, by its first record: none that is fixed (15 R372; log 83),
and the same one before and after a save (15 R384). -/
def fetchOrder (base pos : Nat) : Nat → List Nat → List Nat
  | 0, vas => vas
  | _ + 1, [] => []
  | _ + 1, [va] => [va]
  | n + 1, va :: t =>
    let i := Config.fetchOrder base pos n % (t.length + 1)
    (va :: t).getD i va :: fetchOrder base pos n ((va :: t).eraseIdx i)

/-- Sectors of 64 bytes placed at their addresses. -/
def placeSectors (m : Memory) (bytes : List Byte) : List Nat → Memory
  | [] => m
  | va :: t => placeSectors (memCopy (memPut [] va (bytes.take 64)) va m va 64) (bytes.drop 64) t

/-- The first record of the next unit of a command, and the number of its records (15 R366, R376). -/
def MxCmd.unitRecs (x : MxCmd) : Nat × Nat :=
  if x.kind = 0 then (0, 64) else (64 * x.pos, min 64 (mxRecs x.desc - 64 * x.pos))

/-- The sectors of the records of a command's next unit, in the order in which they are read. -/
def MxCmd.order (x : MxCmd) : List Nat :=
  let m0 := x.unitRecs.1
  let vas := ((List.range x.unitRecs.2).flatMap (fun i => sectorsOf (mxRecAt x.desc (m0 + i)) (mxRecBytes x.desc))).eraseDups
  fetchOrder (mxBase x.desc) m0 vas.length vas

/-- The sectors read for a unit, each at its address. -/
def MxCmd.placed (x : MxCmd) (bytes : List Byte) : Memory := placeSectors [] bytes x.order

/-- The records of the next unit fetched: sectors that the queue has already read stay as they were read, and the pins end with the last
one, since nothing is read again (15 R372, R384).  While the core waits to save the queue, a sector on its way is still read, and no
other (15 R383). -/
def State.fetchRecords (s : State) (site : Nat) (x : MxCmd) : Fetched (List Byte) :=
  let got := (s.core site).mx.pocket.take (64 * x.order.length)
  let left := x.order.drop (got.length / 64)
  let now := if (s.core site).mxClosing then (if s.mxArriving site then left.take 1 else []) else left
  (s.fetchSectors site x got now).andThen fun s1 bytes =>
    if now.length < left.length then .wait (s1.keepFetched site bytes) else .ok (s1.unpinTile site) bytes

/-- A unit's access that did not succeed. -/
def State.mxStop {α : Type} (s : State) (site : Nat) (x : MxCmd) (r : Fetched α) : State :=
  match r with
  | .ok _ _ => s
  | .fail s1 e => s1.mxFail site ⟨e.cause, e.eval, x.pos, x.kind, 0, 0⟩
  | .moved s1 va => s1.mxRefused site va x.pos x.kind
  | .wait s1 => s1

/-- The head command of a queue whose next unit the arbiter granted. -/
def MxQueue.granted (q : MxQueue) (kinds : List Nat) : Option MxCmd :=
  match q.fault, q.cmds with
  | none, h :: _ => if h.granted && h.stage == .running && kinds.contains h.kind then some h else none
  | _, _ => none

/-- A unit ends: what was fetched for it is used, the position moves on, and the last one leaves the completion to do (15 R365). -/
def MxQueue.unitDone (q : MxQueue) (pos : Nat) : MxQueue :=
  ({ q with pocket := [] } : MxQueue).onHead (fun x =>
    { x with pos := pos, granted := false, moved := 0, stage := if x.total ≤ pos then .finishing else x.stage })

/-- The place of a column in the weight slot, and of its scales (15 R375; log 20). -/
def slotAt (n : Nat) : Nat := 128 * n
def slotScale (n : Nat) : Nat := 8 * n

/-- The unit of an mload has its records (15 R375); they enter the slot when the command completes, since the slot keeps what it has
until then (15 R375, R382). -/
def State.mxLoad (s : State) (site : Nat) : State :=
  match (s.core site).mx.granted [0] with
  | none => s
  | some x =>
    match s.fetchRecords site x with
    | .ok s1 bytes => s1.onCore site (fun c => c.onMx (fun q => { q.unitDone 1 with pocket := bytes }))
    | r => s.mxStop site x r

/-- The head of a queue has completed (15 R365, R369): an mload latches the slot, its scales, the format and K from what was fetched
(15 R375). -/
def MxQueue.completed (q : MxQueue) (x : MxCmd) : MxQueue :=
  let d := x.desc
  let m := x.placed q.pocket
  let f := mxFmt d
  let n := (mxLen d * fmtWidth f + 7) / 8
  let off := if mxSc d then scaleBytes (mxLen d) else 0
  let q1 := { q with cmds := q.cmds.tail, pocket := [] }
  if x.kind ≠ 0 then q1
  else
    { q1 with
      slot := (List.range 64).foldl (fun t i => memCopy m (mxRecAt d i + off) t (slotAt i) n) []
      scales :=
        if mxSc d then (List.range 64).foldl (fun t i => memCopy m (mxRecAt d i) t (slotScale i) (mxLen d / 32)) [] else []
      fmt := f
      kdim := mxLen d
      doneK := mxLen d }

/-- A bank value (15 R363). -/
def MxQueue.bankAt (q : MxQueue) (i n : Nat) : Nat := tabGet q.bank (64 * i + n) 0
def MxQueue.setBank (q : MxQueue) (i n v : Nat) : MxQueue :=
  { q with bank := if v = 0 then tabDel q.bank (64 * i + n) else tabSet q.bank (64 * i + n) v }

/-- The injections of a tile applied to the sums of block b (15 R381). -/
def inject (inj : List Inject) (b : Nat) (g : SumGrid) : SumGrid :=
  inj.foldl (fun g i =>
    if i.blk = b then
      g.zipIdx.map (fun r => if r.2 = i.row then r.1.zipIdx.map (fun x => if x.2 = i.col then x.1.plus ⟨1, (i.p : Int) - 32⟩ else x.1)
                             else r.1)
    else g) g

/-- The blocks of a tile tested in ascending order (15 R380): the sums to apply and the corrections, or the first block
that fails. -/
def testBlocks (inj : List Inject) : Nat → List SumGrid → Except Nat (List SumGrid × Nat)
  | _, [] => .ok ([], 0)
  | b, g :: t =>
    match testBlock (inject inj b g) g with
    | .multi => .error b
    | .pass g1 => (testBlocks inj (b + 1) t).map (fun r => (g1 :: r.1, r.2))
    | .corrected g1 => (testBlocks inj (b + 1) t).map (fun r => (g1 :: r.1, r.2 + 1))

/-- One bank element accumulated over the blocks in ascending K (15 R376). -/
def accumulateAll (sa sw : Nat → Nat) : Nat → List BSum → Nat → Flags → Nat × Flags
  | _, [], acc, fl => (acc, fl)
  | b, x :: t, acc, fl =>
    let r := accumulate acc (sa b) (sw b) x
    accumulateAll sa sw (b + 1) t r.bits.toNat (fl ||| r.flags)

/-- One tile of a stream applied to the bank (15 R376, R380, R381). -/
def State.mxTile (s : State) (site : Nat) : State :=
  match (s.core site).mx.granted [1] with
  | none => s
  | some x =>
    let d := x.desc
    let q0 := (s.core site).mx
    if q0.fmt = 255 ∨ q0.kdim ≠ x.kdim then s.mxFail site ⟨cCONV_FORMAT, 0, x.pos, 1, 0, 0⟩
    else if x.total ≤ x.pos then s.onCore site (fun c => c.onMx (fun q => q.unitDone x.pos))
    else
      let m0 := 64 * x.pos
      let rows := min 64 (mxRecs d - m0)
      match s.fetchRecords site x with
      | .ok s1 bytes =>
        let m := x.placed bytes
        let f := mxFmt d
        let off := if mxSc d then scaleBytes (mxLen d) else 0
        let nb := q0.kdim / 32
        let a (i b : Nat) : MxBlock := mxBlock m (mxRecAt d (m0 + i) + off) (mxRecAt d (m0 + i)) f b
        let w (n b : Nat) : MxBlock :=
          let sb := if fmtSc q0.fmt then memRead q0.scales (slotScale n + b) 1 else 32
          ⟨(List.range 32).map (fun k => mxElem q0.slot (slotAt n) q0.fmt sb (32 * b + k)), sb % 64⟩
        let sums : List SumGrid :=
          (List.range nb).map (fun b => (List.range rows).map (fun i => (List.range 64).map (fun n => blockSum (a i b) (w n b))))
        let clear (q : MxQueue) : MxQueue := { q with inj := [] }
        match testBlocks q0.inj 0 sums with
        | .error b =>
          ((s1.onCore site (fun c => c.onMx clear)).logFor (siteDie site) site ⟨1, 8, cABFT_MULTI, 0⟩).mxFail site ⟨cABFT_MULTI, 0, x.pos, 1, x.row0 + m0, b⟩
        | .ok (gs, corr) =>
          let cell (q : MxQueue) (p : Nat × Nat) : MxQueue :=
            let r := accumulateAll (fun b => (a p.1 b).scale) (fun b => (w p.2 b).scale) 0
              (gs.map (fun g => (g.getD p.1 []).getD p.2 (.fin ⟨0, 0⟩))) (q.bankAt (x.row0 + m0 + p.1) p.2)
              (BitVec.ofNat 5 q.flags)
            { q.setBank (x.row0 + m0 + p.1) p.2 r.1 with flags := r.2.toNat }
          let cells := (List.range rows).flatMap (fun i => (List.range 64).map (fun n => (i, n)))
          let s2 := s1.onCore site (fun c => c.onMx (fun q =>
            ({ cells.foldl cell (clear q) with corr := (q.corr + corr) % 2 ^ 32 } : MxQueue).unitDone (x.pos + 1)))
          (List.range corr).foldl (fun s _ => s.logFor (siteDie (site)) (site) ⟨0, 8, 0, 0⟩) s2
      | r => s.mxStop site x r

/-- A bound check of one value (15 R378): the pair after it, and the value to store, or none for a trap. -/
def Bound.check (b : Bound) (v : Nat) : Bound × Option Nat :=
  let x := fp 10 (BitVec.ofNat 64 v)
  let lo := fp 10 (BitVec.ofNat 64 b.lo)
  let hi := fp 10 (BitVec.ofNat 64 b.hi)
  let low := !lo.isNaN && !x.isNaN && x.lt lo
  let high := !hi.isNaN && !x.isNaN && hi.lt x
  if b.act = 0 ∨ !(x.isNaN || low || high) then (b, some v)
  else
    let b' := { b with st := true, cnt := min (b.cnt + 1) (2 ^ 32 - 1) }
    match b.act with
    | 1 => (b', some v)
    | 2 => (b', some (if x.isNaN || low then b.lo else b.hi))
    | _ => (b', none)

/-- A row checked column by column (15 R378): the pair after it and the values, or the column that traps. -/
def boundRow (b : Bound) : Nat → List Nat → Bound × Except Nat (List Nat)
  | _, [] => (b, .ok [])
  | n, v :: t =>
    match b.check v with
    | (b1, none) => (b1, .error n)
    | (b1, some y) =>
      match boundRow b1 (n + 1) t with
      | (b2, .ok ys) => (b2, .ok (y :: ys))
      | (b2, .error k) => (b2, .error k)

/-- The bytes of a row as packed elements of n bytes. -/
def packRow (n : Nat) : List Nat → List Byte
  | [] => []
  | v :: t => (List.range n).map (fun i => BitVec.ofNat 8 (v / 256 ^ i)) ++ packRow n t

/-- The number of a list of bytes, little-endian. -/
def bytesNum : List Byte → Nat
  | [] => 0
  | b :: t => b.toNat + 256 * bytesNum t

/-- The parts of n bytes from a, by sector: address and length. -/
def partsOf (a n : Nat) : List (Nat × Nat) :=
  (sectorsOf a n).map (fun k => (max a k, min (a + n) (k + 64) - max a k))

/-- Where a part of a row goes, once its checks have passed: local memory, or a page with its home or the fetch unit as the agent that
writes. -/
structure RowPart where
  va : Nat
  n : Nat
  v : Nat
  /-- none: local memory; else the key slot, the physical address, and whether the home applies the write -/
  dest : Option (Nat × Nat × Bool)
  deriving DecidableEq, Repr

/-- The checks of one part of a row (15 R371), and its tokens. -/
def State.readyPart (s : State) (site : Nat) (x : MxCmd) (a n v : Nat) : Fetched RowPart :=
  let c := s.core site
  let k := a / 64 * 64
  if mxLocal x.desc then
    match c.elemLocal k 64 true with
    | (c1, some e) => .fail (s.putCore site c1) e
    | (c1, none) =>
      if footCovers x.foot true true a n then .ok (s.putCore site c1) ⟨a, n, v, none⟩
      else .fail (s.putCore site c1) ⟨cFOOTPRINT_VIOLATION, BitVec.ofNat 64 a⟩
  else
    match s.checkSides site 3 x.mode x.owner x.vd x.foot [(false, true, a, n)] [⟨k, 64, .store 0, [rW]⟩] with
    | .fail s1 e => .fail s1 e
    | .moved s1 va => .moved s1 va
    | .wait s1 => .wait s1
    | .ok s1 es =>
      match es with
      | [] => .wait s1
      | (_, t) :: _ =>
        let pa := t.pa a
        let home := pteType t.pte == 1
        match s1.obtain (pteKey t.pte) pa (if home then agentHome (homeDie pa) else agentTfu (sitePkgCluster site)) true (.eng site 3) with
        | .ok s2 _ => .ok s2 ⟨a, n, v, some (pteKey t.pte, pa, home)⟩
        | .wait s2 => .wait s2
        | .trap s2 e => .fail s2 e

/-- The parts of a row checked one after another. -/
def State.readyParts (s : State) (site : Nat) (x : MxCmd) (a : Nat) (bytes : List Byte) : List (Nat × Nat) → Fetched (List RowPart)
  | [] => .ok s []
  | (p, n) :: t =>
    (s.readyPart site x p n (bytesNum ((bytes.drop (p - a)).take n))).andThen fun s1 w =>
      (s1.readyParts site x a bytes t).andThen fun s2 ws => .ok s2 (w :: ws)

/-- One part of a row written. -/
def State.writePart (s : State) (site : Nat) (w : RowPart) : State :=
  match w.dest with
  | none => s.onCore site (fun c => c.pokeLocal w.va w.n w.v)
  | some (key, pa, true) => (s.homeWrite key pa w.n w.v).healed (pa / 64) w.n
  | some (key, pa, false) => (s.writePa key pa w.n w.v).healed (pa / 64) w.n

/-- A row written, every part of it or none (15 R378, R382). -/
def State.storeParts (s : State) (site : Nat) (x : MxCmd) (a : Nat) (bytes : List Byte) (ps : List (Nat × Nat)) : Fetched Nat :=
  (s.readyParts site x a bytes ps).andThen fun s1 ws => .ok (ws.foldl (fun s w => s.writePart site w) s1) 0

/-- Rows from m on, n of them at most (15 R378). -/
def State.mxRows (s : State) (site : Nat) (x : MxCmd) (m : Nat) : Nat → State
  | 0 => s.onCore site (fun c => c.onMx (fun q => q.unitDone m))
  | n + 1 =>
    let q := (s.core site).mx
    let i := x.row0 + m
    let b := q.bounds.getD x.pair Bound.reset
    let vals := (List.range 64).map (q.bankAt i)
    let setPair (b1 : Bound) (q : MxQueue) : MxQueue := { q with bounds := q.bounds.set x.pair b1 }
    match (if x.be then boundRow b 0 vals else (b, .ok vals)) with
    | (b1, .error k) => (s.onCore site (fun c => c.onMx (setPair b1))).mxFail site ⟨cBOUND_TRAP, 0, m, 2, i, k⟩
    | (b1, .ok ys) =>
      let t : BitVec 4 := BitVec.ofNat 4 (mxType x.desc)
      let rs := ys.map (fun v => fpToFp (fmtOf t) (BitVec.ofNat 3 x.rm) false (fp 10 (BitVec.ofNat 64 v)))
      let fl := rs.foldl (fun f r => f ||| r.flags) (BitVec.ofNat 5 q.flags)
      let bytes := packRow (fmtWidth (mxType x.desc) / 8) (rs.map (fun r => r.bits.toNat))
      let a := mxRecAt x.desc m
      match s.storeParts site x a bytes (partsOf a bytes.length) with
      | .ok s1 _ =>
        (s1.onCore site (fun c => c.onMx (fun q =>
          let q1 := { setPair b1 q with flags := fl.toNat }
          let q2 := if x.zr then (List.range 64).foldl (fun q n => q.setBank i n 0) q1 else q1
          q2.onHead (fun y => { y with pos := m + 1, moved := 0 })))).mxRows site x (m + 1) n
      | .fail s1 e =>
        (s1.onCore site (fun c => c.onMx (setPair b1))).mxFail site ⟨e.cause, e.eval, m, 2, 0, 0⟩
      | r => s.mxStop site { x with pos := m } r

/-- mstore writes bank rows, and mzero clears them (15 R377, R378). -/
def State.mxStore (s : State) (site : Nat) : State :=
  match (s.core site).mx.granted [2, 3] with
  | none => s
  | some x =>
    if x.kind = 3 then
      s.onCore site (fun c => c.onMx (fun q =>
        ((List.range (64 * x.count)).foldl (fun q i => q.setBank (x.row0 + i / 64) (i % 64) 0) q).unitDone 1))
    else s.mxRows site x x.pos (x.total - x.pos)

/-- The completion of a matrix command (15 R365). -/
def State.mxComplete (s : State) (site : Nat) : State :=
  match (s.core site).mx.fault, (s.core site).mx.cmds with
  | none, x :: _ =>
    if x.stage ≠ .finishing then s
    else
      let finish (s : State) : State :=
        (s.onCore site (fun c => (c.onMx (fun q => q.completed x)).pulse 4 0)).returnLeave site 3
      if x.kind = 3 ∨ mxSig x.desc = 0 then finish s
      else
        match s.sigdec (s.cmdAgent site 3 x.mode x.owner x.vd x.tvec) (mxSig x.desc) 1 with
        | .ok s1 _ => finish s1
        | .wait s1 => s1
        | .trap s1 e => s1.mxFail site ⟨e.cause, e.eval, if x.kind = 0 then 0 else x.total, x.kind, 0, 0⟩
  | _, _ => s

/-- The fields that mstat reads (15 R385). -/
def MxQueue.field (q : MxQueue) (sel : Nat) : Nat :=
  let st :=
    if q.fault.isSome then 2
    else
      match q.cmds with
      | [] => 0
      | h :: _ => if h.stage = .held then 3 else 1
  match sel with
  | 0 =>
    q.cmds.length * 2 ^ 21 + st * 2 ^ 19 + q.flags * 2 ^ 10 + (if q.rep then 512 else 0) + (q.fault.map (fun f => f.cause)).getD 0
  | 1 => q.corr
  | 2 => (q.fault.map (fun f => f.addr.toNat)).getD 0
  | 3 => (q.fault.map (fun f => f.pos % 2 ^ 16 + f.kind * 2 ^ 16)).getD 0
  | _ => q.inj.length + q.injDrop * 2 ^ 8

/-- mstat (15 R385). -/
def State.bodyMstat (s : State) (site : Nat) (d : GOp) (sel : Nat) : SRes :=
  let q := (s.core site).mx
  if sel < 8 then .done (s.result site d (BitVec.ofNat 64 (q.field sel)))
  else
    match q.fault with
    | some f => .trap (s.onCore site (fun c => c.onMx (fun q => { q with rep := true }))) f.report
    | none => if q.cmds.isEmpty then .done (s.result site d (BitVec.ofNat 64 (q.field (sel - 8)))) else .wait s (.mstat d sel)

/-- minj (15 R381). -/
def bodyMinj (row col blk p : Nat) (c : Core) : CoreRes :=
  .done (c.onMx (fun q =>
    if q.inj.length < 4 then { q with inj := q.inj ++ [⟨row, col, blk, p⟩] } else { q with injDrop := min (q.injDrop + 1) 255 }))

/-- An mstore issued earlier has neither completed nor faulted (15 R379). -/
def MxQueue.storing (q : MxQueue) : Bool :=
  (if q.fault.isSome then q.cmds.tail else q.cmds).any (fun x => x.kind == 2)

/-- bndset (15 R379). -/
def State.bodyBndset (s : State) (site j act : Nat) (v : DWord) : SRes :=
  if (s.core site).mx.storing then .wait s .busy
  else
    .done (s.onCore site (fun c => c.onMx (fun q =>
      { q with bounds := q.bounds.set j ⟨v.toNat % 2 ^ 32, v.toNat / 2 ^ 32, act, false, 0⟩ })))

/-- The status word of a pair (15 R379). -/
def Bound.status (b : Bound) : Nat := (if b.st then 2 ^ 63 else 0) + b.act * 2 ^ 32 + b.cnt

/-- bndread (15 R379). -/
def State.bodyBndread (s : State) (site : Nat) (d : GOp) (sel : Nat) : SRes :=
  let q := (s.core site).mx
  if q.storing then .wait s .busy
  else
    let b := q.bounds.getD (sel % 4) Bound.reset
    .done (s.result site d (BitVec.ofNat 64 (if sel < 4 then b.hi * 2 ^ 32 + b.lo else b.status)))

/-- The queue as a dispatch leaves it (15 R364). -/
def MxQueue.dispatched (q : MxQueue) (vd : Nat) : MxQueue :=
  let q1 : MxQueue :=
    { q with
      flags := 0, corr := 0, fault := none, rep := false, inj := [], injDrop := 0, bounds := List.replicate 4 Bound.reset,
      pocket := [], lastK := 0, doneK := 0, vd := vd }
  if q.vd = vd then q1 else { q1 with slot := [], scales := [], bank := [], fmt := 255, kdim := 0 }

end Sys2Proof.Machine
end

