-- ==== Sys2Proof/Machine/Threads.lean ====
section
/-! DEFINITION. Threads on their cores: suspending, ending, dispatch (08 R181 to R194, 17 R435). -/

namespace Sys2Proof.Machine

/-- Engine commands of the core are not complete, a stopped one apart (14 R334, 08 R192). -/
def Core.commanding (c : Core) : Bool :=
  !(c.eng0.live.isEmpty && c.eng1.live.isEmpty && c.conv.live.isEmpty
    && (if c.mx.fault.isSome then c.mx.cmds.tail else c.mx.cmds).isEmpty)

/-- The thread of a core may suspend (08 R181, 14 R334); quiet: no shadow is open. -/
def State.maySuspend (s : State) (site : Nat) (quiet : Bool) : Bool :=
  let c := s.core site
  !s.bound site && c.ds == .none && quiet && c.held.isEmpty && c.rep.isNone && c.pendingIds.isEmpty && c.sp.thr != 0

/-- A suspending thread waits until every record of an ordered operation has landed (13 R320), and until every posted store has performed:
no core that resumes it could order a load behind one, or its end before one (13 R310, R313; log 92). -/
def Core.unperformed (c : Core) : Bool := !c.ordPend.isEmpty || !c.posted.isEmpty

/-- The pieces of a frame: virtual address and local address of each 64 bytes. -/
def framePieces (frame wp u : Nat) : List (Nat × Nat) := (List.range u).map (fun i => (frame + 64 * i, wp + 64 * i))

/-- Sectors held before they are written whole, as far as no fault meets them; a fault of a sector ends the thread's instruction where
all its accesses are checked before the first performs (08 R192), but for an error of its data, which the write replaces. -/
def State.holdPieces (s : State) (g : Agent) (strict : Bool) : List Nat → Acc Nat
  | [] => .ok s 0
  | va :: t =>
    match s.objDo g va 64 .load [rW] true with
    | .wait s1 => .wait s1
    | .trap s1 e => 
      if !strict then .ok s1 0 else if e.cause = cUNCORRECTABLE then s1.holdPieces g strict t else .trap s1 e
    | .ok s1 _ => s1.holdPieces g strict t

/-- The workspace written to the frame (08 R189, R192). -/
def State.storePieces (s : State) (g : Agent) (site : Nat) : List (Nat × Nat) → Acc Nat
  | [] => .ok s 0
  | (va, a) :: t =>
    (s.objStore g va 64 (memRead (s.core site).loc a 64)).andThen fun s1 _ => s1.storePieces g site t

/-- The agent of a thread's frame: the owner that its record holds, in the mode of its continuation (08 R190). -/
def State.frameAgent (s : State) (site owner : Nat) : Agent :=
  let c := s.core site
  { site := site, mode := if contSm c.cont.word.toNat then 1 else 0, owner := owner, vd := c.vdev, tvec := c.sp.tvec, tag := c.tag,
    slot := true }

/-- The resume word of a thread record (08 R184), +40. -/
def resumeWord (c : Core) (kind rpc : Nat) : Nat :=
  let f := c.sp.fcsr.toNat
  2 ^ 63 + kind % 4 * 2 ^ 42 + f / 2 ^ 16 % 8 * 2 ^ 39 + f / 2 ^ 8 % 32 * 2 ^ 34 + f % 32 * 2 ^ 29
    + c.sp.wsz.toNat % 2 ^ 11 * 2 ^ 18 + rpc % 2 ^ 18

/-- The core without a thread (08 R192): pins released, nothing more issues. -/
def State.vacate (s : State) (site : Nat) : State :=
  { (s.unstitch site).onCore site (fun c => { c with run := .idle, wait := .none, rep := none }) with
    pins := s.pins.filter (fun p => p.kind != .foot site) }

/-- The thread of a core suspended (08 R189): the frame, then the record.  kind 0 is yield, 1 chsend, 2 chrecv, 3 sigwait;
obj is the object, and rpc the resume PC.  A fault is raised at the instruction with the words before it written (08 R190);
the sectors are held first, so that a wait comes before the first write. -/
def State.suspend (s : State) (site kind obj rpc : Nat) : Acc Nat :=
  let c := s.core site
  let dev := Agent.device site c.vdev
  let a := handleRec c.sp.thr.toNat
  let ps := framePieces c.cont.frame.toNat c.frameAt (contUnits c.cont.word.toNat)
  (s.objHold dev a 64).andThen fun s1 r =>
  let w := r % 2 ^ 64
  let g := s1.frameAgent site (recOwner w)
  (s1.holdPieces g false (ps.map (fun p => p.1))).andThen fun s2 _ =>
  (s2.storePieces g site ps).andThen fun s3 _ =>
  (s3.objStores dev (a + 40) [resumeWord c kind rpc, c.sp.ix.toNat, obj]).andThen fun s4 _ =>
  (s4.objStore dev a 8 (recWith w (if kind = 0 then 1 else 3))).andThen fun s5 _ => .ok (s5.vacate site) 0

/-- yield (08 R193). -/
def State.bodyYield (s : State) (site : Nat) : SRes :=
  let c := s.core site
  let cls := contPri c.cont.word.toNat % 4
  if !s.maySuspend site c.shadows.isEmpty || s.qFull c.vdev cls then .done s
  else if c.unperformed then .wait s .busy
  else
    (s.suspend site 0 0 (c.pc.toNat + 12)).finish fun s1 _ => .done (s1.qPush c.vdev cls c.sp.thr.toNat)

/-- A standing fault of the core's engines or matrix queue that end reports, marked as reported (08 R192, 14 R340,
15 R382). -/
def Core.endFault (c : Core) : Option (Core × Exc) :=
  match c.engFault 3 with
  | some (e, x) => some (c.report e, x)
  | none => c.mx.fault.map (fun f => ({ c with mx := { c.mx with rep := true } }, f.report))

/-- The records that remain of an exchange phase (09 R229): the cause that they raise, and the core without them. -/
def Core.exchReport (c : Core) : Option (Core × Exc) :=
  let x := c.exch
  match (x.collide.map (fun r => r.1)).min? with
  | some k =>
    some ({ c with exch := { x with
        collide := [], arms := x.arms.filter (fun a => a.filled || !a.passed || !x.collide.contains (a.cyc, some a.src)) } },
      ⟨cEXCH_COLLIDE, BitVec.ofNat 64 k⟩)
  | none =>
    match (x.unmatched ++ (x.arms.filter (fun a => !a.filled && a.passed)).map (fun a => a.cyc)).min? with
    | some k =>
      some ({ c with exch := { x with unmatched := [], arms := x.arms.filter (fun a => a.filled || !a.passed) } },
        ⟨cEXCH_MISMATCH, BitVec.ofNat 64 k⟩)
    | none => none

/-- The decrement of the join signal tried: what stops it, stops it before end has changed anything (01 R30, 08 R192). -/
def State.tryJoin (s : State) (site sig : Nat) : Acc Nat :=
  if sig = 0 then .ok s 0
  else
    match s.sigdec (s.agent site) sig 1 with
    | .ok _ _ => .ok s 0
    | .trap s1 e => .trap s1 e
    | .wait s1 => .wait s1

/-- The accesses of a retiring thread checked before the first of them performs (08 R192). -/
def State.checkEnd (s : State) (site : Nat) (g : Agent) (ps : List (Nat × Nat)) (sig : Nat) : Acc Nat :=
  let frame := ps.foldl (fun r p => r.andThen fun s1 _ =>
    if s1.inSlot g.vd p.1 64 then .ok s1 0 else s1.objCheck (g.access p.1 64 (.store 0) [rW])) (Acc.ok s 0)
  frame.andThen fun s1 _ => s1.tryJoin site sig

/-- The thread of a handle has ended: the launch that placed it counts it off (17 R432). -/
def State.threadEnded (s : State) (h : Nat) : State :=
  { s with launches := s.launches.map (fun p => (p.1, { p.2 with live := p.2.live.filter (· != h) })) }

/-- The last acts of end (08 R192): the join signal, after which the core is idle.  While the decrement waits, what end wrote
before it stands and is not written again. -/
def State.joinSignal (s : State) (site : Nat) : SRes :=
  let c := s.core site
  let h := c.sp.thr.toNat
  let sig := c.cont.sig.toNat
  let free (t : State) : SRes :=
    .done ((((match c.tag with
      | some x => t.tagAdd c.vdev x false
      | none => t).unwait h).threadEnded h).vacate site)
  if sig = 0 then free s
  else
    match s.sigdec (s.agent site) sig 1 with
    | .ok s1 _ => free s1
    | .trap s1 e => .trap s1 e
    | .wait s1 => .wait s1 .join

/-- The acts of end after its checks (08 R192): the frame when WB is set, the record's state, the join signal.  A core whose
s.thr is 0 has no record (log 24). -/
def State.retireThread (s : State) (site : Nat) : SRes :=
  let c := s.core site
  let dev := Agent.device site c.vdev
  let w := c.cont.word.toNat
  let h := c.sp.thr.toNat
  if h = 0 then .done (s.vacate site)
  else
    ((s.objHold dev (handleRec h) 8).andThen fun s1 r =>
    let g := s1.frameAgent site (recOwner r)
    let ps := if contWb w then framePieces c.cont.frame.toNat c.frameAt (contUnits w) else []
    (s1.checkEnd site g ps c.cont.sig.toNat).andThen fun s2 _ =>
    (s2.holdPieces g true (ps.map (fun p => p.1))).andThen fun s3 _ =>
    (s3.storePieces g site ps).andThen fun s4 _ =>
    s4.objStore dev (handleRec h) 8 (recWith r 0)).finish fun s5 _ => s5.joinSignal site

/-- Everything that the thread issued has performed, as a release at system scope asks (13 R313, 08 R192). -/
def State.drained (s : State) (site : Nat) : Bool :=
  let c := s.core site
  c.posted.isEmpty && c.ordPend.isEmpty && !c.commanding

end Sys2Proof.Machine
end

