-- ==== Sys2Proof/Machine/Seam.lean ====
section
/-! DEFINITION. Superstep gangs: the seam, the exchange mesh, imbalance records, the final seam of end (09 R217 to R233). -/

namespace Sys2Proof.Machine

/-- The gang of a core: that of its own virtual device on its site. -/
def State.gangOf (s : State) (site : Nat) : Option (Nat × Gang) :=
  s.gangs.find? (fun p => p.2.cores.contains site && p.2.vd == (s.core site).vdev)

/-- Where a saved context is kept, by virtual device and site. -/
def savedKey (vd site : Nat) : Nat := vd * 4096 + site

/-- Where a gang keeps what one of its cores recorded at the last release and the log of its superstep (09 R235). -/
def undoKey (gang site : Nat) : Nat := gang * 4096 + site

/-- At a release or a dispatch a core of a protected gang is recorded, and its undo log is empty (09 R235). -/
def State.record (s : State) (site : Nat) : State :=
  match s.gangOf site with
  | some (id, _) =>
    let k := undoKey id site
    if (s.core site).guarded then
      { s with
        snaps := tabSet s.snaps k { s.core site with loc := [], flips := [] }
        undo := tabSet s.undo k ⟨(tabGet s.undo k ⟨0, []⟩).epoch + 1, []⟩ }
    else s
  | none => s

/-- A core that has left its gang keeps no record (09 R235). -/
def State.unrecord (s : State) (site : Nat) : State :=
  match s.gangOf site with
  | some (id, _) => { s with snaps := tabDel s.snaps (undoKey id site), undo := tabDel s.undo (undoKey id site) }
  | none => s

/-- The release of a phase of a channel is on its way to a core. -/
def State.coming (s : State) (k p site : Nat) : Bool := s.releases.any (fun r => r.chan == k && r.phase == p && !r.reached.contains site)

/-- The release of the seam at which a core waits is on its way to it. -/
def State.released (s : State) (site : Nat) : Bool :=
  match (s.core site).wait with
  | .seam _ k p => s.coming k p site
  | .final k p => s.coming k p site
  | _ => false

/-- Every core of the gang waits at its seam, with no release on its way to it, has ended or is stopped (09 R221); one whose gang is to
roll back does not wait (09 R237). -/
def State.gangWaits (s : State) (g : Gang) : Bool :=
  g.cores.all (fun t => (tabGet? s.saved (savedKey g.vd t)).isSome ||
    match (s.core t).run with
    | .running => (match (s.core t).wait with
        | .seam _ _ _ => !s.released t
        | .final _ _ => !s.released t
        | _ => false)
    | .consumed => false
    | _ => true)

/-- The exchange cycle of a core (09 R220). -/
def State.xcyc (s : State) (site : Nat) : Nat := s.cycOf site - (s.core site).xbase

/-- The phase check of EXCH (09 R223): seam in the compute phase, the others in the exchange phase. -/
def Core.phaseCheck (c : Core) (xph : Bool) : Option Exc :=
  if c.seamMode && c.sp.psw.getLsbD 5 == xph then none else some ⟨cSEAM_STATE, 0⟩

/-- The check of a byte count that arriveb and seam make (08 R201). -/
def countCheck (a : DWord) : Option Exc := if a.toNat ≤ 2 ^ 27 - 1 then none else some ⟨cBARRIER_VALUE, a⟩

/-- The imbalance record of a superstep (09 R232): four words.  Of several cores that arrive last at one tick it names the last in the
order of arrival (log 99). -/
def State.imbalance (s : State) (g : Gang) : List Nat :=
  let ts := g.arrivals.map (fun p => p.2)
  let late := ts.foldl max 0
  let last := ((g.arrivals.reverse.find? (fun p => p.2 == late)).map (fun p => p.1)).getD 0
  let sat (n : Nat) : Nat := min n 0xFFFFFFFF
  [ g.superstep % 2 ^ 48 + (if g.rolled then 2 ^ 48 else 0) + (if g.drop then 2 ^ 49 else 0),
    sat late * 2 ^ 32 + sat (ts.foldl min late),
    ts.foldl (· + ·) 0 % 2 ^ 64,
    ts.length * 2 ^ 24 + g.cores.findIdx (· == last) * 2 ^ 12 + s.logical last ]

/-- The record written to the gang's ring under the rights of the launch's owner (09 R232): whether one is lost. -/
def State.writeImbalance (s : State) (g : Gang) : Acc Bool :=
  let a : Agent := { site := g.cores.headD 0, mode := g.mode, owner := g.owner, vd := g.vd, tvec := 0, tag := none }
  if g.imb = 0 then .ok s false
  else
    match s.objHold a g.imb 16 with
    | .wait s1 => .wait s1
    | .trap s1 _ => .ok s1 true
    | .ok s1 h =>
      let k := h % 32
      let m := h / 2 ^ 64
      if 20 < k then .ok s1 true
      else
        let e := g.imb + 64 + 32 * (m % 2 ^ k)
        match s1.acc (a.access e 32 (.store (wordsNum (s.imbalance g))) [rW]) with
        | .wait s2 => .wait s2
        | .trap s2 _ => .ok s2 true
        | .ok s2 _ =>
          match s2.objStore a (g.imb + 8) 8 ((m + 1) % 2 ^ 64) with
          | .wait s3 => .wait s3
          | .trap s3 _ => .ok s3 true
          | .ok s3 _ => .ok s3 false

/-- The records on their way to the cores of a gang land. -/
def State.landAll (s : State) (cores : List Nat) : State :=
  (s.lands.filter (fun p => cores.contains p.2.site)).foldl (fun s p => s.landRecord p.1) s

/-- A seam phase completes (09 R224, R233): its ordered operations are applied and have landed, its imbalance record is
written, and its release sets out; not while a stop withholds it (09 R221), nor while a core's error is to roll the superstep back
(09 R237). -/
def State.seamSettle (s : State) (id : Nat) (g : Gang) : State :=
  let c := s.chan g.chan
  if !c.full || g.withheld || g.cores.any (fun t => (s.core t).run == .consumed) then s
  else if c.cnt0 < 0 then ((s.putChan g.chan { c with st := .broken }).breakWaits g.chan s.sites)
  else if c.cnt0 ≠ 0 then s
  else
    let mine (o : OrdOp) : Bool := o.seam && g.cores.contains o.site
    let s1 := (s.ordApplyAll mine s.ords.length).landAll g.cores
    if s1.ords.any (fun p => mine p.2) then s1
    else
      match s1.writeImbalance g with
      | .wait s2 => s2
      | .trap s2 _ => s2
      | .ok s2 lost =>
        let g1 : Gang :=
          { g with arrivals := [], release := s2.time, superstep := g.superstep + 1, fails := 0, rolled := false,
                   drop := lost }
        (({ s2 with gangs := tabSet s2.gangs id g1 } : State).putChan g.chan c.advance).addReleases g.chan [c.phase]

/-- A core's arrival at its seam channel (09 R224, R230), its checks made. -/
def State.seamArrive (s : State) (site bytes : Nat) (w : Nat → Nat → Wait) : SRes :=
  match s.gangOf site with
  | none => .trap s ⟨cSEAM_STATE, 0⟩
  | some (id, g) =>
    let k := g.chan
    let ch := s.chan k
    let e := BitVec.ofNat 64 (chanNumber k)
    if ch.st = .broken then .trap s ⟨cBARRIER_BROKEN, e⟩
    else
      match ch.turn site with
      | .now =>
        if !ch.inRange bytes true then .trap s ⟨cBARRIER_VALUE, BitVec.ofNat 64 bytes⟩
        else
          let g1 : Gang := { g with arrivals := g.arrivals ++ [(site, s.time - g.release)] }
          let s1 : State := { s.putChan k (ch.arrive site bytes true) with gangs := tabSet s.gangs id g1 }
          let s2 := s1.seamSettle id g1
          .wait s2 (w k ch.phase)
      | .none => .trap s ⟨cBARRIER_MEMBERSHIP, e⟩
      | _ => .wait s (.arrive k)

/-- seam (09 R224). -/
def State.bodySeam (s : State) (site : Nat) (d : GOp) (a : DWord) : SRes :=
  let c := s.core site
  match c.wait with
  | .seam d' k p => .wait s (.seam d' k p)
  | _ =>
    match c.phaseCheck false with
    | some e => .trap s e
    | none =>
      match c.exchReport with
      | some (c1, e) => .trap (s.putCore site c1) e
      | none =>
        match countCheck a with
        | some e => .trap s e
        | none => s.seamArrive site a.toNat (fun k p => .seam d k p)

/-- The checks and acts of end that follow its waits (08 R192 row 6 on): seam is the channel that the thread leaves
(09 R230), none outside a gang. -/
def State.endRest (s : State) (site : Nat) (seam : Option Nat) : SRes :=
  let s1 := if seam.isSome then (s.unstitch site).unrecord site else s.unstitch site
  match ((s1.boundChans site).filter (fun k => some k != seam)).map chanNumber |>.min? with
  | some n => .trap s1 ⟨cBARRIER_MEMBERSHIP, BitVec.ofNat 64 n⟩
  | none =>
    if !s1.drained site then .wait s1 .busy
    else s1.retireThread site

/-- end (08 R192, 09 R230). -/
def State.bodyEnd (s : State) (site : Nat) : SRes :=
  let c := s.core site
  match c.wait with
  | .final k p => .wait s (.final k p)
  | .join => s.joinSignal site
  | _ =>
    if c.seamMode && c.sp.psw.getLsbD 5 then .trap s ⟨cSEAM_STATE, 0⟩
    else if c.commanding then .wait s .busy
    else
      match c.endFault with
      | some (c1, e) => .trap (s.putCore site c1) e
      | none =>
        if c.ordPend.any (fun p => !p.2) then .wait s .busy
        else if c.seamMode then
          match c.exchReport with
          | some (c1, e) => .trap (s.putCore site c1) e
          | none =>
            -- a core whose final seam has passed, and whose last accesses waited, has left its gang's channel
            match s.gangOf site with
            | some (_, g) =>
              if (s.chan g.chan).left site then s.endRest site (some g.chan) else s.seamArrive site 0 (fun k p => .final k p)
            | none => s.endRest site none
        else s.endRest site none

/-- The core at the start of the next superstep's exchange phase (09 R224, R220). -/
def Core.nextSuperstep (c : Core) (cyc : Nat) : Core :=
  { c with
    sp := { c.sp with ss := c.sp.ss + 1, psw := c.sp.psw ||| 0x20 }
    xbase := cyc, ordCount := 0, reads := [], writes := [], exch := { c.exch with sent := [], armed := 0 } }

/-- The release of a seam reaches a waiting core (09 R220, R224, R230), with its pulse (14 R357). -/
def State.seamReach (s : State) (site k p : Nat) : State :=
  let c := s.core site
  let mark (s : State) : State :=
    match s.releases.find? (fun r => r.chan == k && r.phase == p) with
    | some r => s.reachedBy r [site]
    | none => s
  let here (w : Nat) : Bool := w == p && s.coming k p site && c.run != .stopped
  match c.wait with
  | .seam d k' p' =>
    if k' = k ∧ here p' then
      let s1 := s.onCore site (fun c => c.nextSuperstep (s.cycOf site))
      let s2 := match s1.settle site (Core.advance 12) (fun t => .done (t.result site d (t.core site).sp.ss)) with
        | .next t => t
        | _ => s1
      let s3 := mark (s2.onCore site (fun c => c.pulse 6 (chanNumber k)))
      s3.record site
    else s
  | .final k' p' =>
    if k' = k ∧ here p' then
      let s1 := mark s
      let s2 := match (s1.chan k).leave site with
        | some (ch, _) => s1.putChan k ch
        | none => s1
      match ((s2.onCore site (fun c => { c.pulse 6 (chanNumber k) with wait := .busy })).settle site id (fun t => t.endRest site (some k))) with
      | .next t => t
      | _ => s2
    else s
  | _ => s

/-- The seam release on the die of a site (09 R220): a completed phase is released, and its release reaches every waiting
core of the gang on that die in the same cycle. -/
def State.seamComplete (s : State) (site : Nat) : State :=
  match s.gangOf site with
  | none => s
  | some (id, g) =>
    let s1 := s.seamSettle id g
    match s1.releases.find? (fun r => r.chan == g.chan && !r.reached.contains site) with
    | none => s1
    | some r =>
      (g.cores.filter (fun t => siteDie t == siteDie site)).foldl (fun s t => s.seamReach t r.chan r.phase) s1

/-- The core of a rank of a core's gang on its own die (09 R226). -/
def State.rankSite (s : State) (site : Nat) (rank : DWord) : Option Nat :=
  match s.gangOf site with
  | none => none
  | some (_, g) =>
    if rank.toNat < g.cores.length then
      let t := g.cores.getD rank.toNat 0
      if siteDie t = siteDie site then some t else none
    else none

/-- The checks of n bytes in words of 8 under 02 R42. -/
def wordsCheck (xb : Nat) (a : Int) (n : Nat) : Option Exc :=
  (List.range (n / 8)).findSome? (fun (i : Nat) => localCheck xb (a + 8 * (i : Int)) 8)

/-- The hops between two sites (09 R225). -/
def hops (a b : Nat) : Nat :=
  let d (x y : Nat) : Nat := (x - y) + (y - x)
  d (siteX a) (siteX b) + d (siteY a) (siteY b)

/-- An island's cycle count brought to at least n; its cores' event timers count the same cycles (00 R1). -/
def State.bumpCyc (s : State) (site n : Nat) : State :=
  { s with
    cyc := tabSet s.cyc (siteQuad site) (max (s.cycOf site) n)
    cores := s.cores.map (fun p => (p.1, if siteQuad p.1 = siteQuad site then p.2.elapse (n - s.cycOf site) else p.2)) }

/-- A core of the gang waits at an xsend whose cycle lies before cycle n of the island. -/
def State.sendBefore (s : State) (site n : Nat) : Bool :=
  match s.gangOf site with
  | none => false
  | some (_, g) =>
    g.cores.any (fun t =>
      match (s.core t).wait with
      | .xsend cyc _ _ _ => siteDie t == siteDie site && decide ((s.core t).xbase + cyc < n)
      | _ => false)

/-- A message arrives at a core of the island before cycle n, and has not arrived (09 R225). -/
def State.dueBefore (s : State) (site n : Nat) : Bool :=
  s.xmsgs.any (fun p => siteQuad p.2.dst == siteQuad site && decide (p.2.due < n))

/-- The next cycle of an island at which an exchange must happen: the arrival of a message, or the injection of a waiting xsend
(09 R225, R226).  The count does not pass it before (log 43). -/
def State.exchNext (s : State) (q : Nat) : Option Nat :=
  ((s.xmsgs.filter (fun p => siteQuad p.2.dst == q)).map (fun p => p.2.due)
    ++ (s.cores.filter (fun p => siteQuad p.1 == q)).filterMap (fun p =>
      match p.2.waiting with
      | .xsend cyc _ _ _ => some (p.2.xbase + cyc)
      | _ => none)).min?

/-- The local words that a message is read from. -/
def sendWords (src len : Nat) : List Nat := (List.range (len / 8)).map (fun i => src / 8 + i)

/-- The injection of a waiting xsend at the cycle that it names (09 R226): the words are read then, and so checked again.  The
mesh of a region reaches no other (09 R225): a message to one is dropped. -/
def State.inject (s : State) (site cyc rank src len : Nat) : SRes :=
  let c := s.core site
  match s.rankSite site (BitVec.ofNat 64 rank) with
  | none => .trap s ⟨cEXCH_ROUTE, BitVec.ofNat 64 rank⟩
  | some dst =>
    match c.eccWords (sendWords src len) with
    | (c1, some e) => .trap (s.putCore site c1) e
    | (c1, none) =>
      let m : XMsg :=
        { src := site, dst := dst, rank := c1.rank, cyc := cyc, data := memBytes c1.loc src len,
          due := c1.xbase + cyc + 4 + 2 * hops site dst }
      let s1 := (s.putCore site { c1 with exch := { c1.exch with sent := c1.exch.sent ++ [cyc] } }).bumpCyc site (c1.xbase + cyc)
      if siteRegion dst = siteRegion site then .done { s1 with xmsgs := tabSet s1.xmsgs (tabFree s1.xmsgs) m } else .done s1

/-- xsend (09 R226). -/
def State.bodyXsend (s : State) (site : Nat) (a b : DWord) (cyc len : Nat) : SRes :=
  let c := s.core site
  match c.wait with
  | .xsend cyc rank src len =>
    if s.sendBefore site (c.xbase + cyc) || s.dueBefore site (c.xbase + cyc) then .wait s (.xsend cyc rank src len) else s.inject site cyc rank src len
  | _ =>
    match c.phaseCheck true with
    | some e => .trap s e
    | none =>
      if (s.rankSite site a).isNone then .trap s ⟨cEXCH_ROUTE, a⟩
      else
        match wordsCheck c.xbAddr b.toInt len with
        | some e => .trap s e
        | none =>
          match c.eccWords (sendWords b.toNat len) with
          | (c1, some e) => .trap (s.putCore site c1) e
          | (c1, none) =>
            let s1 := s.putCore site c1
            if s.xcyc site > cyc ∨ c.exch.sent.contains cyc then .trap s1 ⟨cEXCH_LATE, BitVec.ofNat 64 cyc⟩
            else if s.xcyc site = cyc then s1.inject site cyc a.toNat b.toNat len
            else .wait s1 (.xsend cyc a.toNat b.toNat len)

/-- xrecv (09 R227). -/
def State.bodyXrecv (s : State) (site : Nat) (a b : DWord) (cyc len : Nat) : SRes :=
  let c := s.core site
  match c.phaseCheck true with
  | some e => .trap s e
  | none =>
    if (s.rankSite site b).isNone then .trap s ⟨cEXCH_ROUTE, b⟩
    else
      match wordsCheck c.xbAddr a.toInt len with
      | some e => .trap s e
      | none =>
        let e := BitVec.ofNat 64 cyc
        if s.xcyc site > cyc then .trap s ⟨cEXCH_LATE, e⟩
        else if c.exch.arms.any (fun x => x.src == b.toNat && x.cyc == cyc) then .trap s ⟨cEXCH_COLLIDE, e⟩
        else if 16 ≤ c.exch.armed then .trap s ⟨cEXCH_MISMATCH, e⟩
        else
          .done (s.putCore site
            { c with exch := { c.exch with
                arms := c.exch.arms ++ [⟨b.toNat, cyc, len, a.toNat, false, false⟩], armed := c.exch.armed + 1 } })

/-- xwait (09 R228). -/
def State.bodyXwait (s : State) (site cyc : Nat) : SRes :=
  match (s.core site).phaseCheck true with
  | some e => .trap s e
  | none => if cyc ≤ s.xcyc site then .done s else .wait s (.xwait cyc)

/-- The exchange cycle count reaches the cycle of a waiting xwait (09 R228). -/
def State.reachXwait (s : State) (site cyc : Nat) : State :=
  let n := (s.core site).xbase + cyc
  if s.sendBefore site n || s.dueBefore site n then s else s.bumpCyc site n

/-- xend (09 R229). -/
def State.bodyXend (s : State) (site : Nat) : SRes :=
  let c := s.core site
  match c.phaseCheck true with
  | some e => .trap s e
  | none =>
    if c.exch.arms.any (fun a => !a.passed && !a.filled) || s.xmsgs.any (fun p => p.2.src == site) then .wait s .xend
    else
      match c.exchReport with
      | some (c1, e) => .trap (s.putCore site c1) e
      | none =>
        .done (s.putCore site
          { c with exch := { c.exch with arms := [] }, sp := { c.sp with psw := c.sp.psw &&& 0xFFFFFFFFFFFFFFDF } })

/-- A message arrives (09 R225 to R227): it lands in its arm, is dropped in a collision, or is recorded as unmatched. -/
def State.exchArrive (s : State) (i : Nat) : State :=
  match tabGet? s.xmsgs i with
  | none => s
  | some m =>
    if s.sendBefore m.dst m.due || s.dueBefore m.dst m.due then s
    else
      let s0 := s.bumpCyc m.dst m.due
      let rivals := s0.xmsgs.filter (fun p => p.1 != i && p.2.dst == m.dst && p.2.cyc == m.cyc)
      let note (s : State) (t : Nat) (x : Option Nat) : State :=
        s.onCore t (fun c => { c with exch := { c.exch with collide := c.exch.collide ++ [(m.cyc, x)] } })
      if !rivals.isEmpty then
        let s1 := rivals.foldl (fun s p => note (note s p.2.src none) m.dst (some p.2.rank)) (note (note s0 m.src none) m.dst (some m.rank))
        { s1 with xmsgs := s1.xmsgs.filter (fun p => !(p.2.dst == m.dst && p.2.cyc == m.cyc)) }
      else
        let c := s0.core m.dst
        let hit (a : Arm) : Bool :=
          a.src == m.rank && a.cyc == m.cyc && a.len == m.data.length && !a.filled && !a.passed
        let c1 : Core :=
          match c.exch.arms.find? hit with
          | some a =>
            { c.pokeLocal a.dst a.len (bytesNum m.data) with
              exch := { c.exch with arms := c.exch.arms.map (fun x => if x = a then { x with filled := true } else x) } }
          | none => { c with exch := { c.exch with unmatched := c.exch.unmatched ++ [m.cyc] } }
        { s0.putCore m.dst c1 with xmsgs := tabDel s0.xmsgs i }

/-- The horizon of an arm passes (09 R225, R227). -/
def State.exchHorizon (s : State) (site i : Nat) : State :=
  let c := s.core site
  match c.exch.arms[i]? with
  | none => s
  | some a =>
    let n := c.xbase + a.cyc + 40
    if a.filled || s.sendBefore site n || s.dueBefore site n || s.xmsgs.any (fun p => p.2.dst == site && decide (p.2.due ≤ n)) then s
    else
      (s.onCore site (fun c => { c with exch := { c.exch with arms := c.exch.arms.set i { a with passed := true } } })).bumpCyc site n

/-- The island of a core, 0 to 23: five on each die, the uncore first (20 R475). -/
def siteIsland (site : Nat) : Nat := siteDie site * 5 + 1 + siteQuad site % 4

/-- Dividers set. -/
def State.divide (s : State) (islands : List Nat) (div : Nat) : State :=
  { s with dividers := islands.foldl (fun t i => if i < 24 then tabSet t i div else t) s.dividers }

/-- New dividers (09 R231): the islands of a gang change together, while the release of its seam is withheld and every core of
the gang waits. -/
def State.setDividers (s : State) (islands : List Nat) (div : Nat) : State :=
  let ok (g : Gang) : Bool :=
    let mine := g.cores.map siteIsland
    !mine.any islands.contains || (g.withheld && s.gangWaits g && mine.all islands.contains)
  if div = 0 ∨ !s.gangs.all (fun p => ok p.2) then s else s.divide islands div

/-- The divider at which the islands of a new gang run for its life (09 R231): that of an island which another gang has locked,
or of the first; none when two gangs have locked two.  log 73. -/
def State.commonDivider (s : State) (islands : List Nat) : Option Nat :=
  let of_ (i : Nat) : Nat := tabGet s.dividers i 1
  let locked := islands.filter (fun i => s.gangs.any (fun p => (p.2.cores.map siteIsland).contains i))
  match locked ++ islands with
  | [] => some 1
  | i :: _ => if locked.all (fun j => of_ j == of_ i) then some (of_ i) else none

end Sys2Proof.Machine
end

