-- ==== Sys2Proof/Machine/Stitch.lean ====
section
/-! DEFINITION. Stitches (08 R204 to R206), align (05 R127) and wfi (05 R140). -/

namespace Sys2Proof.Machine

/-- The rank of a slot within a mask (08 R204). -/
def maskRank (mask slot : Nat) : Nat := ((List.range slot).filter (fun j => mask.testBit j)).length

/-- s.stch of a slot (08 R204): FORMED, RANK, LEAD, SLOT, MASK. -/
def stchWord (formed : Bool) (mask lead slot : Nat) : DWord :=
  BitVec.ofNat 64 ((if formed then 2 ^ 17 else 0) + maskRank mask slot * 2 ^ 14 + lead * 2 ^ 11 + slot * 2 ^ 8 + mask)

/-- s.stch written without a formed stitch. -/
def Core.putMask (c : Core) (mask lead slot : Nat) : Core := { c with sp := { c.sp with stch := stchWord false mask lead slot } }

/-- The mask names a valid set (08 R205). -/
def State.maskValid (s : State) (site : Nat) (a : DWord) : Bool :=
  let m := a.toNat
  decide (m < 256) && m.testBit (siteSlot site) && m != 2 ^ siteSlot site && (maskSites site m).all s.works

/-- stitch (08 R205): a core that issues it leaves a stitch that it is in; it writes the rank and MASK, and then waits. -/
def State.bodyStitch (s : State) (site : Nat) (d : GOp) (a : DWord) (limit : Nat) : SRes :=
  match (s.core site).wait with
  | .stitch m limit start => if limit < s.cycOf site - start then .done s else .wait s (.stitch m limit start)
  | _ =>
    if !s.maskValid site a then .trap s ⟨cSTITCH_MASK, a⟩
    else
      let s1 := (s.unstitch site).onCore site (fun c =>
        (c.putMask a.toNat c.stLead (siteSlot site)).wg .D d (BitVec.ofNat 64 (maskRank a.toNat (siteSlot site))) 1)
      .wait s1 (.stitch a.toNat limit (s.cycOf site))

/-- An instruction of a core ended by an event. -/
def State.settled (s : State) (site : Nat) (next : Core → Core) (body : State → SRes) : State :=
  match s.settle site next body with
  | .next t => t
  | _ => s

/-- Members put into a formed stitch (08 R205): the lowest slot leads. -/
def State.formMembers (s : State) (sites : List Nat) (mask : Nat) : State :=
  let lead := (sites.map siteSlot).foldl min 7
  sites.foldl (fun s t => s.onCore t (fun c =>
    { c with
      trail := []
      sp := { c.sp with
        stch := stchWord true mask lead (siteSlot t)
        psw := if siteSlot t = lead then c.sp.psw &&& 0xFFFFFFFFFFFFFF7F else c.sp.psw ||| 0x80 } })) s

/-- A stitch forms (08 R205): every core of the mask waits at a stitch with the same mask at the same address. -/
def State.formStitch (s : State) (site : Nat) : State :=
  let c := s.core site
  match c.wait with
  | .stitch m _ _ =>
    let ts := maskSites site m
    let here (t : Nat) : Bool :=
      match (s.core t).wait with
      | .stitch m' _ _ => m' == m && (s.core t).pc == c.pc && (s.core t).run == .running
      | _ => false
    if !ts.all here then s
    else
      (ts.foldl (fun s t => s.settled t (Core.advance 12) (fun u => .done u)) s).formMembers ts m
  | _ => s

/-- The limit of a waiting stitch passes (08 R205): the core goes on alone. -/
def State.stitchExpire (s : State) (site : Nat) : State :=
  match (s.core site).wait with
  | .stitch _ limit start => if s.cycOf site - start < limit then s else s.settled site (Core.advance 12) (fun u => .done u)
  | _ => s

/-- The core waits at an align, at an address. -/
def Core.alignsAt (c : Core) (pc : BitVec 18) : Bool :=
  match c.wait with
  | .align _ _ => c.pc == pc && c.run == .running
  | _ => false

/-- The cores of a former stitch that wait at one align and have the same MASK (08 R206; log 61): those that may re-form it. -/
def State.gathered (s : State) (site : Nat) : List Nat :=
  let c := s.core site
  (maskSites site c.stMask).filter (fun u => (s.core u).alignsAt c.pc && (s.core u).stMask == c.stMask && !(s.core u).formed)

/-- align (05 R127, 08 R206): a core that is in no former stitch goes on.  A core that others may join waits for the event that
joins them; any other goes on when the members of its former stitch are all there, or its count has passed. -/
def State.bodyAlign (s : State) (site count : Nat) : SRes :=
  let c := s.core site
  if c.stMask = 0 ∨ c.formed then .done s
  else
    match c.wait with
    | .align n start =>
      let reached := (maskSites site c.stMask).all (fun t => (s.core t).alignsAt c.pc)
      if 2 ≤ (s.gathered site).length ∨ (s.cycOf site - start < n ∧ !reached) then .wait s (.align n start) else .done s
    | _ => if count = 0 then .done s else .wait s (.align count (s.cycOf site))

/-- Members of a former stitch that have reached one align form a stitch again (08 R206): when every member of the former stitch has
reached it, or when the count of one that is there has passed (05 R127). -/
def State.gatherAlign (s : State) (sites : List Nat) : State :=
  match sites with
  | [] => s
  | t :: _ =>
    let reached := (maskSites t (s.core t).stMask).all (fun u => (s.core u).alignsAt (s.core t).pc)
    let here := s.gathered t
    let late (u : Nat) : Bool :=
      match (s.core u).wait with
      | .align n start => decide (n ≤ s.cycOf u - start)
      | _ => false
    if sites != here || decide (here.length < 2) || !(reached || here.any late) then s
    else
      let mask := here.foldl (fun m u => m + 2 ^ siteSlot u) 0
      (here.foldl (fun s u => s.settled u (Core.advance 4) (fun v => .done v)) s).formMembers here mask

/-- wfi (05 R140). -/
def State.bodyWfi (s : State) (site : Nat) : SRes := if (s.core site).preempt then .done s else .wait s .wfi

end Sys2Proof.Machine
end

