-- ==== Sys2Proof/Machine/Membership.lean ====
section
/-! DEFINITION. Barrier channels as instructions see them: join, leave, arrive, wait, btx, bpoll, and the arrival of a release
at a core (08 R195 to R203). -/

namespace Sys2Proof.Machine

/-- The channel that a number names for a core (08 R195): die channels are those of its die. -/
def chanAt (site : Nat) (ch : BitVec 6) : Nat := chanKey (siteDie site) ch.toNat

/-- join and leave (08 R197, R198). -/
def State.bodyMember (s : State) (site : Nat) (d : GOp) (k : Nat) (f : Channel → Option (Channel × Nat)) : SRes :=
  match s.chanCheck site k false with
  | some e => .trap s e
  | none =>
    match f (s.chan k) with
    | none => .trap s ⟨cBARRIER_MEMBERSHIP, BitVec.ofNat 64 (chanNumber k)⟩
    | some (c, p) => .done (((s.putChan k c).afterChange k).result site d (tokenOf k p))

/-- arrive and arriveb (08 R199 to R201); a is the byte count. -/
def State.bodyArrive (s : State) (site : Nat) (d : GOp) (k : Nat) (a : DWord) : SRes :=
  match countCheck a with
  | some e => .trap s e
  | none =>
    match s.chanCheck site k false with
    | some e => .trap s e
    | none =>
      let c := s.chan k
      let e := BitVec.ofNat 64 (chanNumber k)
      if c.st = .broken then .trap s ⟨cBARRIER_BROKEN, e⟩
      else
        match c.turn site with
        | .none => .trap s ⟨cBARRIER_MEMBERSHIP, e⟩
        | .wait => .wait s (.arrive k)
        | t =>
          if !c.inRange a.toNat (t == .now) then .trap s ⟨cBARRIER_VALUE, a⟩
          else
            .done (((s.putChan k (c.arrive site a.toNat (t == .now))).afterChange k).result site d
              (tokenOf k (c.phaseOf (t == .now))))

/-- wait (08 R202). -/
def State.bodyWait (s : State) (site : Nat) (tok : DWord) : SRes :=
  match s.tokenCheck site tok false with
  | .error e => .trap s e
  | .ok (k, p) => if behind p (s.seenPhase k site) then .done s else .wait s (.barrier k p)

/-- bpoll (08 R202). -/
def State.bodyBpoll (s : State) (site : Nat) (d : GOp) (tok : DWord) : SRes :=
  match s.tokenCheck site tok true with
  | .error e => .trap s e
  | .ok (k, p) => .done (s.result site d (if behind p (s.seenPhase k site) then 1 else 0))

/-- btx (08 R203): a channel that it activates may complete its phase at once (R199). -/
def State.bodyBtx (s : State) (site : Nat) (d : GOp) (k : Nat) (a : DWord) : SRes :=
  match s.chanCheck site k false with
  | some e => .trap s e
  | none =>
    if (if k < 128 then 1024 else 4096) < a.toNat then .trap s ⟨cBARRIER_VALUE, a⟩
    else
      match s.btx k a.toNat with
      | (s1, old) => .done ((s1.afterChange k).result site d (BitVec.ofNat 64 old))

/-- The oldest release of a channel that has not reached a core. -/
def State.comingRelease (s : State) (k site : Nat) : Option Release :=
  s.releases.find? (fun r => r.chan == k && !r.reached.contains site)

/-- A release reaches a core (08 R199, R202): the crossbar pulses, and a wait for its phase ends; it is dropped when it has
reached every core. -/
def State.releaseReach (s : State) (k site : Nat) : State :=
  match s.comingRelease k site with
  | none => s
  | some r =>
    let s2 := (s.reachedBy r [site]).onCore site (fun c => c.pulse 6 (chanNumber k))
    match (s2.core site).waiting with
    | .barrier k' p => if k' = k ∧ behind p (s2.seenPhase k site) then s2.settled site (Core.advance 12) (fun t => .done t) else s2
    | _ => s2

end Sys2Proof.Machine
end

