-- ==== Sys2Proof/Machine/BarrierOps.lean ====
section
/-! DEFINITION. The meanings of BARRIER, join and leave, and of the release of a phase (08 R195 to R203). -/

namespace Sys2Proof.Machine

/-- R197: Joins a barrier channel. -/
def execJoin (d : GOp) (ch : BitVec 6) (s : State) : Out :=
  s.shared { uses := [wr .D d] } (Core.advance 12) (fun t =>
    t.bodyMember s.cur d (chanAt s.cur ch) (fun c => c.join s.cur))

/-- R197: Leaves a barrier channel. -/
def execLeave (d : GOp) (ch : BitVec 6) (s : State) : Out :=
  s.shared { uses := [wr .D d] } (Core.advance 12) (fun t =>
    t.bodyMember s.cur d (chanAt s.cur ch) (fun c => c.leave s.cur))

/-- R201: Records an arrival on a barrier channel. -/
def execArrive (d : GOp) (ch : BitVec 6) (s : State) : Out :=
  s.shared { uses := [wr .D d] } (Core.advance 12) (fun t =>
    t.bodyArrive s.cur d (chanAt s.cur ch) 0)

/-- R201: Arrives and announces pending bytes. -/
def execArriveb (d a : GOp) (ch : BitVec 6) (s : State) : Out :=
  s.shared { uses := [rd .A a, wr .D d] } (Core.advance 12) (fun t =>
    t.bodyArrive s.cur d (chanAt s.cur ch) ((t.core s.cur).rg .A a))

/-- R202: Waits until a phase's release reaches the core. -/
def execWaitT (a : GOp) (s : State) : Out :=
  s.shared { uses := [rd .A a] } (Core.advance 12) (fun t =>
    t.bodyWait s.cur ((t.core s.cur).rg .A a))

/-- R203: Sets a channel threshold or resets a broken channel. -/
def execBtx (d a : GOp) (ch : BitVec 6) (s : State) : Out :=
  s.shared { uses := [rd .A a, wr .D d] } (Core.advance 12) (fun t =>
    t.bodyBtx s.cur d (chanAt s.cur ch) ((t.core s.cur).rg .A a))

/-- R202: Tests whether a phase has been released. -/
def execBpoll (d a : GOp) (s : State) : Out :=
  s.shared { uses := [rd .A a, wr .D d] } (Core.advance 12) (fun t =>
    t.bodyBpoll s.cur d ((t.core s.cur).rg .A a))

/-- R199: A phase release reaches a core and ends its waits. -/
def execBarrierRelease (chan site : Nat) (s : State) : Out :=
  s.event (s.works site && !(s.seamGang chan).any (fun g => g.2.cores.contains site && !(s.chan chan).left site) && decide (128 ≤ chan || chan / 32 = siteDie site)) (fun t =>
    t.releaseReach chan site)

end Sys2Proof.Machine
end

