-- ==== Sys2Proof/Machine/MatrixImage.lean ====
section
/-! DEFINITION. The image of a matrix queue: its layout, saving and restoring (15 R383, R384).  The words of the status, bound
and command areas are given only up to free values (log 21). -/

namespace Sys2Proof.Machine

/-- n bytes of a memory from an address, moved to address 0; and a memory moved up and put over another. -/
def memSlice (m : Memory) (a n : Nat) : Memory :=
  (m.filter (fun c => decide (a ≤ c.1) && decide (c.1 < a + n))).map (fun c => (c.1 - a, c.2))
def memClear (m : Memory) (a n : Nat) : Memory := m.filter (fun c => decide (c.1 < a) || decide (a + n ≤ c.1))
def memOver (m : Memory) (a : Nat) (src : Memory) : Memory := src.foldl (fun m c => memSet m (a + c.1) c.2) m

/-- Whole words of local memory set to 0. -/
def Core.clearLocal (c : Core) (a n : Nat) : Core :=
  { c with
    loc := memClear c.loc a n
    flips := c.flips.filter (fun p => decide (8 * p.1 < a) || decide (a + n ≤ 8 * p.1))
    wrote := granulesFrom a n ++ c.wrote }

/-- 64-bit words written to local memory from an address. -/
def Core.putWords (c : Core) (a : Nat) : List Nat → Core
  | [] => c
  | v :: t => (c.putLocalWord a (BitVec.ofNat 64 v)).putWords (a + 8) t

/-- The size of an image (15 R383). -/
def imageBytes : Nat := 83456

/-- The check of an image address: R42 over the whole image, the first failing byte in s.eval (15 R383). -/
def imageCheck (xb : Nat) (a : Int) : Option Exc :=
  if a < 0 then some ⟨cLOCAL_RANGE, BitVec.ofInt 64 a⟩
  else if (localSize : Int) < a + imageBytes then some ⟨cLOCAL_RANGE, BitVec.ofInt 64 (max a localSize)⟩
  else if a % 64 ≠ 0 then some ⟨cLOCAL_ALIGN, BitVec.ofInt 64 a⟩
  else if a < xb then some ⟨cEXEC_ONLY, BitVec.ofInt 64 a⟩
  else none

/-- An injection as a number. -/
def Inject.code (i : Inject) : Nat := i.row + i.col * 64 + i.blk * 4096 + i.p * 32768
def Inject.ofCode (n : Nat) : Inject := ⟨n % 64, n / 64 % 64, n / 4096 % 8, n / 32768 % 64⟩

/-- The eight words of the status area (log 21). -/
def MxQueue.statusWords (q : MxQueue) : List Nat :=
  let f := q.fault.getD ⟨0, 0, 0, 0, 0, 0⟩
  let inj (i : Nat) : Nat := (q.inj.map Inject.code).getD i 0
  [ q.fmt + q.kdim * 2 ^ 8 + q.flags * 2 ^ 24 + q.corr * 2 ^ 32,
    f.cause + f.pos * 2 ^ 9 + f.kind * 2 ^ 26 + f.row * 2 ^ 28 + f.sub * 2 ^ 37 + (if q.rep then 2 ^ 48 else 0)
      + (if q.fault.isSome then 2 ^ 63 else 0),
    f.addr.toNat,
    q.inj.length + q.injDrop * 2 ^ 8,
    inj 0 + inj 1 * 2 ^ 32,
    inj 2 + inj 3 * 2 ^ 32,
    q.lastK + q.doneK * 2 ^ 16,
    0 ]

/-- The status area read back into a queue. -/
def MxQueue.withStatus (q : MxQueue) (w : List Nat) : MxQueue :=
  let w0 := w.getD 0 0
  let w1 := w.getD 1 0
  let inj := [w.getD 4 0 % 2 ^ 32, w.getD 4 0 / 2 ^ 32, w.getD 5 0 % 2 ^ 32, w.getD 5 0 / 2 ^ 32].map Inject.ofCode
  { q with
    fmt := w0 % 2 ^ 8
    kdim := w0 / 2 ^ 8 % 2 ^ 16
    flags := w0 / 2 ^ 24 % 32
    corr := w0 / 2 ^ 32
    fault :=
      if w1.testBit 63 then
        some ⟨w1 % 2 ^ 9, BitVec.ofNat 64 (w.getD 2 0), w1 / 2 ^ 9 % 2 ^ 17, w1 / 2 ^ 26 % 4, w1 / 2 ^ 28 % 2 ^ 9,
          w1 / 2 ^ 37 % 2 ^ 6⟩
      else none
    rep := w1.testBit 48
    inj := inj.take (w.getD 3 0 % 8)
    injDrop := w.getD 3 0 / 2 ^ 8 % 2 ^ 8
    lastK := w.getD 6 0 % 2 ^ 16
    doneK := w.getD 6 0 / 2 ^ 16 % 2 ^ 16 }

/-- What K may be: none, or that of a format (15 R363, R369). -/
def mxKs : List Nat := [0, 64, 128, 256]

/-- The causes with which a unit of a kind, or the decrement of its signal, faults (15 R371, R376, R378, R380; 14 R339, R342; 08 R215). -/
def mxCauses (kind sig : Nat) : List Nat :=
  [cEXEC_ONLY, cLOCAL_RANGE, cLOCAL_ECC, cNOT_PRESENT, cBAD_TYPE, cCRITICAL_LEAF, cMOVED_RETRY_LIMIT, cPTE_FORMAT,
   cRIGHT_ENGINE, cOWNER_INVALID, cRETIRED, cFOOTPRINT_VIOLATION, cUNCORRECTABLE]
    ++ (match kind with
        | 0 => [cRIGHT_READ]
        | 1 => [cRIGHT_READ, cCONV_FORMAT, cABFT_MULTI]
        | _ => [cRIGHT_WRITE, cBOUND_TRAP])
    ++ (if sig = 0 then [] else [cRIGHT_ATOMIC, cRIGHT_READ, cRIGHT_WRITE])

/-- The fault record that a queue may hold with a command at its head (15 R382). -/
def MxFault.fits (f : MxFault) (x : MxCmd) : Bool :=
  f.kind == x.kind && decide (x.kind ≤ 2) && f.pos == x.pos && (mxCauses x.kind (mxSig x.desc)).contains f.cause
    && (if f.cause = cABFT_MULTI then f.addr == 0 && f.row == x.row0 + 64 * x.pos && decide (f.row < 256) && decide (f.sub < 8)
        else if f.cause = cBOUND_TRAP then f.addr == 0 && x.be && f.row == x.row0 + x.pos && decide (f.row < 256)
        else (f.cause != cCONV_FORMAT || f.addr == 0) && f.row == 0 && f.sub == 0)

/-- The values that a status area of a queue may hold, apart from its fault record. -/
def MxQueue.statusOk (q : MxQueue) : Bool :=
  (q.fmt == 255 && q.kdim == 0 || q.kdim == fmtK q.fmt && (if fmtQ4 q.fmt then q.fmt == 48
      else (q.fmt == 8 || q.fmt == 9 || decide (12 ≤ q.fmt % 32 && q.fmt % 32 < 16) && decide (q.fmt < 48))))
    && decide (q.inj.length ≤ 4) && mxKs.contains q.lastK && (q.doneK == 0 || q.doneK == q.kdim)

/-- The four bound pairs: limits, then status (15 R379). -/
def MxQueue.boundWords (q : MxQueue) : List Nat := q.bounds.flatMap (fun b => [b.lo + b.hi * 2 ^ 32, b.status])
def boundOfWords (x y : Nat) : Bound := ⟨x % 2 ^ 32, x / 2 ^ 32, y / 2 ^ 32 % 4, y.testBit 63, y % 2 ^ 32⟩
def boundsOfWords : List Nat → List Bound
  | x :: y :: t => boundOfWords x y :: boundsOfWords t
  | _ => []

/-- The sixteen words of a command (log 21): descriptor, footprint, then what was captured at issue, its progress and its number, by
which the edges of later commands know it (14 R348). -/
def MxCmd.words (x : MxCmd) : List Nat :=
  let pad (n : Nat) (l : List Nat) : List Nat := l ++ List.replicate (n - l.length) 0
  pad 4 x.desc ++ pad 8 x.foot ++
    [ x.word2 + x.kind * 2 ^ 32 + x.rm * 2 ^ 34 + x.mode * 2 ^ 37 + (if x.stage = .finishing then 2 ^ 39 else 0)
        + (if x.credit then 2 ^ 40 else 0) + (if x.foot.isEmpty then 0 else 2 ^ 41) + x.moved * 2 ^ 44 + 2 ^ 63,
      x.owner + x.kdim * 2 ^ 20 + x.pos * 2 ^ 36 + x.vd * 2 ^ 53,
      x.tvec.toNat,
      x.id ]

/-- A command read back, with no edges; none when its place is empty. -/
def MxCmd.ofWords (w : List Nat) : Option MxCmd :=
  let a := w.getD 12 0
  let b := w.getD 13 0
  let kind := a / 2 ^ 32 % 4
  let foot := if a.testBit 41 then (w.drop 4).take 8 else []
  if !a.testBit 63 then none
  else
    some
      { id := w.getD 15 0, kind := kind, desc := if kind = 3 then [] else w.take 4, foot := foot, word2 := a % 2 ^ 25,
        rm := a / 2 ^ 34 % 8, kdim := b / 2 ^ 20 % 2 ^ 16, owner := b % 2 ^ 20, vd := b / 2 ^ 53 % 64,
        mode := a / 2 ^ 37 % 4, tvec := BitVec.ofNat 64 (w.getD 14 0), pos := b / 2 ^ 36 % 2 ^ 17,
        stage := if a.testBit 39 then .finishing else .held, edges := [], credit := a.testBit 40, leave := false,
        granted := false, moved := a / 2 ^ 44 % 16 }

/-- What its issue captured of a command is what the checks of R373 and R374 let pass. -/
def MxCmd.issueOk (x : MxCmd) : Bool :=
  let top := x.word2 / 2 ^ 16
  x.mode != 2 && x.word2 % 2 == 0 && !x.word2.testBit 3 && (x.foot.isEmpty || footValid x.foot)
    && (if x.kind = 2 then decide (x.rm < 5) else x.rm == 0)
    && (match x.kind with
        | 0 => x.row0 == 0 && top == 0
        | 1 => top == 0
        | 2 => decide (top < 16)
        | _ => !x.word2.testBit 1 && decide (1 ≤ x.count) && decide (x.row0 + x.count ≤ 256))
    && (if x.kind = 3 then x.kdim == 0 && x.foot.isEmpty
        else x.kdim == mxLen x.desc && mxDescOk x.kind x.row0 x.kdim x.desc && mxKs.contains x.kdim && mxSig x.desc % 64 == 0)

/-- The progress of a command: only the first of its queue has any, and one whose units are all applied waits for its completion; an
mload is saved before its unit or faulted (15 R382, R383). -/
def MxCmd.progressOk (first : Bool) (x : MxCmd) : Bool :=
  if first then
    decide (x.moved < 8) && decide (x.pos ≤ (if x.kind = 0 then 0 else x.total)) && (x.stage == .held || x.kind != 0 && x.pos == x.total)
  else x.stage == .held && x.pos == 0 && !x.credit && x.moved == 0

/-- A command area holds a value that msave writes: an empty place is zero, and a command reads back as written and is one that its
issue let pass. -/
def MxCmd.wordsOk (first : Bool) (w : List Nat) : Bool :=
  match MxCmd.ofWords w with
  | none => w.all (fun x => x == 0)
  | some x => x.words == w && x.issueOk && x.progressOk first

/-- The fault record of a queue and its latched K agree with the commands of its image (15 R369, R382). -/
def MxQueue.faultOk (q : MxQueue) : Bool :=
  let ks := (q.cmds.filter (fun x => x.kind == 0)).map (fun x => x.kdim)
  (match q.fault with
   | none => !q.rep
   | some f => q.cmds.head?.any (fun x => f.fits x && x.stage == .held))
    && (if q.doneK = 0 then (if ks.isEmpty then q.lastK == 0 else ks.contains q.lastK) else q.lastK != 0)
    && decide ((q.cmds.map (fun x => x.id)).Nodup)

/-- The bank of a queue as bytes, row 0 first (15 R383), and read back. -/
def MxQueue.bankBytes (q : MxQueue) : Memory := q.bank.foldl (fun m p => memWrite m (4 * p.1) 4 p.2) []
def bankOf (m : Memory) : Table Nat :=
  ((List.range 16384).map (fun i => (i, memRead m (4 * i) 4))).filter (fun p => p.2 != 0)

/-- Words of the status, bound and command areas in the form in which an image holds them, and back: word i of the list is word
k + i of the three areas, combined with its free value (15 R383; log 21). -/
def maskWords : Nat → List Nat → List Nat
  | _, [] => []
  | k, w :: t => (BitVec.ofNat 64 w ^^^ Config.imageWord k).toNat :: maskWords (k + 1) t

/-- The image of a queue written to local memory (15 R383). -/
def Core.writeImage (c : Core) (a : Nat) : Core :=
  let q := c.mx
  let c1 := c.clearLocal a imageBytes
  let c2 : Core :=
    { c1 with loc := memPut (memOver (memOver (memOver c1.loc a q.bankBytes) (a + 65536) q.slot) (a + 73728) q.scales)
                       (a + 74240) (q.pocket.take 8192) }
  let c3 := (c2.putWords (a + 82432) (maskWords 0 q.statusWords)).putWords (a + 82496) (maskWords 8 q.boundWords)
  let cmds := q.cmds.flatMap MxCmd.words
  (c3.putWords (a + 82560) (maskWords 16 (cmds ++ List.replicate (64 - cmds.length) 0))).putWords (a + 83072) [min q.pocket.length 8192]

/-- 64-bit words of a memory. -/
def memWords (m : Memory) (a n : Nat) : List Nat := (List.range n).map (fun i => memRead m (a + 8 * i) 8)

/-- The queue that an image describes: none when the status or command area holds a value that no msave writes (15 R384). -/
def MxQueue.ofImage (q : MxQueue) (m : Memory) : Option MxQueue :=
  let st := maskWords 0 (memWords m 82432 8)
  let bs := maskWords 8 (memWords m 82496 8)
  let areas := (List.range 4).map (fun i => maskWords (16 + 16 * i) (memWords m (82560 + 128 * i) 16))
  let n := memRead m 83072 8
  let q1 := ({ q with rep := false } : MxQueue).withStatus st
  let cmds := (areas.map MxCmd.ofWords).reduceOption
  let bounds := boundsOfWords bs
  let q2 : MxQueue :=
    { q1 with
      bank := bankOf (memSlice m 0 65536), slot := memSlice m 65536 8192, scales := memSlice m 73728 512,
      bounds := bounds, pocket := memBytes m 74240 n, cmds := cmds }
  if q1.statusWords == st && q1.statusOk && areas.zipIdx.all (fun p => MxCmd.wordsOk (p.2 == 0) p.1) && q2.boundWords == bs
      && decide (n ≤ 8192) && n % 64 == 0 && q2.faultOk
      && (areas.dropWhile (fun w => w.any (fun x => x != 0))).all (fun w => w.all (fun x => x == 0)) then some q2
  else none

/-- A unit of the queue is in the array, which it cannot leave before it completes or faults: the rows of an mstore, or an mload whose
records have come.  The unit of an mload or mstream enters it with its operands, whose fetch can end before (15 R366, R383; log 83). -/
def MxQueue.inArray (q : MxQueue) : Bool :=
  q.fault.isNone && q.cmds.head?.any (fun x => x.granted && x.kind == 2 || x.stage == .finishing && x.kind == 0)

/-- The queue of an image taken by a core.  A command keeps its number, so that commands issued after it wait for it again, unless the
core has a command of that number; it waits for the kept commands that its footprint meets and that do not wait for it (14 R348;
log 94). -/
def Core.adopt (c : Core) (q : MxQueue) : Core :=
  let own := !q.cmds.any (fun x => c.pendingIds.contains x.id)
  let num (x : MxCmd) (i : Nat) : Nat := if own then x.id else c.cmdId + i
  let cmds := q.cmds.zipIdx.map (fun p => { p.1 with id := num p.1 p.2, edges := c.resumeEdges (num p.1 p.2) (c.edgesOf p.1.foot) })
  { c with mx := { q with cmds := cmds }, cmdId := cmds.foldl (fun n x => max n (x.id + 1)) c.cmdId }

/-- msave (15 R383): a sector on its way to the fetch unit is awaited, its pins end, and what it has read is caught in the pocket
share. -/
def State.bodyMsave (s : State) (site : Nat) (a : DWord) : SRes :=
  let c := s.core site
  match imageCheck c.xbAddr a.toInt with
  | some e => .trap s e
  | none =>
    if c.localBusy a.toInt imageBytes then .wait s .busy
    else if c.mx.inArray || s.mxArriving site then .wait s .save
    else
      .done (((s.unpinTile site).onCore site (fun c =>
        (c.writeImage a.toNat).onMx (fun q => { q with cmds := [], fault := none, rep := false, pocket := [] }))).returnLeave site 3)

/-- mrest (15 R384): the words of the image are read under their check bits. -/
def State.bodyMrest (s : State) (site : Nat) (a : DWord) : SRes :=
  let c := s.core site
  if !c.mx.cmds.isEmpty then .wait s .busy
  else
    match imageCheck c.xbAddr a.toInt with
    | some e => .trap s e
    | none =>
      if c.localBusy a.toInt imageBytes then .wait s .busy
      else
        match (if c.flips.isEmpty then (c, none) else c.eccWords ((List.range (imageBytes / 8)).map (fun i => a.toNat / 8 + i))) with
        | (c1, some e) => .trap (s.putCore site c1) e
        | (c1, none) =>
          match c1.mx.ofImage (memSlice c1.loc a.toNat imageBytes) with
          | none => .trap (s.putCore site c1) ⟨cCONV_FORMAT, a⟩
          | some q => .done (s.putCore site (c1.adopt q))

/-- A weight of 0 stored as 1; reserved nibbles are dropped (15 R367). -/
def weightWord (v : Nat) : Nat :=
  (List.range 8).foldl (fun n j => n + (max (v / 2 ^ (8 * j) % 16) 1) * 2 ^ (8 * j)) 0

/-- The weights of a cluster written (15 R367). -/
def State.writeWeights (s : State) (quad q : Nat) (v : DWord) : State :=
  { s with mxWeights := tabSet s.mxWeights (quad * 32 + q) (BitVec.ofNat 64 (weightWord v.toNat)) }

/-- A grant, and with it the unit of an mzero, which touches no memory (15 R366, R377). -/
def State.mxGrantUnit (s : State) (cluster : Nat) : State :=
  (List.range 8).foldl (fun s j =>
    let site := clusterSite cluster j
    if ((s.core site).mx.granted [3]).isSome then (s.mxStore site).mxComplete site else s) (s.mxGrant cluster)

end Sys2Proof.Machine
end

