-- ==== Sys2Proof/Machine/Coherence.lean ====
section
/-! DEFINITION. The events of token coherence: transient and persistent requests, messages, regions, resets, scrubs
(12 R287 to R298, R307, R308; 16 R403; 20 R470, R471). -/

namespace Sys2Proof.Machine

/-- Tokens of a sector leave an agent in a message (12 R284), for an agent that asks; recorded when they leave the home or are
forwarded at its request, and at the home when they reach it (19 R458). -/
def State.sendTok (s : State) (k a : Nat) (who : Asker) (m : TokMove) : State :=
  let s1 := s.leaveTok (s.sector k).slot k a who m
  let s2 : State := { s1 with msgs := tabSet s1.msgs (tabFree s1.msgs) ⟨k, m.dst, m.count, m.owner, m.data, who, m.src, a⟩ }
  if m.dst = agentHome (homeDie (64 * k)) then s2 else s2.note [s2.tokEv k a who m]

/-- What the holder of the owner token sends for a read (12 R288, R293): a token with data, the owner token when that is all it has;
to a remote-data cache up to 16, and never the owner token. -/
def Holding.forRead (h : Holding) (target : Nat) (many : Bool) : Option TokMove :=
  if many then if 2 ≤ h.count then some ⟨h.agent, target, min 16 (h.count - 1), false, true⟩ else none
  else some ⟨h.agent, target, 1, h.count == 1, true⟩

/-- What a holder sends for a request (12 R288, R293): a read gets tokens with data from the holder of the owner token, a write all
tokens of every holder. -/
def Sector.answer (x : Sector) (home holder target : Nat) (write many : Bool) : Option TokMove :=
  let h := x.holding home holder
  if h.count = 0 then none
  else if write then some ⟨holder, target, h.count, h.owner, h.owner⟩
  else if h.owner then h.forRead target many
  else none

/-- A holder sends what answers a request; the home first settles the host's copy, which it drops before the owner token leaves it
(18 R451), and meets the errors of its own copy (12 R308). -/
def State.answerTo (s : State) (k holder target : Nat) (write many : Bool) (who : Asker) : State :=
  let home := agentHome (homeDie (64 * k))
  match (s.sector k).answer home holder target write many with
  | none => s
  | some m =>
    let s0 := if m.src = home then s.settleHost (s.ownKey (64 * k)) (64 * k) target (write || m.owner) who else s
    match (if m.src = home ∧ m.data then s0.meetHbm k else (s0, false)) with
    | (s1, true) => s1
    | (s1, false) => s1.sendTok k target who m

/-- The request is a read of a cluster for a line of another die, which goes to its remote-data cache first (12 R293). -/
def TReq.viaRdc (r : TReq) (home : Nat) : Bool :=
  !r.write && !r.many && !r.direct && agentDie r.agent != agentDie home && (agentKind r.agent == 1 || agentKind r.agent == 2)

/-- A remote-data cache takes a read of a cluster of its die (12 R293): with two tokens or more it answers, with one it sends the read
on to the home, with none it asks for 16. -/
def State.rdcServes (s : State) (i : Nat) (r : TReq) : State :=
  let rdc := agentRdc (agentDie r.agent)
  let n := ((s.sector r.sector).holding (agentHome (homeDie (64 * r.sector))) rdc).count
  if 2 ≤ n then s.sendTok r.sector r.agent r.who ⟨rdc, r.agent, 1, false, true⟩
  else if n = 1 then { s with reqs := tabSet s.reqs i { r with direct := true } }
  else s.addReq r.sector rdc false r.who true

/-- A transient request has reached a holder: the home answers it and forwards it by its hint, to the agent that last received the owner
token and to the dies whose agents may hold tokens (12 R287). -/
def TReq.reached (r : TReq) (x : Sector) (home holder : Nat) : TReq :=
  let r1 : TReq := { r with done := holder :: r.done }
  if holder = home then { r1 with atHome := true, owner := x.hintOwner, dies := x.hintDies } else r1

/-- The home has forwarded the request to the holder; a request of the home itself goes by the hint as it stands (12 R287). -/
def TReq.forwardedTo (r : TReq) (x : Sector) (home holder : Nat) : Bool :=
  if r.agent = home then x.hintOwner == holder || x.hintDies.contains (agentDie holder)
  else r.atHome && (r.owner == holder || r.dies.contains (agentDie holder))

/-- A transient request reaches a holder (12 R287, R288): it answers, ignores it for a footprint pin, defers it while a tile fetch pin
stands (12 R295), or drops it; the request waits at the home
during a reset, a flip, or while the frame comes in, and the home of a frame that refuses it turns it away (12 R308; 18 R441, R442, R453). -/
def State.transient (s : State) (i holder : Nat) : State :=
  match tabGet? s.reqs i with
  | none => s
  | some r =>
    let k := r.sector
    let home := agentHome (homeDie (64 * k))
    if (s.sector k).resetting || holder == r.agent || r.done.contains holder then s
    else if r.viaRdc home then if holder = agentRdc (agentDie r.agent) then s.rdcServes i r else s
    else if holder = home && s.heldUp (64 * k) r.agent r.who then s
    else if holder = home && s.turnsAway (64 * k) r.agent r.who then { s with reqs := tabDel s.reqs i }
    else if holder ≠ home && !r.forwardedTo (s.sector k) home holder then s
    else if s.pinned k holder true then s
    else
      let s1 := s.splitFor k holder
      let s2 : State := { s1 with reqs := tabSet s1.reqs i (r.reached (s1.sector k) home holder) }
      if s2.pinned k holder false then s2 else s2.answerTo k holder r.agent r.write r.many r.who

/-- The requester lacks what its request needs (12 R285). -/
def State.lacks (s : State) (r : TReq) : Bool :=
  let h := (s.sector r.sector).holding (agentHome (homeDie (64 * r.sector))) r.agent
  if r.write then h.count != 1024 else h.count == 0 || !h.data

/-- A count of the core that asks. -/
def State.countAsker (s : State) (who : Asker) (n : Nat) : State :=
  match who.site with
  | some site => s.onCore site (fun c => c.count n 1)
  | none => s

/-- A transient request is issued again, or stays outstanding as it is (12 R289). -/
def TReq.issuedAgain (r : TReq) (again : Bool) : TReq := if again then { r with atHome := false, direct := false, done := [] } else r

/-- A transient request fails 512 cycles after its issue (12 R289): it is issued again, but neither after its third failure nor when 4,096
cycles have passed since its first issue. -/
def State.failRequest (s : State) (i : Nat) : State :=
  match tabGet? s.reqs i with
  | none => s
  | some r =>
    let now := s.agentClock r.agent
    if !s.lacks r ∨ now < r.since + 512 ∨ 3 ≤ r.fails then s
    else
      let again := decide (r.fails < 2) && decide (now < r.first + 4096)
      ({ s with reqs := tabSet s.reqs i (TReq.issuedAgain { r with fails := r.fails + 1, since := now } again) }
        : State).countAsker r.who 10

/-- The record of an activation or a deactivation (19 R458). -/
def State.persistEv (s : State) (k kind arg : Nat) (p : PReq) : TraceEv := { s.recordFor p.who p.agent k kind with arg := arg }

/-- A persistent request enters the table of its home (12 R291), one for each miss handler: after three failures of its transient
one, or 4,096 cycles after the first issue (12 R289). -/
def State.persist (s : State) (i : Nat) : State :=
  match tabGet? s.reqs i with
  | none => s
  | some r =>
    let x := s.sector r.sector
    if s.refuses (64 * r.sector) then { s with reqs := tabDel s.reqs i }
    else if !s.lacks r ∨ (r.fails < 3 ∧ s.agentClock r.agent < r.first + 4096) ∨ x.fifo.any (fun p => p.agent == r.agent && p.who == r.who) then s
    else
      let p : PReq := ⟨r.agent, r.write, r.who, false⟩
      let s1 := (s.putSector r.sector { x with fifo := x.fifo ++ [p] }).countAsker r.who 11
      if x.fifo.isEmpty then s1.note [s1.persistEv r.sector 2 1 p] else s1

/-- The cluster whose read a remote-data cache serves; the home when none asks any more. -/
def State.readerFor (s : State) (k rdc : Nat) (who : Asker) : Nat :=
  ((s.reqs.find? (fun p => p.2.sector == k && p.2.who == who && p.2.agent != rdc)).map (fun p => p.2.agent)).getD
    (agentHome (homeDie (64 * k)))

/-- An agent receives an activation and forwards what it holds (12 R292): a tile fetch pin defers it, a footprint pin that loses its
tokens lapses (12 R295).  The owner token never goes to a remote-data cache (12 R293): it goes to the cluster that it serves. -/
def State.activate (s : State) (k agent : Nat) : State :=
  let x := s.sector k
  match x.fifo with
  | [] => s
  | p :: _ =>
    let coming := !p.write && s.msgs.any (fun m => m.2.sector == k && m.2.target == p.agent)
    let home := agentHome (homeDie (64 * k))
    if x.resetting || p.served || coming || agent == p.agent || s.pinned k agent true
      || (agent == home && s.heldUp (64 * k) p.agent p.who) then s
    else
      let h := x.holding home agent
      let rdc := agentKind p.agent == 3
      let target := if rdc && h.owner && h.count == 1 then s.readerFor k p.agent p.who else p.agent
      (s.splitFor k agent).answerTo k agent target p.write (rdc && target == p.agent) p.who

/-- A read of a walk, or an access of the device for an idle core, performs when what it needs is there: nothing holds it back. -/
def State.performsAlone (s : State) (k : Nat) (p : PReq) : Bool :=
  let h := (s.sector k).holding (agentHome (homeDie (64 * k))) p.agent
  (if p.write then h.count == 1024 else decide (0 < h.count) && h.data)
    && (match p.who with
        | .walk _ _ => !p.write
        | .eng site 5 => (s.core site).run == .idle
        | _ => false)

/-- The access of a persistent request has gone: its core has ended it otherwise, no request of it is left, or it performs by itself. -/
def State.gone (s : State) (k : Nat) (p : PReq) : Bool :=
  !s.asks p.who || s.performsAlone k p || (match p.who with
    | .unit _ => false
    | _ => !s.reqs.any (fun r => r.2.sector == k && r.2.agent == p.agent && r.2.who == p.who))

/-- The home deactivates a request that has been served, or whose access has gone, and activates the next (12 R292). -/
def State.deactivate (s : State) (k : Nat) : State :=
  let x := s.sector k
  match x.fifo with
  | [] => s
  | p :: t =>
    if !p.served && !s.gone k p then s
    else
      let s1 := (s.putSector k { x with fifo := t }).note [s.persistEv k 3 0 p]
      match t with
      | [] => s1
      | q :: _ => s1.note [s1.persistEv k 2 t.length q]

/-- Where an agent keeps or sends tokens that reach it (12 R290, R292): without a request of its own, to the agent of the active
persistent request, else home; for an active write always to its agent.  An owner token never stays in a remote-data cache
(12 R293). -/
def State.receiver (s : State) (m : Msg) : Nat :=
  let x := s.sector m.sector
  let home := agentHome (homeDie (64 * m.sector))
  let wanted := s.reqs.any (fun p => p.2.agent == m.target && p.2.sector == m.sector)
  let dest :=
    match x.fifo.head? with
    | some p => if p.agent = m.target ∨ (wanted ∧ !p.write) then m.target else p.agent
    | none => if wanted then m.target else home
  if m.owner && agentKind dest == 3 then home else dest

/-- Tokens reach an agent (12 R290): it keeps them, in a slice with room made first (10 R250), or sends them on; during a reset it
discards them (12 R308).  The owner
token that returns to the home brings the line's current data (12 R286, R301); what reaches a remote-data cache answers its
request. -/
def State.receive (s : State) (i : Nat) : State :=
  match tabGet? s.msgs i with
  | none => s
  | some m =>
    let s1 : State := { s with msgs := tabDel s.msgs i }
    let k := m.sector
    let home := agentHome (homeDie (64 * k))
    if (s1.sector k).resetting then s1
    else if m.owner && m.target == home && s1.cramped (lineOf k) true then s
    else
      let dest := if (s1.makeSlot m.target (lineOf k) m.who).isNone then home else s1.receiver m
      if dest ≠ m.target then { s1 with msgs := tabSet s1.msgs (tabFree s1.msgs) { m with target := dest, src := m.target } }
      else
        let mv : TokMove := ⟨m.target, m.target, m.count, m.owner, m.data⟩
        let s2 := ((s1.makeSlot m.target (lineOf k) m.who).getD s1).reachTok (s1.sector k).slot k mv
        let s3 := if m.target = home then s2.note [{ s2.tokEv k m.asker m.who mv with from_ := m.src }] else s2
        if agentKind m.target = 3 then s3.answered k m.target m.who else s3

/-- The home takes a hint update (12 R287). -/
def State.hint (s : State) (i : Nat) : State :=
  match tabGet? s.hints i with
  | none => s
  | some h =>
    let x := s.sector h.sector
    let dies := if x.hintDies.contains (agentDie h.owner) then x.hintDies else x.hintDies ++ [agentDie h.owner]
    { s.putSector h.sector { x with hintOwner := h.owner, hintDies := dies } with hints := tabDel s.hints i }

/-- A piece can be of a mode: it is held in that mode, or it is one line, of which the cluster's tokens decide. -/
def Region.inMode (r : Region) (excl : Bool) : Bool := r.excl == excl || decide (r.size ≤ 2)

/-- Two halves of an aligned piece merge when the cluster holds both in one mode and neither has had a request for 16,384 cycles
(12 R298): the piece has been idle as long as the later of them. -/
def State.mergeRegion (s : State) (cluster base size : Nat) : State :=
  let now := s.clusterCyc cluster
  let half (b : Nat) : Option Region := s.regions.find? (fun r => r.cluster == cluster && r.base == b && r.size == size)
  match half base, half (base + size) with
  | some x, some y =>
    let may (excl : Bool) : Bool :=
      x.inMode excl && y.inMode excl && (List.range (2 * size)).all (fun i => s.holdsBulk cluster excl (base + i))
    match [true, false].find? may with
    | none => s
    | some excl =>
      if base % (2 * size) = 0 ∧ 2 * size ≤ 1024 ∧ x.since + 16384 ≤ now ∧ y.since + 16384 ≤ now then
        { s with regions :=
            { x with size := 2 * size, excl := excl, since := max x.since y.since } :: s.regions.filter (fun r => r != x && r != y) }
      else s
  | _, _ => s

/-- The home grants an aligned region in bulk to a cluster when it holds what the mode needs of every sector (12 R296), within the
lines that the cluster's slices hold (10 R250). -/
def State.grantRegion (s : State) (cluster base : Nat) (excl : Bool) (who : Asker) : State :=
  let ks := (List.range 1024).map (fun i => base + i)
  let home := agentHome (homeDie (64 * base))
  let slice (k : Nat) : Nat := cluster / 128 * 16384 + 2048 + cluster % 128 * 8 + k / 2 % 8
  let can (k : Nat) : Bool :=
    let x := s.sector k
    !x.resetting && x.fifo.isEmpty && x.homeOwner && (if excl then x.home == 1024 else decide (2 ≤ x.home))
      && !s.inFlight k && !s.pinned k home false && (tabGet? s.hbmErr k).isNone
      && ((s.die (homeDie (64 * k))).l2.errOf (lineOf k)).isNone
  let room (a : Nat) : Bool := decide ((s.sliceLines a).length + 64 ≤ 512)
  let busy (g : Nat) : Bool := s.flipping (64 * base + 4096 * g) || s.biasLost (64 * base + 4096 * g)
  if base % 1024 ≠ 0 ∨ !ks.all can ∨ !((List.range 8).all (fun i => room (slice (2 * i)))) ∨ (List.range 16).any busy
      ∨ s.incoming (64 * base) ∨ s.refuses (64 * base) then s
  else
    let s1 := ks.foldl (fun s k =>
      let s := s.settleHost (s.ownKey (64 * k)) (64 * k) (slice k) excl who
      s.moveTok (s.sector k).slot k (slice k) who ⟨home, slice k, if excl then 1024 else 1, excl, true⟩) s
    { s1 with regions :=
        ⟨cluster, base, 1024, excl, s1.clusterCyc cluster⟩ :: s1.regions.filter (fun r => r.cluster != cluster || r.base / 1024 != base / 1024) }

/-- Regions asked for in bulk by an engine of a core (12 R296), at virtual addresses of their first bytes. -/
def State.askRegions (s : State) (site eng : Nat) (write : Bool) : List Nat → State
  | [] => s
  | va :: t =>
    match s.translate site va with
    | (s1, .leaf e) =>
      (if pteType e.pte = 0 then s1.grantRegion (sitePkgCluster site) (e.pa va / 64) write (.eng site eng) else s1).askRegions site eng write t
    | (s1, _) => s1.askRegions site eng write t

/-- A line arrives from HBM (12 R301), its errors met (16 R403). -/
def State.hbmFill (s : State) (line : Nat) : State :=
  let s1 := ((s.meetHbm (2 * line)).1.meetHbm (2 * line + 1)).1
  s1.fillLine (s1.sector (2 * line)).slot line

/-- The last acknowledgement ends a reset (12 R308): the home holds fresh tokens, and the sector is poisoned and
logged. -/
def State.endReset (s : State) (k : Nat) : State :=
  let x := s.sector k
  if !x.resetting then s
  else
    (({ s.putSector k { x with resetting := false, poison := true, home := 1024, homeOwner := true, held := [],
                               hintOwner := agentHome (homeDie (64 * k)), hintDies := [] } with
        msgs := s.msgs.filter (fun p => p.2.sector != k), hbmErr := tabDel s.hbmErr k } : State)).logRecord
      (homeDie (64 * k)) ⟨2, x.unit, cUNCORRECTABLE, BitVec.ofNat 64 (64 * k)⟩ 0 none 0

/-- CLR of the level-two statistics (12 R307). -/
def State.clearL2 (s : State) (die : Nat) : State :=
  s.putDie die { s.die die with l2 := { (s.die die).l2 with hhit := 0, hmis := 0, rcov := 0 } }

/-- A slot being scrubbed is free again when no sector carries its tag (20 R471). -/
def State.freeSlots (s : State) : State :=
  { s with hub := { s.hub with keySlots := s.hub.keySlots.map (fun p =>
      if p.2 = 2 ∧ s.sectors.all (fun q => q.2.slot != p.1) then (p.1, 0) else p) } }

/-- A sector zeroed and tagged with slot 0xFF and the current epoch (20 R470, R471), once its tokens are at the home; a line that the
cache holds is placed anew (12 R301). -/
def State.zeroSector (s : State) (k : Nat) : State :=
  let s1 := s.recallOwn k
  let x := s1.sector k
  if x.home ≠ 1024 ∨ x.resetting then s1
  else
    let s2 : State := { s1.putSector k { x with slot := 0xFF, epoch := s1.pe, poison := false } with mem := memWrite s1.mem (64 * k) 64 0 }
    match tabGet? (s2.die (homeDie (64 * k))).l2.tags (lineOf k) with
    | some t => s2.placeLine t.key (lineOf k)
    | none => s2

/-- A scrub engine reads a sector within its budget (16 R403, 14 R362): it corrects or resets it, and zeroes one of an
earlier epoch or of a discarded slot. -/
def State.scrub (s : State) (k : Nat) : State :=
  let die := homeDie (64 * k)
  if !s.mayCharge die 0 || !s.backed (64 * k) 64 then s
  else
    let s1 := (s.charge die 0).meetSwatch (lineOf k)
    let x := s1.sector k
    if x.resetting then s1
    else
      match tabGet? s1.hbmErr k with
      | some true => if x.homeOwner then s1.startReset k 6 else s1
      | some false => ({ s1 with hbmErr := tabDel s1.hbmErr k } : State).logFixed die 6 (64 * k)
      | none =>
        if x.epoch ≠ s1.pe ∨ tabGet s1.hub.keySlots x.slot 0 = 2 then (s1.zeroSector k).freeSlots else s1.freeSlots

end Sys2Proof.Machine
end

