-- ==== Sys2Proof/Machine/Bias.lean ====
section
/-! DEFINITION. The host and the fabric peers at the homes: the bias table (18 R451 to R454), host reads and writes, snoops of
type-H lines (18 R455), peers' accesses (18 R449). -/

namespace Sys2Proof.Machine

/-- The two bits of a granule written by the hub (18 R452): EXP, HB. -/
def State.putBias (s : State) (g : Nat) (exp hb : Bool) : State :=
  let a := s.biasByte g
  let sh := 2 * (g % 4)
  let old := s.readOwn a 1
  let keep := old - old / 2 ^ sh % 4 * 2 ^ sh
  s.writeOwn a 1 (keep + ((if exp then 1 else 0) + (if hb then 2 else 0)) * 2 ^ sh)

/-- A bias command completed (18 R452). -/
def State.biasDone (s : State) : State := { s with hub := { s.hub with hbDone := s.hub.hbDone + 1 } }

/-- hb.cmd (18 R452): 0 flip to device bias, 1 flip to host bias, 2 expose, 3 withdraw; any other value does not occur
(log 23). -/
def State.biasCmd (s : State) (g op : Nat) : State :=
  let exp := s.exposed (g * 4096)
  let hb := s.hostBias (g * 4096)
  let fly (s : State) (f : Flip) : State := { s with hub := { s.hub with flips := s.hub.flips ++ [f] } }
  if 8 ≤ s.hub.flips.length then { s with hub := { s.hub with hbDrop := true } }
  else if !s.hub.hbSet || !s.backed (g * 4096) 4096 then s.biasDone
  else
    match op with
    | 0 => if hb then fly s ⟨g, false, false, []⟩ else s.biasDone
    | 1 => if exp && !hb then fly s ⟨g, true, false, []⟩ else s.biasDone
    | 2 =>
      let s1 := if exp then s else s.putBias g true hb
      if hb then fly s1 ⟨g, false, false, []⟩ else s1.biasDone
    | _ => if hb then fly s ⟨g, false, true, []⟩ else (if exp then s.putBias g false false else s).biasDone

/-- The sectors of a granule. -/
def granSectors (g : Nat) : List Nat := (List.range 64).map (fun i => 64 * g + i)

/-- The host's copy of a sector given up (18 R453). -/
def State.recallHost (s : State) (k : Nat) (who : Asker) : State :=
  if (s.sector k).host = .i then s else s.backInvalidate (s.ownKey (64 * k)) k (agentHome (homeDie (64 * k))) who .i

/-- What a flip has done with a sector still stands (18 R453). -/
def State.flipStands (s : State) (f : Flip) (k : Nat) : Bool :=
  f.done.contains k && (if f.toHost then (s.sector k).home == 1024 else (s.sector k).host == .i)

/-- A flip goes on (18 R453): the collection or the back-invalidation of its sectors, as far as it goes now, then the bit; EXP stays,
but for a withdrawal. -/
def State.flipEnd (s : State) (g : Nat) : State :=
  match s.hub.flips.find? (fun f => f.gran == g) with
  | none => s
  | some f =>
    let who := Asker.unit (homeDie (4096 * g))
    let left := (granSectors g).filter (fun k => !s.flipStands f k)
    let kept := (granSectors g).filter (s.flipStands f)
    match (if f.toHost then s.recallAll who left else (left.foldl (fun s k => s.recallHost k who) s, left)) with
    | (s1, ks) =>
      if ks.length < left.length then
        { s1 with hub := { s1.hub with flips := s1.hub.flips.map (fun x => if x = f then { f with done := kept ++ ks } else x) } }
      else
        let s2 := s1.putBias g (s1.exposed (g * 4096) && !f.withdraw) f.toHost
        ({ s2 with hub := { s2.hub with flips := s2.hub.flips.erase f } } : State).biasDone

/-- An access by the host or a peer to a granule that is not exposed: poisoned data or a dropped write, logged with unit 9
(18 R449, R451). -/
def State.unexposed (s : State) (pa : Nat) : State :=
  s.logRecord (homeDie pa) ⟨0, 9, 0, BitVec.ofNat 64 pa⟩ 0 none 0

/-- The owner token recalled to the home (18 R451); none, when it must wait. -/
def State.recallOwner (s : State) (k : Nat) : Option State :=
  let home := agentHome (homeDie (64 * k))
  let x := s.sector k
  if x.homeOwner then some s
  else
    match x.ownerHolder home with
    | none => none
    | some h =>
      let m : TokMove := ⟨h.agent, home, 1, true, true⟩
      if s.deferred k home .host false [m] then none else some (s.moveTok (s.ownKey (64 * k)) k home .host m)

/-- A request of the host or a peer for a sector waits at the home (18 R441, R453; 12 R308): during a flip until its part of the
sector is finished, and at a frame that comes in or refuses, but for one whose persistent request is active. -/
def State.homeBusy (s : State) (k : Nat) (who : Asker) : Bool :=
  let home := agentHome (homeDie (64 * k))
  (((s.flipping (64 * k) && !s.flipped k) || s.incoming (64 * k)) && !s.activeFor k home who) || s.turnsAway (64 * k) home who
    || (s.sector k).resetting || s.biasLost (64 * k)

/-- The home answers the host under host bias; during a flip under device bias (18 R451, R453). -/
def State.underHost (s : State) (k : Nat) : Bool := s.hostBias (64 * k) && !s.flipping (64 * k)

/-- The host's state of a sector recorded. -/
def State.setHost (s : State) (k : Nat) (h : HostCopy) : State := s.putSector k { s.sector k with host := h }

/-- The home collects for a request of the host or a peer what it needs (12 R285, 18 R451), or leaves a request of its own. -/
def State.homeObtain (s : State) (k : Nat) (write : Bool) (who : Asker) : Acc Nat :=
  let home := agentHome (homeDie (64 * k))
  s.obtainAt (s.ownKey (64 * k)) k home write who (fun t => t.addReq k home write who false)

/-- What becomes of the machine when a sequence of the home's stands still. -/
def Acc.orWait (r : Acc Nat) (f : State → State) : State :=
  match r with
  | .ok s _ => f s
  | .wait s => s
  | .trap s _ => s

/-- A host request that its home can answer now does so within the budget of host DMA (14 R362). -/
def State.hostDma (s : State) (k : Nat) (f : State → State) : State :=
  let die := homeDie (64 * k)
  if s.homeBusy k .host || !s.mayCharge die 5 then s else f (s.charge die 5)

/-- A host read (18 R451). -/
def State.hostRead (s : State) (k : Nat) : State :=
  if !s.backed (64 * k) 64 || s.homeBusy k .host then s
  else if !s.exposed (64 * k) then s.unexposed (64 * k)
  else if s.underHost k then
    match s.recallOwner k with
    | none => s.addReq k (agentHome (homeDie (64 * k))) false .host false
    | some s1 =>
      match s1.meetHbm k with
      | (s2, true) => s2
      | (s2, false) => if (s2.sector k).host = .x then s2 else s2.setHost k .s
  else (s.homeObtain k false .host).orWait id

/-- A host read for ownership (18 R451). -/
def State.hostReadOwn (s : State) (k : Nat) : State :=
  if !s.backed (64 * k) 64 || s.homeBusy k .host then s
  else if !s.exposed (64 * k) then s.unexposed (64 * k)
  else if s.underHost k then
    if (s.sector k).host = .x then s
    else
      (s.homeObtain k true .host).orWait (fun s1 =>
        { s1.setHost k .x with hostCache := tabSet s1.hostCache k (s1.readOwn (64 * k) 64) })
  else (s.homeObtain k false .host).orWait id

/-- Bytes chosen by a mask over 64 bytes. -/
def maskBytes (old new mask : Nat) : Nat :=
  (List.range 64).foldl (fun n i => n + (if mask.testBit i then new / 256 ^ i % 256 else old / 256 ^ i % 256) * 256 ^ i) 0

/-- A host write or write-back (18 R451): the home holds every token while the host state is X, and collects them otherwise. -/
def State.hostWrite (s : State) (k data mask : Nat) : State :=
  if !s.backed (64 * k) 64 || s.homeBusy k .host then s
  else if !s.exposed (64 * k) then s.unexposed (64 * k)
  else
    let key := s.ownKey (64 * k)
    let put (s1 : State) : State :=
      let v := maskBytes (s1.readOwn (64 * k) 64) data mask
      let s2 := (s1.homeWrite key (64 * k) 64 v).healed k (if mask = 2 ^ 64 - 1 then 64 else 0)
      if (s2.sector k).host = .x then { s2 with hostCache := tabSet s2.hostCache k v } else s2
    if (s.sector k).host = .x then put s else (s.homeObtain k true .host).orWait put

/-- A snoop of a type-H line reaches every slice that holds it (18 R455). -/
def State.hostSnoop (s : State) (line : Nat) (excl : Bool) : State :=
  match tabGet? s.hostLines line with
  | none => s
  | some h =>
    { s with hostLines := if excl then tabDel s.hostLines line else tabSet s.hostLines line { h with excl := false } }

/-- The operation of a peer, by its number: 0 load, 1 store, 2 to 10 AMO, 11 cas, 12 incw, 13 faddb (18 R449). -/
def peerOp (op v1 v2 : Nat) : MemOp :=
  match op with
  | 0 => .load
  | 1 => .store v1
  | 11 => .cas v1 v2
  | 12 => .incw v1
  | 13 => .faddb v1 v2
  | n => .amo (n - 2) v1

/-- A frame refuses a peer that is no Calram 9400: counted in REFUSE of its window (18 R442). -/
def State.peerRefused (s : State) (port : Nat) : State :=
  match s.hub.windows.find? (fun p => p.2.map.getLsbD 63 && p.2.port == port && !p.2.map.getLsbD 62) with
  | some (w, _) => s.countWindow (w * 2 ^ 40) false
  | none => s

/-- A store of a whole sector by a peer to an incoming frame, the copy of the migration engine that drives it: the key slot of the page at
its new place (18 R444; log 79). -/
def State.drives (s : State) (op n pa : Nat) : Option Nat := if op = 1 ∧ n = 64 then tabGet? s.incomingFrames (pa / 65536) else none

/-- ARG of a peer's atomic (19 R458): the AMO function code (03 R77) or the SUB of an AMOX (10 R259). -/
def peerArg (op n : Nat) : Nat :=
  let w := n == 4
  if op ≤ 10 then op - 2 + (if w then 16 else 0) else 2 * (op - 11) + (if w then 1 else 0)

/-- A peer's access, served at the home as in device bias (18 R449); a sector that the driving engine copies poisoned is poisoned here as
well (18 R441, R444). -/
def State.peerAccess (s : State) (op n pa v1 v2 port : Nat) (bad : Bool) : State :=
  let k := pa / 64
  let who := Asker.peer port
  let new := s.drives op n pa
  if !s.backed pa n || pa % n != 0 then s
  else if s.turnsAway pa (agentHome (homeDie pa)) who then s.peerRefused port
  else if s.homeBusy k who && !(new.isSome && !(s.sector k).resetting) then s
  else if !s.exposed pa && new.isNone then s.unexposed pa
  else
    let o := peerOp op (v1 % 2 ^ (8 * n)) (v2 % 2 ^ (8 * n))
    let key := new.getD (s.ownKey pa)
    (s.homeObtain k (op != 0) who).orWait (fun s1 =>
      if (s1.sector k).poison && op != 1 then s1
      else
        let s2 := match o.result n (s1.readOwn pa n) with
          | none => s1
          | some v => (s1.homeWrite key pa n v).healed k n
        if new.isSome && bad then s2.putSector k { s2.sector k with poison := true }
        else if op ≤ 1 then s2
        else s2.note [{ s2.recordFor who (agentPeer port) k 5 with key := key, arg := peerArg op n }])

end Sys2Proof.Machine
end

