-- ==== Sys2Proof/Machine/Trace.lean ====
section
/-! DEFINITION. The trace units of the dies and the time copies (19 R456 to R461). -/

namespace Sys2Proof.Machine

/-- Fields of the trace control register (19 R456). -/
def TraceUnit.en (t : TraceUnit) : Bool := t.ctl.getLsbD 0
def TraceUnit.wrap (t : TraceUnit) : Bool := t.ctl.getLsbD 1
def TraceUnit.minSc (t : TraceUnit) : Nat := t.ctl.toNat / 16 % 8
def TraceUnit.kinds (t : TraceUnit) : Nat := t.ctl.toNat / 256 % 256
def TraceUnit.pages (t : TraceUnit) : Nat := min t.npg 256

/-- The trace unit of a die changed. -/
def State.onTrace (s : State) (die : Nat) (f : TraceUnit → TraceUnit) : State :=
  s.putDie die { s.die die with tr := f (s.die die).tr }

/-- The unit records now: it is enabled and its die has power (19 R456, R461). -/
def State.powered (s : State) (die : Nat) : Bool := (s.die die).gated.isNone
def State.tracing (s : State) (die : Nat) : Bool := (s.die die).tr.en && s.powered die

/-- The four words of a record (19 R458). -/
def TraceEv.words (e : TraceEv) (delta : Nat) : List Nat :=
  [ e.kind * 2 ^ 58 + e.scope * 2 ^ 55 + e.count * 2 ^ 44 + delta * 2 ^ 24 + e.ss,
    e.from_ * 2 ^ 48 + e.pa,
    e.target * 2 ^ 48 + e.key * 2 ^ 40 + e.owner * 2 ^ 20 + (match e.core with
                                                        | some n => n
                                                        | none => 2 ^ 12),
    e.arg ]

/-- A record of the unit itself: TIME 9, RESYNC 10, TRACE_GAP 11. -/
def unitRecord (kind delta arg : Nat) : List Nat := [kind * 2 ^ 58 + delta * 2 ^ 24, 0, 2 ^ 12, arg]

/-- A record held for its page, or dropped when the buffer has no room or the list is full (19 R459). -/
def TraceUnit.push (t : TraceUnit) (r : List Nat) : TraceUnit :=
  if t.full || decide (128 ≤ t.buf.length) then { t with drop := min (t.drop + 1) (2 ^ 32 - 1), gap := t.gap + 1 }
  else { t with buf := t.buf ++ [r] }

/-- A page may be written now: its home does not refuse it, and a granule of it that is exposed is reached through a bias-managed leaf
(18 R442, R451). -/
def State.traceMay (s : State) (p : TracePage) (at_ : Nat) : Bool := !s.refuses at_ && (p.bm || !s.exposed at_)

/-- Page i of the list; none when it is invalid or cannot be written now, or when its place in the list cannot be read (19 R457, R459;
18 R451, 12 R308). -/
def State.tracePage (s : State) (die i : Nat) : State × Option TracePage :=
  let at_ := ((s.die die).tr.list.toNat + 8 * i) % 2 ^ 64
  match s.walk die none at_ with
  | (s1, .leaf e) =>
    if pteType e.pte ≠ 0 ∨ !s1.traceMay ⟨at_, e.pa at_, pteKey e.pte, pteBm e.pte⟩ (e.pa at_) ∨ !s1.sound (e.pa at_ / 64) then (s1, none)
    else
      let va := s1.readPa (pteKey e.pte) (e.pa at_) 8 / 65536 * 65536
      match s1.walk die none va with
      | (s2, .leaf p) =>
        let page : TracePage := ⟨va, p.pa va, pteKey p.pte, pteBm p.pte⟩
        (s2, if pteType p.pte = 0 ∧ s2.traceMay page page.pa then some page else none)
      | (s2, _) => (s2, none)
  | (s1, _) => (s1, none)

/-- The first of some pages of the list that is valid. -/
def State.traceFind (s : State) (die : Nat) : List Nat → State × Option (Nat × TracePage)
  | [] => (s, none)
  | i :: t =>
    match s.tracePage die i with
    | (s1, some p) => (s1, some (i, p))
    | (s1, none) => s1.traceFind die t

/-- A record written as 32 bytes at its home, within the budget of the trace drain (14 R362): false, when it must wait. -/
def State.traceWrite (s : State) (die key pa : Nat) (r : List Nat) : State × Bool :=
  if !s.mayCharge die 2 then (s, false)
  else
    match s.applyHome key pa 32 (r.foldr (fun v n => v % 2 ^ 64 + 2 ^ 64 * n) 0) (.unit die) with
    | .ok s1 _ => (s1.charge die 2, true)
    | .wait s1 => (s1, false)
    | .trap s1 _ => (s1, false)

/-- The pages that a unit tries from page i on, in list order: round to page 0 only with WRAP (19 R459). -/
def TraceUnit.following (t : TraceUnit) (i : Nat) : List Nat :=
  if t.wrap then (List.range t.pages).map (fun j => (i + j) % t.pages) else (List.range (t.pages - i)).map (fun j => i + j)

/-- DELTA of the TRACE_GAP record (19 R459, R460; log 22): records that the buffer holds count from the record before it; and a TIME
record follows it where DELTA would not fit. -/
def TraceUnit.late (t : TraceUnit) (now : Nat) : Bool := t.buf.isEmpty && decide (2 ^ 20 ≤ now - t.last)
def TraceUnit.gapDelta (t : TraceUnit) (now : Nat) : Nat := if t.buf.isEmpty && !t.late now then now - t.last else 0

/-- A stopped unit tries the following pages and opens the first valid one with a TRACE_GAP record (19 R459; log 22). -/
def State.traceResume (s : State) (die : Nat) : State :=
  let t := (s.die die).tr
  match t.stopped with
  | none => s
  | some first =>
    if !s.tracing die then s
    else
      match s.traceFind die (t.following first) with
      | (s1, none) => s1
      | (s1, some (i, p)) =>
        match s1.traceWrite die p.key p.pa (unitRecord 11 (t.gapDelta s.time) t.gap) with
        | (s2, false) => s2
        | (s2, true) =>
          s2.onTrace die (fun t =>
            { t with page := i, rec_ := 1, open_ := some p, stopped := none, gap := 0,
                     buf := if t.late s.time then [unitRecord 9 0 s.time] else t.buf,
                     last := if t.buf.isEmpty then s.time else t.last })

/-- The unit stopped at a record boundary (19 R459): it tries from a page on. -/
def TraceUnit.stop (t : TraceUnit) (first : Nat) : TraceUnit := { t with open_ := none, stopped := some first }

/-- Page i opened after the one before it, or the unit stopped there (19 R457, R459). -/
def State.traceOpen (s : State) (die i : Nat) : State :=
  match s.tracePage die i with
  | (s1, some p) => s1.onTrace die (fun t => { t with page := i, rec_ := 0, open_ := some p, stopped := none })
  | (s1, none) => (s1.onTrace die (fun t => t.stop i)).traceResume die

/-- The page that follows a full one; with a full last one and without WRAP every later record is dropped (19 R459). -/
def State.traceTurn (s : State) (die : Nat) : State :=
  let t := (s.die die).tr
  if t.page + 1 < t.pages then s.traceOpen die (t.page + 1)
  else if t.wrap then s.traceOpen die 0
  else s.onTrace die (fun t =>
    { t with full := true, open_ := none, buf := [], drop := min (t.drop + t.buf.length) (2 ^ 32 - 1), gap := t.gap + t.buf.length })

/-- The unit stops at its open page. -/
def State.traceStop (s : State) (die : Nat) : State := (s.onTrace die (fun t => t.stop (t.page + 1))).traceResume die

/-- Records leave the buffer for the open page while they can, at most n (19 R457, R459). -/
def State.traceDrain (s : State) (die : Nat) : Nat → State
  | 0 => s
  | n + 1 =>
    let t := (s.die die).tr
    match t.buf, t.open_ with
    | r :: rest, some p =>
      let at_ := p.pa + 32 * t.rec_
      if t.stopped.isSome || !s.powered die then s
      else if !s.traceMay p at_ then s.traceStop die
      else
        match s.traceWrite die p.key at_ r with
        | (s1, false) => s1
        | (s1, true) =>
          let s2 := s1.onTrace die (fun t => { t with buf := rest, rec_ := t.rec_ + 1 })
          (if (s2.die die).tr.rec_ = 2048 then s2.traceTurn die else s2).traceDrain die n
    | _, _ => s

/-- The unit records the event (19 R456). -/
def TraceUnit.takes (t : TraceUnit) (e : TraceEv) : Bool :=
  t.kinds.testBit (e.kind - 1) && decide (t.minSc ≤ e.scope) && decide (t.lo.toNat ≤ e.pa) && decide (e.pa < t.hi.toNat)

/-- An event recorded with its DELTA, a TIME record first when DELTA would not fit (19 R458, R460). -/
def State.traceOne (s : State) (e : TraceEv) : State :=
  let t := (s.die e.die).tr
  if !s.tracing e.die || !t.takes e then s
  else
    let delta := s.time - t.last
    let long := decide (2 ^ 20 ≤ delta)
    (s.onTrace e.die (fun t =>
      let t1 := (if long then t.push (unitRecord 9 0 s.time) else t).push (e.words (if long then 0 else delta))
      { t1 with last := if t.buf.length < t1.buf.length then s.time else t.last })).traceDrain e.die 130

/-- The events noted during a step recorded. -/
def State.traceAll (s : State) : State :=
  s.traceQ.foldl (fun s e => s.traceOne e) ({ s with traceQ := [] } : State)

/-- The first page of an enabled unit opened, and the records held for it written (19 R456, R457). -/
def State.traceBegin (s : State) (die : Nat) : State :=
  (if (s.die die).tr.pages = 0 then s else s.traceOpen die 0).traceDrain die 130

/-- A write of tr.ctl (19 R456): setting EN starts the list, with a TIME record first; on a die without power that record and the first
page wait for the wake (19 R461; log 22). -/
def State.traceControl (s : State) (die : Nat) (v : DWord) : State :=
  let v := v &&& 0xFF73
  let t := (s.die die).tr
  if v.getLsbD 0 && !t.en then
    let t1 : TraceUnit :=
      { t with ctl := v, drop := 0, page := 0, rec_ := 0, full := false, buf := [], open_ := none, last := s.time, gap := 0, stopped := none }
    if !s.powered die then s.onTrace die (fun _ => t1)
    else (s.onTrace die (fun _ => { t1 with buf := [unitRecord 9 0 s.time] })).traceBegin die
  else s.onTrace die (fun t => { t with ctl := v })

/-- A shootdown drops the translation of the open page and stops the unit (19 R459); size 0 stands for every address. -/
def State.traceShoot (s : State) (base size : Nat) : State :=
  [0, 1, 2, 3].foldl (fun s die =>
    match (s.die die).tr.open_ with
    | some p => if size = 0 ∨ (p.va < base + size ∧ base < p.va + 65536) then s.traceStop die else s
    | none => s) s

/-- The record of a wake is always held (19 R456, R461): the newest record of a full buffer is dropped for it (log 22). -/
def TraceUnit.resync (t : TraceUnit) (now : Nat) : TraceUnit :=
  let t1 := if 128 ≤ t.buf.length then { t with buf := t.buf.dropLast, drop := min (t.drop + 1) (2 ^ 32 - 1), gap := t.gap + 1 } else t
  { t1.push (unitRecord 10 0 now) with last := now }

/-- A die wakes: its time copy is loaded, and its trace unit writes a RESYNC record first (19 R461), before the TIME record of a unit
enabled meanwhile. -/
def State.wakeDie (s : State) (die : Nat) : State :=
  let s1 := s.putDie die { s.die die with gated := none }
  let t := (s1.die die).tr
  let fresh := t.buf.isEmpty && t.open_.isNone && t.stopped.isNone && !t.full
  if !t.en then s1
  else if fresh then (s1.onTrace die (fun t => { t with buf := [unitRecord 10 0 s.time, unitRecord 9 0 s.time], last := s.time })).traceBegin die
  else (s1.onTrace die (fun t => t.resync s.time)).traceDrain die 130

end Sys2Proof.Machine
end

