-- ==== Sys2Proof/Machine/Rounds.lean ====
section
/-! DEFINITION. Rounds on the notification network: shootdowns (10 R249, 16 R409), shutters (11 R273, R281) and rlbinv rounds
(16 R410). -/

namespace Sys2Proof.Machine

/-- Two runs of bytes meet; a size of 0 stands for every address. -/
def runsMeet (a n base size : Nat) : Bool := size == 0 || (decide (a < base + size) && decide (base < a + n))

/-- An access goes to the new frame of a migration that switches its page: it was translated by the new leaf, not by one that the
migration's shootdown drops (18 R441, R442). -/
def State.redirected (s : State) (va pa : Nat) : Bool :=
  s.migs.any (fun m => m.round.isSome && m.new == pa / 65536 && m.va / 65536 == va / 65536)

/-- Accesses to a range that have passed their checks and not performed remain: posted stores, and accesses that a party
outside has not answered (10 R249, 11 R273).  One that its home refuses is translated again, and no more in the way of a migration's
shootdown when the new leaf translates it (18 R441, R442). -/
def State.inHand (s : State) (base size : Nat) (shoot : Bool) : Bool :=
  s.cores.any (fun p =>
    p.2.posted.any (fun q => runsMeet q.va q.n base size && !(shoot && s.redirected q.va q.pa))
      || p.2.out.any (fun o => runsMeet o.va o.n base size && !(shoot && s.redirected o.va o.pa)))

/-- Announced ordered operations translated in a range remain (10 R249). -/
def State.ordsIn (s : State) (base size : Nat) : Bool :=
  s.ords.any (fun p => !p.2.back && !s.redirected p.2.va p.2.pa && runsMeet p.2.va 8 base size)

/-- Every condition of a round's completion holds. -/
def State.roundReady (s : State) (k : RoundKind) : Bool :=
  match k with
  | .shoot base size => !s.inHand base size true && !s.ordsIn base size
  | .shutter _ b l => !s.inHand b (l - b) false
  | .rlb _ => !s.inHand 0 0 false

/-- RLB entries of an owner, 0 for all, that overlap [b, l) dropped in every core (11 R273, 16 R410). -/
def State.dropRights (s : State) (owner b l : Nat) : State :=
  { s with cores := s.cores.map (fun p =>
      (p.1, { p.2 with rlb := p.2.rlb.filter (fun e => !((owner == 0 || e.owner == owner) && e.overlaps b l)) })) }

/-- What a round drops. -/
def State.roundDrops (s : State) (k : RoundKind) : State :=
  match k with
  | .shoot base size => (s.dropTranslations base size).traceShoot base size
  | .shutter t b l => s.dropRights t b l
  | .rlb t => s.dropRights t 0 (2 ^ 64)

/-- A migration's shootdown has ended (18 R441). -/
def State.roundOfMigration (s : State) (id : Nat) : State :=
  { s with dies := s.dies.map (fun p =>
      (p.1, { p.2 with migs := p.2.migs.map (fun m => if m.round = some id then { m with round := none } else m) })) }

/-- A round completes: its entries are gone everywhere, and the core that waits for it goes on. -/
def State.completeRound (s : State) (id : Nat) (mine : RoundKind → Bool) : State × Option Nat :=
  match tabGet? s.rounds id with
  | none => (s, none)
  | some r =>
    if !mine r.kind || !s.roundReady r.kind then (s, none)
    else
      let by_ := if s.migs.any (fun m => m.round == some id) then none else some r.site
      let s1 := (({ s.roundDrops r.kind with rounds := tabDel s.rounds id } : State).roundOfMigration id).note
        (match r.kind with
         | .shoot _ _ => [s.roundEv by_ 8 0 r.start]
         | .shutter t _ _ => [s.roundEv by_ 8 t r.start]
         | .rlb _ => [])
      (s1, if (s1.core r.site).wait = .round id then some r.site else none)

/-- A shootdown started for a range, by a core or by a migration (16 R409, 18 R441, 19 R458). -/
def State.startShoot (s : State) (site base size : Nat) (core : Bool) : State × Nat :=
  match s.startRound site (.shoot base size) with
  | (s1, id) => (s1.note [s1.roundEv (if core then some site else none) 7 0 (size % 2 ^ 64)], id)

/-- tlbinv (16 R409), its mode checked: scope 0 acts on the core's own entries. -/
def State.bodyTlbinv (s : State) (site scope : Nat) (a b : DWord) : SRes :=
  match (s.core site).wait with
  | .round id => .wait s (.round id)
  | _ =>
    if scope = 0 then
      .done (s.onCore site (fun c => { c with tlb := c.tlb.filter (fun e => !e.overlaps a.toNat b.toNat) }))
    else
      match s.startShoot site a.toNat b.toNat true with
      | (s1, id) => .wait s1 (.round id)

/-- rlbinv (16 R410), its mode checked. -/
def State.bodyRlbinv (s : State) (site scope : Nat) (a : DWord) : SRes :=
  match (s.core site).wait with
  | .round id => .wait s (.round id)
  | _ =>
    let o := a.toNat
    if 2 ^ 20 ≤ o then .trap s ⟨cOWNER_INVALID, a⟩
    else if scope = 0 then
      .done (s.onCore site (fun c => { c with rlb := c.rlb.filter (fun e => !(o == 0 || e.owner == o)) }))
    else
      match s.startRound site (.rlb o) with
      | (s1, id) => .wait (s1.note [s1.roundEv (some site) 6 o 0]) (.round id)

/-- A shutter that the core started is not complete (11 R281). -/
def State.shuttersOf (s : State) (site : Nat) : Bool :=
  s.rounds.any (fun p => p.2.site == site && (match p.2.kind with
    | .shutter _ _ _ => true
    | _ => false))

/-- rvsync (11 R281). -/
def State.bodyRvsync (s : State) (site : Nat) : SRes := if s.shuttersOf site then .wait s .rvsync else .done s

end Sys2Proof.Machine
end

