-- ==== Sys2Proof/Machine/Migrate.lean ====
section
/-! DEFINITION. Migration of pages (18 R439 to R444) and the key slots (20 R471). -/

namespace Sys2Proof.Machine

/-- The migrations of a die. -/
def State.onMigs (s : State) (die : Nat) (f : List Migration → List Migration) : State :=
  s.putDie die { s.die die with migs := f (s.die die).migs }

/-- STATUS written into a descriptor (18 R439), counted in DONE for states 4 to 7. -/
def State.migStatus (s : State) (die desc state cause : Nat) : State :=
  let s1 := s.writeOwn (desc + 32) 8 (cause * 2 ^ 8 + state)
  if state < 4 then s1 else s1.putDie die { s1.die die with migDone := (s1.die die).migDone + 1 }

/-- A frame is backed device memory. -/
def State.frameBacked (s : State) (f : Nat) : Bool := s.backed (f * 65536) 65536

/-- A start is refused (18 R441). -/
def State.migBad (s : State) (die desc : Nat) : Bool :=
  let w (i : Nat) : Nat := s.readOwn (desc + 8 * i) 8
  let old := w 1 / 65536
  let new := w 2 / 65536
  let xdev := (w 3).testBit 16
  let win := tabGet s.hub.windows (w 2 / 2 ^ 40) ⟨0, 0, 0, 0⟩
  w 0 % 65536 != 0 || w 1 % 65536 != 0 || w 1 / 2 ^ 48 != 0 || w 2 % 65536 != 0 || w 2 / 2 ^ 48 != 0 || w 3 / 2 ^ 17 != 0
    || w 4 / 2 ^ 17 != 0 || w 4 / 2 ^ 3 % 2 ^ 5 != 0 || w 5 != 0 || w 6 != 0 || w 7 != 0
    || !s.frameBacked old || homeDie (w 1) != die || new == old
    || s.migs.any (fun m => m.state != 5 && m.state != 7 && (m.old == old || m.new == old || m.old == new || m.new == new))
    || (if xdev then !(win.map.getLsbD 63 && win.map.getLsbD 62) else !s.frameBacked new)

/-- The old frame refuses from the start of phase 1 (18 R442): of the persistent requests for its sectors only the active ones stay. -/
def State.refuseQueued (s : State) (f : Nat) : State :=
  { s with sectors := s.sectors.map (fun p => if p.1 / 1024 = f then (p.1, { p.2 with fifo := p.2.fifo.take 1 }) else p) }

/-- mig.cmd start (18 R441): refused, dropped, or phase 1 begins. -/
def State.migStart (s : State) (die desc : Nat) : State :=
  let d := s.die die
  if 16 ≤ d.migs.length then s.putDie die { d with migDrop := true }
  else if !s.backed desc 64 then s
  else if s.migBad die desc then s.migStatus die desc 5 cILLEGAL_FIELD
  else
    let w (i : Nat) : Nat := s.readOwn (desc + 8 * i) 8
    ((s.refuseQueued (w 1 / 65536)).onMigs die (fun ms => ms ++
      [{ desc := desc, old := w 1 / 65536, new := w 2 / 65536, oldKey := w 3 % 256, newKey := w 3 / 256 % 256, va := w 0,
         xdev := (w 3).testBit 16, state := 1, round := none, copied := false }])).migStatus die desc 1 0

/-- A migration of a die changed. -/
def State.putMig (s : State) (die : Nat) (m m' : Migration) : State :=
  s.onMigs die (fun ms => ms.map (fun x => if x = m then m' else x))

/-- mig.cmd release (18 R441): of a moved or a failed migration. -/
def State.migRelease (s : State) (die desc : Nat) : State :=
  match (s.die die).migs.find? (fun m => m.desc == desc) with
  | none => s
  | some m => if m.state = 4 ∨ m.state = 6 then (s.onMigs die (fun ms => ms.erase m)).migStatus die desc 7 0 else s

/-- The sectors of a frame. -/
def frameSectors (f : Nat) : List Nat := (List.range 1024).map (fun i => 1024 * f + i)

/-- The sector of the new frame that a sector of the old one is copied to. -/
def Migration.target (m : Migration) (k : Nat) : Nat := k - 1024 * m.old + 1024 * m.new

/-- One sector copied to the new frame under the new key, a poisoned one poisoned there as well (18 R441, R444). -/
def State.migSector (s : State) (m : Migration) (k : Nat) : State :=
  let v := s.readPa m.oldKey (64 * k) 64
  let bad := (s.sector k).poison
  if m.xdev then
    let t := s.target (64 * m.target k)
    ({ s with extMem := memWrite s.extMem t 64 v } : State).extSpoil (t / 64) bad
  else
    let s1 := s.homeWrite m.newKey (64 * m.target k) 64 v
    s1.putSector (m.target k) { s1.sector (m.target k) with poison := bad }

/-- A migration stops (18 R441): the old frame keeps refusing, and the new frame stays incoming. -/
def State.migFail (s : State) (die : Nat) (m : Migration) (cause : Nat) : State :=
  (s.putMig die m { m with state := 6 }).migStatus die m.desc 6 cause

/-- Phase 2 (18 R441): the new frame's tokens collected, then the errors of the old frame met and the page copied within its budget.  A target device that refuses ends
the migration, and one that does not answer lets it wait (log 80). -/
def State.migWrite (s : State) (die : Nat) (m : Migration) : State :=
  let copied (s0 : State) : State :=
    let s := (frameSectors m.old).foldl (fun s k => (s.meetHbm k).1) (s0.charge die 4)
    if (frameSectors m.old).any (fun k => (s.sector k).resetting) then s.migFail die m cUNCORRECTABLE
    else ((frameSectors m.old).foldl (fun s k => s.migSector m k) s).putMig die m { m with copied := true }
  if !s.mayCharge die 4 then s
  else if m.xdev then
    let w := s.window (65536 * m.new)
    if 23 < w.port then s.migFail die m cREMOTE_ABORT
    else
      match s.targetAnswer w with
      | .refuses => (s.countWindow (65536 * m.new) false).migFail die m cREMOTE_ABORT
      | .silent => s
      | .serves => copied s
  else
    match s.recallAll (.unit die) (frameSectors m.new) with
    | (s1, ks) =>
      if (frameSectors m.new).any (fun k => (s1.sector k).resetting) then s1.migFail die m cUNCORRECTABLE
      else if ks.length < 1024 then s1
      else copied s1

/-- Phases 1 and 2 (18 R441): the recall of every token to the home with persistent requests, the host's copies back-invalidated, up
to the copy point; then the copy.  An uncorrectable error met stops the migration. -/
def State.migCopy (s : State) (die desc : Nat) : State :=
  match (s.die die).migs.find? (fun m => m.desc == desc) with
  | none => s
  | some m =>
    if m.state = 2 ∧ !m.copied then s.migWrite die m
    else if m.state ≠ 1 then s
    else
      match s.recallAll (.unit die) (frameSectors m.old) with
      | (s1, ks) =>
        if (frameSectors m.old).any (fun k => (s1.sector k).resetting) then s1.migFail die m cUNCORRECTABLE
        else if ks.length < 1024 then s1
        else
          let m' : Migration := { m with state := 2 }
          ((s1.putMig die m m').migStatus die desc 2 0).migWrite die m'

/-- Phase 3 (18 R441): the shootdown of the page. -/
def State.migSwitch (s : State) (die desc : Nat) : State :=
  match (s.die die).migs.find? (fun m => m.desc == desc) with
  | none => s
  | some m =>
    if m.state ≠ 2 ∨ !m.copied then s
    else
      match s.startShoot (die * 1024) m.va 65536 false with
      | (s1, id) => (s1.putMig die m { m with state := 3, round := some id }).migStatus die desc 3 0

/-- Phase 4 (18 R441). -/
def State.migMoved (s : State) (die desc : Nat) : State :=
  match (s.die die).migs.find? (fun m => m.desc == desc) with
  | none => s
  | some m =>
    if m.state ≠ 3 ∨ m.round.isSome then s else (s.putMig die m { m with state := 4 }).migStatus die desc 4 0

/-- ks.cmd (20 R471): 0 assign, 1 discard. -/
def State.keyCmd (s : State) (op slot : Nat) : State :=
  let st := tabGet s.hub.keySlots slot 0
  let refuse : State := { s with hub := { s.hub with ksRefused := true } }
  let put (v : Nat) : State :=
    { s with hub := { s.hub with ksRefused := false, keySlots := tabSet s.hub.keySlots slot v } }
  match op with
  | 0 => if slot = 255 ∨ st ≠ 0 then refuse else put 1
  | 1 => if slot = 255 ∨ st ≠ 1 then refuse else put 2
  | _ => s

/-- FREE of ks.stat: slots 0 to 254 in state 0. -/
def Hub.freeKeys (h : Hub) : Nat := 255 - (h.keySlots.filter (fun p => decide (p.1 < 255) && p.2 != 0)).length

end Sys2Proof.Machine
end

