-- ==== Sys2Proof/Machine/Chans.lean ====
section
/-! DEFINITION. Channels and signal waits: sending, receiving, blocking and deadlock probes (08 R207 to R216). -/

namespace Sys2Proof.Machine

/-- A channel object as read at its address (08 R207). -/
structure Chan where
  producer : Nat
  consumer : Nat
  k : Nat
  head : Nat
  tail : Nat
  blocked : Nat
  deriving DecidableEq, Repr

/-- The fields of the first 64 bytes of a channel object (08 R207). -/
def Chan.ofWord (v : Nat) : Chan :=
  let w (i : Nat) : Nat := v / 2 ^ (64 * i) % 2 ^ 64
  ⟨w 0, w 1, w 2 % 16, w 3 % 2 ^ 32, w 4 % 2 ^ 32, w 5⟩

/-- The number of messages in the ring, and the address of the slot of message n (08 R207). -/
def Chan.count (c : Chan) : Nat := (c.tail + 2 ^ 32 - c.head) % 2 ^ 32
def Chan.slot (c : Chan) (va n : Nat) : Nat := va + 128 + 64 * (n % 2 ^ c.k)

/-- A handle is dead, by its record as the device reads it (08 R185; log 25). -/
def State.deadHandle (s : State) (site h : Nat) : Acc Bool :=
  if h = 0 then .ok s false
  else
    match s.objHold (Agent.device site (s.core site).vdev) (handleRec h) 8 with
    | .ok s1 w => .ok s1 (handleDead h w)
    | .trap s1 _ => .ok s1 false
    | .wait s1 => .wait s1

/-- The thread named at +40 woken and the word cleared, unless the wake is held back (08 R212). -/
def State.wakeNamed (s : State) (g : Agent) (va : Nat) (c : Chan) : Acc Nat :=
  if c.blocked = 0 then .ok s 0
  else
    (s.wake g.site g.vd c.blocked).andThen fun s1 woken =>
    if woken then s1.objStore g (va + 40) 8 0 else .ok s1 0

/-- The marks of a probe at the object (08 R213): the thread of the core is to raise DEADLOCK there. -/
def State.markedAt (s : State) (site va : Nat) : Bool :=
  s.waiters.any (fun w => w.marked && w.handle == (s.core site).sp.thr.toNat && w.object == va && w.kind != 3)

/-- A marked thread raises DEADLOCK, its mark used up. -/
def State.deadlock (s : State) (site va : Nat) : SRes :=
  let h := (s.core site).sp.thr.toNat
  .trap { s with waiters := s.waiters.filter (fun w => w.handle != h) } ⟨cDEADLOCK, BitVec.ofNat 64 va⟩

/-- The thread of a core entered among the waiters of an object, with its probe when the object is a channel
(08 R213, R216). -/
def State.addWaiter (s : State) (site obj kind other : Nat) (inPlace : Bool) : State :=
  let c := s.core site
  let h := c.sp.thr.toNat
  let w : Waiter := ⟨h, if inPlace then some site else none, obj, kind, other, c.vdev, false, false⟩
  let s1 : State := { s with waiters := s.waiters.filter (fun x => x.handle != h) ++ [w] }
  if kind = 3 ∨ other = 0 then s1 else { s1 with probes := tabSet s1.probes (tabFree s1.probes) ⟨h, other, h⟩ }

/-- The thread of a core already waits in place on an object. -/
def State.waitsAt (s : State) (site obj : Nat) : Bool :=
  s.waiters.any (fun w => w.handle == (s.core site).sp.thr.toNat && w.object == obj && w.site == some site)

/-- The thread of a core blocks (08 R212, R216): it suspends, or waits in place (08 R181).  A thread without a handle waits in
place and is named nowhere. -/
def State.blockOn (s : State) (site obj kind other : Nat) (quiet : Bool) : SRes :=
  let c := s.core site
  if c.sp.thr = 0 ∨ s.waitsAt site obj then .wait s (.object obj)
  else if s.maySuspend site quiet then
    if c.unperformed then .wait s .busy
    else
      let s0 := s.addWaiter site obj kind other false
      (s.suspend site kind obj c.pc.toNat).finish fun s1 _ => .done { s1 with waiters := s0.waiters, probes := s0.probes }
  else .wait (s.addWaiter site obj kind other true) (.object obj)

/-- The thread of a core blocks on a channel (08 R212): the thread named at +40 gives way to it; while its wake is held back,
the word keeps naming it and the core tries again (log 27).  The store of the word is checked before the wake (01 R30). -/
def State.blockChan (s : State) (site va kind : Nat) (c : Chan) (quiet : Bool) : SRes :=
  let g := s.agent site
  let h := (s.core site).sp.thr.toNat
  let other := if kind = 1 then c.consumer else c.producer
  if h = 0 ∨ c.blocked = h then s.blockOn site va kind other quiet
  else
    ((s.objCheck (g.access (va + 40) 8 (.store 0) [rW])).andThen fun s0 _ =>
      s0.holdRecords site (s.core site).vdev (if c.blocked = 0 then [] else [c.blocked])).finish fun s1 _ =>
    (if c.blocked = 0 then Acc.ok s1 true else s1.wake site g.vd c.blocked).finish fun s2 woken =>
    if !woken then .wait s2 .stall else
    (s2.objStore g (va + 40) 8 h).finish fun s3 _ => s3.blockOn site va kind other quiet

/-- The first sector of a channel held for an operation (08 R211), its checks before made. -/
def State.openChan (s : State) (site : Nat) (a : DWord) : Acc Chan :=
  let va := a.toNat
  (s.aligned va 128).andThen fun s1 _ =>
  (s1.objHold (s1.agent site) va 64).andThen fun s2 v => .ok s2 (Chan.ofWord v)

/-- The superstep checks of an instruction on an object (09 R219, R234), as the end of an instruction. -/
def State.onObject (s : State) (site : Nat) (a : DWord) (rb : Bool) (f : SRes) : SRes :=
  match (s.core site).superCheck a rb with
  | some e => .trap s e
  | none => f

/-- chinit (08 R208). -/
def State.bodyChinit (s : State) (site : Nat) (a b c : DWord) (k : Nat) : SRes :=
  s.onObject site a true
    (let g := s.agent site
     let va := a.toNat
     ((s.aligned va 128).andThen fun s1 _ =>
      (s1.objCheck (g.access va 64 (.store 0) [rW])).andThen fun s2 _ =>
      (s2.objCheck (g.access (va + 64) 64 (.store 0) [rW])).andThen fun s3 _ =>
      s3.objStores g va ([b.toNat, c.toNat, k] ++ List.replicate 13 0)).finish fun s4 _ => .done s4)

/-- chsend (08 R209), quiet when no shadow was open. -/
def State.bodyChsend (s : State) (site : Nat) (d : GOp) (a b : DWord) (quiet : Bool) : SRes :=
  let k := s.core site
  match k.loadLocal b.toInt 64 with
  | (k1, .error e) => .trap (s.putCore site k1) e
  | (k1, .ok msg) =>
    if k.localBusy b.toInt 64 then .wait s .busy
    else
      let s0 := s.putCore site k1
      s0.onObject site a true
        (let va := a.toNat
         if s0.markedAt site va then s0.deadlock site va
         else
           (s0.openChan site a).finish fun s1 c =>
           if c.producer ≠ 0 ∧ c.producer ≠ k.sp.thr.toNat then .trap s1 ⟨cCHAN_PORT, a⟩
           else
             (s1.deadHandle site c.consumer).finish fun s2 dead =>
             if dead then .done (s2.result site d 1)
             else if c.count = 2 ^ c.k then s2.blockChan site va 1 c quiet
             else
               let g := s2.agent site
               let slot := c.slot va c.tail
               ((s2.acc { g.access slot 64 .load [rW] with hold := true }).andThen fun s3 _ =>
                (s3.holdRecords site (s.core site).vdev (if c.blocked = 0 then [] else [c.blocked])).andThen fun s4 _ =>
                (s4.objStore g slot 64 msg).andThen fun s5 _ =>
                (s5.objStore g (va + 32) 4 ((c.tail + 1) % 2 ^ 32)).andThen fun s6 _ =>
                s6.wakeNamed g va c).finish fun s7 _ => .done (s7.result site d 0))

/-- chrecv (08 R210), quiet when no shadow was open.  The message lands in local memory once no check of the channel can trap
(01 R30). -/
def State.bodyChrecv (s : State) (site : Nat) (d : GOp) (a b : DWord) (quiet : Bool) : SRes :=
  let k := s.core site
  match localCheck k.xbAddr b.toInt 64 with
  | some e => .trap s e
  | none =>
    if k.localBusy b.toInt 64 then .wait s .busy
    else
      s.onObject site a true
        (let va := a.toNat
         if s.markedAt site va then s.deadlock site va
         else
           (s.openChan site a).finish fun s1 c =>
           if c.consumer ≠ 0 ∧ c.consumer ≠ k.sp.thr.toNat then .trap s1 ⟨cCHAN_PORT, a⟩
           else if c.count = 0 then
             (s1.deadHandle site c.producer).finish fun s2 dead =>
             if dead then .trap s2 ⟨cCHAN_DEAD, a⟩ else s2.blockChan site va 2 c quiet
           else
             let g := s1.agent site
             ((s1.objLoad g (c.slot va c.head) 64).andThen fun s2 msg =>
              (s2.holdRecords site (s.core site).vdev (if c.blocked = 0 then [] else [c.blocked])).andThen fun s3 _ =>
              (s3.objStore g (va + 24) 4 ((c.head + 1) % 2 ^ 32)).andThen fun s4 _ =>
              (s4.onCore site (fun x => x.pokeLocal b.toNat 64 msg)).wakeNamed g va c).finish fun s5 _ => .done (s5.result site d 0))

/-- chpoll (08 R210). -/
def State.bodyChpoll (s : State) (site : Nat) (d : GOp) (a : DWord) : SRes :=
  s.onObject site a true
    ((s.openChan site a).finish fun s1 c =>
      let mine := (s1.core site).sp.thr.toNat
      let other := if c.producer ≠ 0 ∧ c.producer = mine then c.consumer else c.producer
      (s1.deadHandle site other).finish fun s2 dead =>
        .done (s2.result site d (BitVec.ofNat 64 (c.count + if dead then 2 ^ 63 else 0))))

/-- sigdec (08 R215). -/
def State.bodySigdec (s : State) (site : Nat) (d : GOp) (a b : DWord) : SRes :=
  s.onObject site a true
    ((s.sigdec (s.agent site) a.toNat b).finish fun s1 new => .done (s1.result site d new))

/-- sigwait (08 R216), quiet when no shadow was open. -/
def State.bodySigwait (s : State) (site : Nat) (d : GOp) (a : DWord) (quiet : Bool) : SRes :=
  s.onObject site a false
    (let va := a.toNat
     ((s.aligned va 64).andThen fun s1 _ => s1.objLoad (s1.agent site) va 8).finish fun s2 v =>
       let x := BitVec.ofNat 64 v
       if x.toInt ≤ 0 then .done (s2.result site d x) else s2.blockOn site va 3 0 quiet)

/-- spawn (08 R191); s.eval of PHASE_GLOBAL and RB_REFUSED is the address of the record (log 98). -/
def State.bodySpawn (s : State) (site : Nat) (d : GOp) (a b : DWord) : SRes :=
  s.onObject site b true
    ((s.spawnAs (s.agent site) a.toNat b.toNat).finish fun s1 h => .done (s1.result site d (BitVec.ofNat 64 h)))

/-- A probe moves on (08 R213): it is discarded, forwarded, or marks the lowest thread of its cycle, which is woken to raise
DEADLOCK (log 26). -/
def State.moveProbe (s : State) (i : Nat) : State :=
  match tabGet? s.probes i with
  | none => s
  | some p =>
    let drop (s : State) : State := { s with probes := tabDel s.probes i }
    if p.at_ = p.origin then
      match s.waiterOf p.lowest with
      | none => drop s
      | some w =>
        if w.marked then drop s
        else
          let mark (s : State) (w : Waiter) : State :=
            { s with waiters := s.waiters.filter (fun x => x.handle != p.lowest) ++ [w] }
          match (mark s { w with marked := true }).wake (w.site.getD 0) w.vd p.lowest with
          | .ok s1 _ => drop (mark s1 { w with marked := true })
          | .trap s1 _ => s1
          | .wait s1 => mark s1 w
    else
      match s.waiterOf p.at_ with
      | some w => if w.kind = 3 ∨ w.other = 0 ∨ w.marked then drop s
                  else { s with probes := tabSet s.probes i ⟨p.origin, w.other, min p.lowest p.at_⟩ }
      | none => drop s

end Sys2Proof.Machine
end

