-- ==== Sys2Proof/Machine/Place.lean ====
section
/-! DEFINITION. Dispatch of a thread on an idle core: pins, the frame, the registers; lost threads; taking a continuation
(08 R186 to R190, 17 R434, R435). -/

namespace Sys2Proof.Machine

/-- The sectors of a footprint region from its base on, up to n of them (08 R188). -/
def footSectors (r : Foot) : List Nat :=
  (List.range ((r.base + r.len + 63) / 64 - r.base / 64)).map (fun i => 64 * (r.base / 64 + i))

/-- The aligned 64 KiB regions that a footprint region covers whole (12 R296). -/
def footWholes (r : Foot) : List Nat :=
  let a := (r.base + 65535) / 65536
  (List.range ((r.base + r.len) / 65536 - a)).map (fun i => 65536 * (a + i))

/-- Sectors fetched into the cluster's slices and pinned: one token for a read region, all for a write region (08 R188).
Memory that the level-one cache does not hold by tokens is checked alone. -/
def State.pinSectors (s : State) (g : Agent) (write : Bool) : List Nat → Acc Nat
  | [] => .ok s 0
  | va :: t =>
    let a := { g.access va 64 .load [if write then rW else rR] with obj := false, hold := write }
    match s.reach a with
    | .trap s1 e => .trap s1 e
    | .wait s1 => .wait s1
    | .moved s1 => s1.refused g.site g.eng va
    | .ok s1 e =>
      if 2 ≤ pteType e.pte then s1.pinSectors g write t
      else
        match s1.perform { a with engine := true } e with
        | .trap s2 x => .trap s2 x
        | .wait s2 => .wait s2
        | .device s2 _ => s2.pinSectors g write t
        | .ok s2 _ =>
          let pa := e.pa va
          ({ s2 with pins := ⟨pa / 64, agentL1 g.site pa, .foot g.site⟩ :: s2.pins } : State).pinSectors g write t

/-- The regions of a footprint block pinned. -/
def State.pinRegions (s : State) (g : Agent) : List Foot → Acc Nat
  | [] => .ok s 0
  | r :: t =>
    if r.loc then s.pinRegions g t
    else
      ((s.askRegions g.site 5 r.write (footWholes r)).pinSectors g r.write (footSectors r)).andThen fun s1 _ => s1.pinRegions g t

/-- The footprint block at an address pinned (08 R188); 0 for none. -/
def State.pinFootprint (s : State) (g : Agent) (va : Nat) : Acc Nat :=
  if va = 0 then .ok s 0
  else
    (s.objLoad g va 64).andThen fun s1 v =>
    s1.pinRegions g (footRegions ((List.range 8).map (fun i => v / 2 ^ (64 * i) % 2 ^ 64)))

/-- The frame read into local memory, piece by piece (08 R187). -/
def State.readFrame (s : State) (g : Agent) (site : Nat) : List (Nat × Nat) → Acc Nat
  | [] => .ok s 0
  | (va, a) :: t =>
    (s.objLoad g va 64).andThen fun s1 v => (s1.onCore site (fun c => c.pokeLocal a 64 v)).readFrame g site t

/-- The pins of a core's footprint released (08 R188). -/
def State.unpin (s : State) (site : Nat) : State := { s with pins := s.pins.filter (fun p => p.kind != .foot site) }

/-- The stores that end a lost thread, in order: how many are done or skipped before one must wait. -/
def State.oweStores (s : State) (o : Owed) : List (Nat × Nat × Nat) → State × List (Nat × Nat × Nat)
  | [] => (s, [])
  | (a, n, v) :: t =>
    match s.objStore (Agent.device o.agent.site o.agent.vd) a n v with
    | .ok s1 _ => s1.oweStores o t
    | .trap s1 x => (s1.logFor (siteDie o.agent.site) o.agent.site ⟨1, 12, x.cause, x.eval⟩).oweStores o t
    | .wait s1 => (s1, (a, n, v) :: t)

/-- What is owed to a lost thread done as far as it can be (08 R190): its record, then its join signal, then it has ended.  A
write that fails is logged and skipped; one that must wait is tried again after every move. -/
def State.owe (s : State) (o : Owed) : State :=
  match s.oweStores o o.stores with
  | (s1, x :: t) => { s1 with owed := s1.owed ++ [{ o with stores := x :: t }] }
  | (s1, []) =>
    let ended (s : State) : State := (s.tagAdd o.agent.vd o.lix false).threadEnded o.handle
    if o.sig = 0 then ended s1
    else
      match s1.sigdec o.agent o.sig 1 with
      | .ok s2 _ => ended s2
      | .trap s2 x => ended (s2.logFor (siteDie o.agent.site) o.agent.site ⟨1, 12, x.cause, x.eval⟩)
      | .wait s2 => { s2 with owed := s2.owed ++ [{ o with stores := [] }] }

/-- Everything owed tried again. -/
def State.oweAll (s : State) : State := s.owed.foldl (fun t o => t.owe o) { s with owed := [] }

/-- A thread ended as lost (08 R190): its record, its join signal when its continuation record was read, the log. -/
def State.loseThread (s : State) (site vd h : Nat) (g : Agent) (r : Nat) (sig : Option Nat) (e : Exc) : State :=
  let a := handleRec h
  ((s.unpin site).logFor (siteDie site) site ⟨1, 12, e.cause, e.eval⟩).owe
    { agent := { g with site := site, vd := vd }, handle := h, lix := recLix r, sig := sig.getD 0
      stores := [(a + 40, 8, 2 ^ 62), (a + 48, 8, e.cause), (a + 56, 8, e.eval.toNat), (a, 8, recWith r 0)] }

/-- How a dispatch ends. -/
inductive Dispatched where
  | running (s : State)
  /-- the core does not take the handle: the thread's workspace does not fit (08 R187) -/
  | unfit (s : State)
  /-- the record could not be read, or the handle is dead (08 R190, R191) -/
  | dropped (s : State)
  /-- the thread is lost, with the cause -/
  | lost (s : State) (e : Exc)
  | wait (s : State)
  deriving DecidableEq, Repr

/-- The workspace of a continuation fits the core (08 R187). -/
def Core.fits (c : Core) (w : Nat) : Bool :=
  decide (c.xbAddr + 64 * contSpan w ≤ c.sp.twp.toNat) && decide (c.sp.twp.toNat + 8 * max (8 * contW w) 324 ≤ localSize)

/-- s.fcsr by the resume word of a thread record (08 R184). -/
def resumeFcsr (w : Nat) : DWord := BitVec.ofNat 64 (w / 2 ^ 39 % 8 * 2 ^ 16 + w / 2 ^ 34 % 32 * 2 ^ 8 + w / 2 ^ 29 % 32)

/-- The core at the first instruction of a dispatched thread (08 R187): its local memory holds the frame already. -/
def Core.startThread (c : Core) (vd h r : Nat) (cont : Cont) (resume ix : Nat) (cyc : Nat) : Core :=
  let w := cont.word.toNat
  let wp := c.sp.twp.toNat - 64 * contSpan w
  let res := resume.testBit 63
  { c with
    sp := { c.sp with
      wp := BitVec.ofNat 64 wp
      thr := BitVec.ofNat 64 h
      own := BitVec.ofNat 64 (recOwner r)
      tvec := recTvec r
      vd := BitVec.ofNat 64 vd
      psw := BitVec.ofNat 64 ((if contSm w then 1 else 0) + 4)
      wsz := BitVec.ofNat 64 (if res then resume / 2 ^ 18 % 2 ^ 11 else 8 * contW w)
      ix := if res then BitVec.ofNat 64 ix else 0
      fcsr := if res then resumeFcsr resume else 0
      gang := c.sp.gang &&& 0x00000FFFFFFFF000
      ss := 0 }
    pc := BitVec.ofNat 18 (if res then resume % 2 ^ 18 else contCode w)
    run := .running
    ds := .none
    rep := none
    shadows := []
    late := []
    held := []
    dbl := false
    wait := .none
    moved := []
    cont := cont
    frameAt := wp
    taken := false
    trail := []
    exch := ⟨[], [], [], [], 0⟩
    xbase := cyc
    ordCount := 0
    reads := []
    writes := []
    mx := c.mx.dispatched vd }

/-- Dispatch of 08 R187 of a live handle on an idle core, under 08 R190. -/
def State.dispatchThread (s : State) (site vd h : Nat) : Dispatched :=
  let dev := Agent.device site vd
  let a := handleRec h
  match s.objHold dev a 64 with
  | .wait s1 => .wait s1
  | .trap s1 e => .dropped (s1.logFor (siteDie site) site ⟨1, 12, e.cause, BitVec.ofNat 64 a⟩)
  | .ok s1 rec_ =>
    let word (i : Nat) : Nat := rec_ / 2 ^ (64 * i) % 2 ^ 64
    let r := word 0
    if !handleLive h r then .dropped s1
    else
      let cont : Cont :=
        ⟨BitVec.ofNat 64 (word 1), BitVec.ofNat 64 (word 2), BitVec.ofNat 64 (word 3), BitVec.ofNat 64 (word 4)⟩
      let w := word 1
      let g : Agent :=
        { site := site, mode := if contSm w then 1 else 0, owner := recOwner r, vd := vd, tvec := recTvec r,
          tag := some (recLix r), slot := true }
      match s1.objLoad g (a + 8) 8, s1.objLoad g (a + 32) 8 with
      | .wait s2, _ => .wait s2
      | _, .wait s2 => .wait s2
      | .trap s2 e, _ => .lost (s2.loseThread site vd h g r none e) e
      | _, .trap s2 e => .lost (s2.loseThread site vd h g r none e) e
      | .ok s2 _, .ok _ _ =>
        let c := s2.core site
        if !c.fits w then .unfit s2
        else
          let lose (s3 : State) (e : Exc) : Dispatched := .lost (s3.loseThread site vd h g r (some (word 3)) e) e
          let wp := c.sp.twp.toNat - 64 * contSpan w
          let seq : Acc Nat :=
            (s2.pinFootprint g (word 4)).andThen fun s3 _ =>
            (s3.readFrame g site (framePieces (word 2) wp (contUnits w))).andThen fun s4 _ =>
            s4.objStore dev a 8 (recWith r 2)
          match seq with
          | .wait s3 => .wait (s3.unpin site)
          | .trap s3 e => lose s3 e
          | .ok s3 _ =>
            .running (s3.onCore site (fun c =>
              (c.clearLocal (wp + 64 * contUnits w) (64 * (contSpan w - contUnits w))).startThread vd h r cont (word 5) (word 6)
                (s3.cycOf site)))

/-- The launch of a device whose image the cores of a cluster of the package hold, placed or kept (17 R432, R434). -/
def State.clusterLaunch (s : State) (vd cluster : Nat) : Option (Nat × Launch) :=
  s.launches.find? (fun p => p.2.vd == vd && p.2.clusters.contains cluster)

/-- The entries of a virtual device's queues: class, place, handle; class 3 first, each first to last (08 R186). -/
def State.allEntries (s : State) (vd : Nat) : List (Nat × Nat × Nat) :=
  [3, 2, 1, 0].flatMap (fun c => (s.qEntries vd c).zipIdx.map (fun p => (c, p.2, p.1)))

/-- The launch that placed a thread ends by its fault (08 R190, 17 R433). -/
def State.failLaunch (s : State) (mine : Nat × Launch → Bool) (cause value : Nat) : State :=
  { s with launches := s.launches.map (fun p =>
      if mine p && p.2.state == 3 && p.2.failed.isNone then (p.1, { p.2 with failed := some (cause, value) }) else p) }

/-- A serving core takes the first continuation that it may take (08 R186, 17 R434, R435): an entry that its hint or its image
tag keeps from this core blocks no other. -/
def State.takeEntry (s : State) (site vd tag : Nat) : List (Nat × Nat × Nat) → State
  | [] => s
  | (c, i, h) :: t =>
    match s.objLoad (Agent.device site vd) (handleRec h) 16 with
    | .wait s1 => s1
    | .trap s1 e =>
      (s1.logFor (siteDie site) site ⟨1, 12, e.cause, BitVec.ofNat 64 (handleRec h)⟩).qTake vd c i
    | .ok s1 v =>
      let r := v % 2 ^ 64
      if !handleLive h r then (s1.qTake vd c i).tagAdd vd (recLix r) false
      else if recLix r ≠ tag ∨ !s1.hintAdmits (v / 2 ^ 64) site then s1.takeEntry site vd tag t
      else
        match s1.dispatchThread site vd h with
        | .wait s2 => s2
        | .unfit s2 => s2.takeEntry site vd tag t
        | .running s2 => s2.qTake vd c i
        | .dropped s2 => s2.qTake vd c i
        | .lost s2 e =>
          (s2.qTake vd c i).failLaunch (fun p => s.launches.any (fun q => q.1 == p.1 && q.2.live.contains h)) e.cause e.eval.toNat

/-- An idle serving core looks for a continuation: its cluster is held by a launch of a device that holds the region. -/
def State.serve (s : State) (site : Nat) : State :=
  let c := s.core site
  match c.tag, tabGet? s.holders (siteRegion site) with
  | some tag, some vd =>
    if c.run ≠ .idle ∨ c.halt.isSome ∨ (s.clusterLaunch vd (sitePkgCluster site)).isNone then s
    else s.takeEntry site vd tag (s.allEntries vd)
  | _, _ => s

end Sys2Proof.Machine
end

