-- ==== Sys2Proof/Machine/Stops.lean ====
section
/-! DEFINITION. Stopping a core: pre-emption and its acknowledgement, quiescence, the context image with its state block,
saving and restoring (16 R390 to R402). -/

namespace Sys2Proof.Machine

/-- Nothing of the core remains in flight that a stop must settle first (16 R392): accesses in place, posted stores, window-mode
records, a matrix unit in the array; one that does is settled by its own events. -/
def Core.settledWork (c : Core) : Bool :=
  c.posted.isEmpty && c.ordPend.all (fun p => p.2) && c.out.isEmpty && !c.mx.inArray
    && (match c.wait with
        | .stall => false
        | .save => false
        | .join => false
        | .round _ => false
        | .tokens _ _ _ _ => false
        | _ => true)

/-- A core stopped (16 R392, R396, R399, R402): it leaves its stitch, gives back leave, and its pins and cached entries go. -/
def State.stopCore (s : State) (site : Nat) (i : StopInfo) : State :=
  let s1 := [0, 1, 2, 3].foldl (fun s e => s.returnLeave site e) (((s.unstitch site).unpin site).unpinTile site)
  s1.onCore site (fun c =>
    { c with
      run := .stopped, halt := Option.none, stop := some i, tlb := [], rlb := [], late := []
      preempt := false, taken := false
      mx := c.mx.onHead (fun x => { x with granted := false })
      wait := if i.seam then c.wait else .none })

/-- snapctl 1 (16 R399): the resume, which writes 1, comes with the restored context. -/
def State.acknowledge (s : State) (site : Nat) (d : GOp) : SRes :=
  let c := s.core site
  if !c.taken then .done (s.result site d 0)
  else if !c.settledWork || s.mxArriving site then .wait s .ack
  else .done (s.stopCore site ⟨cPREEMPT, false, false, false, s.time, some d⟩)

/-- snapctl (16 R411), its mode checked. -/
def State.bodySnapctl (s : State) (site : Nat) (d : GOp) (op : Nat) : SRes :=
  let c := s.core site
  if op = 0 then .done (s.result site d (BitVec.ofNat 64 ((if c.preempt then 1 else 0) + (if c.taken then 2 else 0))))
  else s.acknowledge site d

/-- PREEMPT made pending on a core of a set (16 R398): an idle core acknowledges at once; a core of a superstep gang never
receives it. -/
def State.preemptCore (s : State) (site : Nat) : State :=
  let c := s.core site
  if c.sp.psw.getLsbD 4 then s
  else
    match c.run with
    | .idle => s.stopCore site ⟨cPREEMPT, false, false, true, s.time, none⟩
    | .running => s.putCore site { c with preempt := true, preemptAt := s.time }
    | _ => s

/-- The core may take its interrupt now (02 R52, 06 R152, 09 R221, 16 R390). -/
def Core.mayInterrupt (c : Core) : Bool :=
  c.preempt && !c.taken && c.run == .running && c.sp.psw.getLsbD 2 && c.shadows.isEmpty && c.ds == .none && c.rep.isNone
    && !(c.sp.psw.getLsbD 4 && c.sp.psw.getLsbD 5) && c.wait.interruptible

/-- PREEMPT taken (16 R390): an interrupted wfi ends first (05 R140). -/
def State.takeInterrupt (s : State) (site : Nat) : State :=
  let s1 := if (s.core site).wait = .wfi then s.settled site (Core.advance 4) (fun t => .done t) else s
  (s1.trapAt site (s1.core site) ⟨cPREEMPT, 0⟩).onCore site (fun c => { c with taken := true })

/-- The core may be quiesced before its next instruction (16 R402). -/
def State.mayQuiesce (s : State) (site : Nat) : Bool :=
  let c := s.core site
  match c.run with
  | .idle => true
  | .running =>
    c.rep.isNone && c.mode != 3 && c.settledWork && !s.mxArriving site
      && (match s.gangOf site with
          | some (_, g) => !c.sp.psw.getLsbD 4 || s.gangWaits g
          | none => true)
  | _ => false

/-- Issue has stopped for a core that is to be quiesced (16 R402), apart from the cases that defer it. -/
def Core.haltsIssue (c : Core) : Bool :=
  c.halt.isSome && c.rep.isNone && c.mode != 3 && !c.sp.psw.getLsbD 4
    && (match c.wait with
        | .stall => false
        | .save => false
        | .join => false
        | .round _ => false
        | .tokens _ _ _ _ => false
        | _ => true)

/-- A core marked to be quiesced (16 R402); a gang that it belongs to has its seam withheld (09 R221). -/
def State.haltCore (s : State) (site reason : Nat) : State :=
  let c := s.core site
  if c.run = .stopped ∨ c.halt.isSome then s
  else
    let s1 := s.putCore site { c with halt := some reason }
    match s.gangOf site with
    | some (id, g) => if c.sp.psw.getLsbD 4 then { s1 with gangs := tabSet s1.gangs id { g with withheld := true } } else s1
    | none => s1

/-- A quiescence carried out (16 R402). -/
def State.quiesceCore (s : State) (site reason : Nat) : State :=
  let c := s.core site
  s.stopCore site ⟨reason, true, c.sp.psw.getLsbD 4 && c.run == .running, c.run == .idle, s.time, none⟩

/-- The words of a replay entry (16 R394): a command of an engine, the first of its queue or not. -/
def replayWords (e : Nat) (g : Engine) (first : Bool) (x : Cmd) : List Nat :=
  let n := wordsNum x.blk
  let ns := if x.conv then [convCols x.sub n, convRows x.sub n, 1, 1, 1] else nestCounts n
  let ix := nestIndex ns x.k
  let p := (ns.take 4).foldl (· * ·) 1
  let f := if first then g.fault else none
  let stage := if f.isSome then 2 else if x.stage = .held then 0 else 1
  let iv : List Nat := if f.isSome then g.iv else ix.take 4 ++ [x.k / p]
  let pad (m : Nat) (l : List Nat) : List Nat := l ++ List.replicate (m - l.length) 0
  [ x.sub + 128 + e * 2 ^ 8 + stage * 2 ^ 10 + (f.map (fun y => y.cause)).getD 0 * 2 ^ 12,
    x.word2 % 2 ^ 32 + x.owner * 2 ^ 32 + x.vd * 2 ^ 52,
    x.dst.toNat,
    x.src.toNat,
    iv.getD 0 0 + iv.getD 1 0 * 2 ^ 16 + iv.getD 2 0 * 2 ^ 32 + iv.getD 3 0 * 2 ^ 48,
    iv.getD 4 0 % 2 ^ 16 + (if first then g.wptr % 2 ^ 40 else 0) * 2 ^ 16,
    (f.map (fun y => y.addr.toNat)).getD 0,
    (match x.tag with
     | some (phase, k) => phase + chanNumber k * 2 ^ 48
     | none => 0) ] ++ pad 8 x.blk ++ pad 8 x.foot

/-- The four replay entries of an engine. -/
def replayEntries (e : Nat) (g : Engine) : List Nat :=
  let ws := g.queue.zipIdx.flatMap (fun p => replayWords e g (p.2 == 0) p.1)
  (ws ++ List.replicate (96 - ws.length) 0).take 96

/-- An open-shadow record (16 R395). -/
def shadowWord (level : Nat) (x : Shadow) : Nat :=
  level * 2 ^ 48 + 2 ^ 47 + x.slots * 2 ^ 42 + (if x.n2 = 0 then 0 else 2 ^ 41 + (x.n2 - 1) * 2 ^ 36 + x.w2 * 2 ^ 21)
    + (x.n1 - 1) * 2 ^ 15 + x.w1

/-- A shadow by its record. -/
def shadowOfWord (w : Nat) : Shadow :=
  ⟨w % 2 ^ 15, w / 2 ^ 15 % 32 + 1, w / 2 ^ 21 % 2 ^ 15, if w.testBit 41 then w / 2 ^ 36 % 32 + 1 else 0, w / 2 ^ 42 % 32⟩

/-- The special registers of the state block, by number (16 R394). -/
def blockSpecials : List Nat :=
  [0x000, 0x001, 0x002, 0x003, 0x005, 0x006, 0x007, 0x008, 0x009, 0x00A, 0x00B, 0x00C, 0x00D, 0x00E, 0x010, 0x011, 0x020,
   0x030, 0x033, 0x034, 0x040, 0x041, 0x042]

/-- The repetition that is held (06 R152, R153): at most one of the held streams has one, since a rep drops it. -/
def Core.heldRep (c : Core) : Option Rep := c.held.findSome? (fun h => h.rep)

/-- The state block (16 R394) as 512 words, by the core and what it reads of its surroundings at its stop. -/
def Core.stateBlock (c : Core) (id : Ident) (i : StopInfo) : List Nat :=
  let pad (m : Nat) (l : List Nat) : List Nat := (l ++ List.replicate (m - l.length) 0).take m
  let r := c.heldRep
  let head : List Nat :=
    [ i.reason + (if i.quiesced then 2 ^ 9 else 0) + (if i.seam then 2 ^ 10 else 0) + (if c.ds = .none then 0 else 2 ^ 11)
        + (if r.isSome then 2 ^ 12 else 0) + id.site * 2 ^ 32,
      i.time,
      c.pc.toNat,
      if c.ds = .none then 0 else c.trapEbr.toNat,
      (r.map (fun r => r.count + r.pass * 2 ^ 13 + r.addr.toNat * 2 ^ 25)).getD 0 ]
  let shadows := c.shadows.map (shadowWord 0) ++ c.held.zipIdx.flatMap (fun p => p.1.shadows.map (shadowWord (p.2 + 1)))
  pad 8 head ++ pad 24 (blockSpecials.map (fun n => (c.special id (BitVec.ofNat 12 n)).toNat)) ++ List.replicate 16 0
    ++ pad 8 (c.xbar.counters.map (fun x => x.cfg.toNat % 2 ^ 32 + x.count * 2 ^ 32))
    ++ pad 16 (c.xbar.terms.map (fun x => x.cfg.toNat % 2 ^ 17 + (if x.armed then 2 ^ 24 else 0) + x.credit * 2 ^ 32))
    ++ pad 56 [c.xbar.period + c.xbar.left * 2 ^ 32]
    ++ replayEntries 0 c.eng0 ++ replayEntries 1 c.eng1 ++ replayEntries 2 c.conv ++ pad 80 shadows ++ List.replicate 16 0

/-- n sectors of a memory written to device memory by the device (16 R393). -/
def State.copyOut (s : State) (m : Memory) (from_ pa : Nat) : Nat → State
  | 0 => s
  | n + 1 => (s.writeOwn pa 64 (memRead m from_ 64)).copyOut m (from_ + 64) (pa + 64) n

/-- The context image of a stopped core written to its site slot (16 R393, 17 R431). -/
def State.writeContext (s : State) (vd site : Nat) : State :=
  let c := s.core site
  let i := c.stop.getD ⟨cPREEMPT, true, false, false, s.time, none⟩
  let a := s.siteRecord vd site
  let mx := (({ c with loc := [], flips := [] } : Core).writeImage 0).loc
  ((s.copyOut c.loc 0 a 4096).copyOut mx 0 (a + 262144) 1304).writeOwn64s (a + 345600) (c.stateBlock (s.ident site) i)

/-- The cores of a region. -/
def regionSites (r : Nat) : List Nat := (List.range 4096).filter (fun t => siteRegion t == r)

/-- The cores that a virtual device holds in a region, which it holds itself: those of the clusters of its launches (17 R434). -/
def State.deviceSites (s : State) (vd r : Nat) : List Nat :=
  if tabGet? s.holders r = some vd then
    (regionSites r).filter (fun t => s.works t && (s.clusterLaunch vd (sitePkgCluster t)).isSome)
  else []

/-- The core left free after its image is written (16 R400). -/
def Core.freed (c : Core) : Core :=
  { (Core.reset (c.sp.stch &&& 0x700)) with run := .idle, cnt := c.cnt, cmdId := c.cmdId }

/-- A stopped core's image copied out (16 R400); the core is then free for other work. -/
def State.saveCore (s : State) (vd site : Nat) : State :=
  let s1 := s.writeContext vd site
  let c := s1.core site
  { s1.putCore site c.freed with
    saved := tabSet s1.saved (savedKey vd site) ⟨c, s1.launches.any (fun p => p.2.vd == vd && c.tag == some p.2.tag && p.2.state == 7)⟩ }

/-- The contexts of a virtual device in a region copied out once every core has stopped (16 R400). -/
def State.saveRegion (s : State) (vd r : Nat) : State :=
  let ts := s.deviceSites vd r
  let ready (t : Nat) : Bool := (s.core t).run == .stopped && (s.core t).stop.isSome
  if ts.isEmpty ∨ !ts.all ready ∨ !s.backed (s.siteRecord vd 0) 64 then s
  else
    let s1 := ts.foldl (fun s t => s.saveCore vd t) s
    { s1 with holders := if tabGet? s1.holders r = some vd then tabDel s1.holders r else s1.holders }

/-- The words of the state block of a saved context. -/
def State.blockAt (s : State) (vd site : Nat) : List Nat :=
  (List.range 512).map (fun i => s.readOwn (s.siteRecord vd site + 345600 + 8 * i) 8)

/-- n bytes of device memory from a sector boundary, as a memory from address 0. -/
def State.copyIn (s : State) (pa target : Nat) (m : Memory) : Nat → Memory
  | 0 => m
  | n + 1 => s.copyIn (pa + 64) (target + 64) (memWrite m target 64 (s.readOwn pa 64)) n

/-- An engine restored from its replay entries (16 R397): commands re-enter with their progress; what an entry does not hold
comes from the stopped core. -/
def Engine.restored (g : Engine) (ws : List Nat) : Engine :=
  let entry (i : Nat) : List Nat := (ws.drop (24 * i)).take 24
  let one (i : Nat) (x : Cmd) : Option Cmd :=
    let w := entry i
    let at_ (j : Nat) : Nat := w.getD j 0
    let blk := (w.drop 8).take x.blk.length
    let n := wordsNum blk
    let sub := at_ 0 % 2 ^ 7
    let ns := if x.conv then [convCols sub n, convRows sub n, 1, 1, 1] else nestCounts n
    let iv := (List.range 4).map (fun j => at_ 4 / 2 ^ (16 * j) % 2 ^ 16) ++ [at_ 5 % 2 ^ 16]
    if !(at_ 0).testBit 7 then none
    else
      some { x with
        sub := sub, word2 := at_ 1 % 2 ^ 32, owner := at_ 1 / 2 ^ 32 % 2 ^ 20, vd := at_ 1 / 2 ^ 52 % 2 ^ 6
        dst := BitVec.ofNat 64 (at_ 2), src := BitVec.ofNat 64 (at_ 3), blk := blk
        foot := if x.foot.isEmpty then [] else (w.drop 16).take 8
        k := if at_ 0 / 2 ^ 10 % 4 = 1 then nestLinear ns iv else x.k
        stage := .held, leave := false
        tag := x.tag.map (fun t => (at_ 7 % 2 ^ 48, t.2)) }
  let e0 := entry 0
  { g with
    queue := (g.queue.zipIdx.map (fun p => one p.2 p.1)).reduceOption
    fault :=
      if e0.getD 0 0 / 2 ^ 10 % 4 = 2 then
        some ⟨e0.getD 0 0 / 2 ^ 12 % 2 ^ 9, BitVec.ofNat 64 (e0.getD 6 0), g.fault.any (fun f => f.sig)⟩
      else none
    wptr := if g.queue.isEmpty then g.wptr else e0.getD 5 0 / 2 ^ 16 % 2 ^ 40 }

/-- The special registers of a state block set. -/
def Core.restoreSpecials (c : Core) (ws : List Nat) : Core :=
  let v (n : Nat) : DWord := BitVec.ofNat 64 (ws.getD (blockSpecials.findIdx (· == n)) 0)
  let c1 := [0x000, 0x001, 0x002, 0x003, 0x005, 0x006, 0x007, 0x008, 0x009, 0x00A, 0x00B, 0x00C, 0x00D, 0x00E, 0x010, 0x020,
             0x033].foldl (fun (c : Core) (n : Nat) => c.putSpecial n (v n)) c
  { c1 with sp := { c1.sp with vd := v 0x011, stch := v 0x034, ss := v 0x040, gang := v 0x042 } }

/-- A held repetition captured again from its rep (06 R152): its body, length and strides as they stand there now, its count and pass as
the state block has them; what it was, when no rep stands there or its body cannot be taken (log 67). -/
def Core.recaptured (c : Core) (r : Rep) (block : Nat) : Rep :=
  let a := r.addr.toNat
  let w := (c.codeWord (a + 8)).toNat
  let start := addPc r.addr 12
  let fld (i : Nat) : BitVec 3 := BitVec.ofNat 3 (w / 2 ^ i)
  match c.capture start.toNat (w / 2 ^ 12 % 2 ^ 4 + 1) with
  | (_, .error _) => r
  | (_, .ok body) =>
    if (c.codeWord a).toNat % 2 ^ 8 ≠ 0x0E ∨ body.any (fun x => repForbidden x.2) then r
    else
      { r with
        body := body, after := bodyEnd start body, count := block % 2 ^ 13, pass := block / 2 ^ 13 % 2 ^ 12
        sd := fld 9, sa := fld 6, sb := fld 3, sc := fld 0 }

/-- The core that a context image describes (16 R397): local memory with its check bits, matrix queue, replay entries, crossbar,
special registers, shadows, the held repetition captured again; the commands keep their numbers and edges. -/
def Core.restored (c : Core) (loc mx : Memory) (b : List Nat) (cyc : Nat) : Core :=
  let at_ (i : Nat) : Nat := b.getD i 0
  let c0 : Core := { c with loc := loc }
  let c1 : Core :=
    match c0.mx.ofImage mx with
    | some q =>
      if q.cmds.map (fun x => x.id) = c0.mx.cmds.map (fun x => x.id) then
        { c0 with mx := { q with cmds := List.zipWith (fun (x old : MxCmd) => { x with edges := old.edges }) q.cmds c0.mx.cmds } }
      else ({ c0 with mx := { c0.mx with cmds := [] } } : Core).adopt q
    | none => c0
  let eng (e : Nat) : List Nat := (b.drop (128 + 96 * e)).take 96
  let c2 : Core := { c1 with eng0 := c1.eng0.restored (eng 0), eng1 := c1.eng1.restored (eng 1), conv := c1.conv.restored (eng 2) }
  let xbar : Crossbar :=
    { counters := (List.range 8).map (fun i => ⟨BitVec.ofNat 64 (at_ (48 + i) % 2 ^ 32), at_ (48 + i) / 2 ^ 32 % 2 ^ 16⟩)
      terms := (List.range 16).map (fun i =>
        ⟨BitVec.ofNat 64 (at_ (56 + i) % 2 ^ 17), (at_ (56 + i)).testBit 24, at_ (56 + i) / 2 ^ 32 % 256⟩)
      period := at_ 72 % 2 ^ 32
      left := at_ 72 / 2 ^ 32
      due := c.xbar.due }
  let c3 := ({ c2 with xbar := xbar } : Core).restoreSpecials ((b.drop 8).take 23)
  let recs := ((b.drop 416).take 80).filter (fun w => w.testBit 47)
  let level (l : Nat) : List Shadow := (recs.filter (fun w => w / 2 ^ 48 % 4 == l)).map shadowOfWord
  let held := c3.held.zipIdx.map (fun p => { p.1 with shadows := level (p.2 + 1) })
  let c4 : Core :=
    { c3 with
      shadows := level 0
      held := held
      pc := BitVec.ofNat 18 (at_ 2)
      ds := if (at_ 0).testBit 11 then .taken (BitVec.ofNat 18 (at_ 3)) else .none
      xbase := cyc - at_ (8 + 21)
      run := .running
      stop := Option.none
      halt := Option.none }
  { c4 with held := c4.held.map (fun h => { h with rep := h.rep.map (fun r => c4.recaptured r (at_ 4)) }) }

/-- The sectors of the image of a slot whose copy at the home has an error of HBM or of its swatch (16 R403, 12 R306): of a given
kind, uncorrectable or not. -/
def State.imageErrors (s : State) (vd site : Nat) (bad : Bool) : List Nat :=
  let a := s.siteRecord vd site / 64
  let swatch (k : Nat) : Option Bool :=
    let c := (s.die (homeDie (64 * k))).l2
    (c.swatchOf (lineOf k)).bind (fun i => (tabGet? c.swatches i).bind (fun w => w.err))
  ((List.range 5464).map (fun i => a + i)).filter (fun k =>
    (s.sector k).homeOwner && (tabGet? s.hbmErr k == some bad || swatch k == some bad))

/-- The address of the first sector of the image of a slot in whose reading a resume meets an uncorrectable error (16 R397, R404). -/
def State.imageLost (s : State) (vd site : Nat) : Option Nat :=
  let a := s.siteRecord vd site / 64
  let bad := s.imageErrors vd site true
  (((List.range 5464).map (fun i => a + i)).find? (fun k =>
    (s.sector k).poison || (s.sector k).resetting || bad.contains k)).map (fun k => 64 * k)

/-- The errors met in reading the image of a slot are corrected or reset, and logged (16 R403). -/
def State.meetImage (s : State) (vd site : Nat) : State :=
  (s.imageErrors vd site false ++ s.imageErrors vd site true).foldl (fun s k => (s.meetHbm k).1) s

/-- A gang of whose cores none is stopped any more is released at its seam as before (09 R221). -/
def State.unwithhold (s : State) (site : Nat) : State :=
  match s.gangOf site with
  | none => s
  | some (id, g) =>
    if g.withheld && g.cores.all (fun t =>
        (tabGet? s.saved (savedKey g.vd t)).isNone && (s.core t).run != .stopped && (s.core t).halt.isNone) then
      { s with gangs := tabSet s.gangs id { g with withheld := false } }
    else s

/-- A thread whose footprint a resume could not pin is lost, as at a dispatch (08 R190, 16 R396): t is the machine where the pinning
ended, before the one that the resume found. -/
def State.loseResumed (t before : State) (site vd : Nat) (g : Agent) (e : Exc) : State :=
  let c := t.core site
  let h := c.sp.thr.toNat
  let lost (u : State) (r : Nat) : State :=
    ((u.vacate site).loseThread site vd h g r (some c.cont.sig.toNat) e).failLaunch
      (fun p => p.2.live.contains h) e.cause e.eval.toNat
  match t.objLoad (Agent.device site vd) (handleRec h) 8 with
  | .ok u r => lost u r
  | .trap u _ => lost u (2 * 2 ^ 16 + handleGen h)
  | .wait u => { u.putCore site (before.core site) with saved := before.saved }

/-- A saved context of the device that holds the region restored on its own site (16 R397): the footprint pins of a core that runs a
thread are taken again, for which the resume waits, and an acknowledged stop goes on after snapctl with 1 written. -/
def State.restoreCore (s : State) (site : Nat) : State :=
  match tabGet? s.holders (siteRegion site) with
  | none => s
  | some vd =>
    match tabGet? s.saved (savedKey vd site) with
    | none => s
    | some x =>
      if x.dead ∨ (s.core site).run ≠ .idle then s
      else
        let s0 : State := { s.meetImage vd site with saved := tabDel s.saved (savedKey vd site) }
        match s.imageLost vd site with
        | some va =>
          (s0.putCore site { x.core with run := .idle, stop := Option.none }).failLaunch
            (fun p => x.core.tag == some p.2.tag && p.2.vd == vd) cUNCORRECTABLE va
        | none =>
          let a := s.siteRecord vd site
          let loc := s.copyIn a 0 [] 4096
          let mx := s.copyIn (a + 262144) 0 [] 1304
          let idle := x.core.stop.any (fun i => i.idle)
          let c := x.core.restored loc mx (s.blockAt vd site) (s.cycOf site)
          let c := { c with cnt := (s.core site).cnt, run := if idle then .idle else .running }
          let c := match x.core.stop.bind (fun i => i.dest) with
            | some d => c.wg .D d 1 1
            | none => c
          let s1 := s0.putCore site c
          let g := s1.frameAgent site c.owner
          match s1.pinFootprint g (if idle then 0 else c.cont.foot.toNat) with
          | .ok t _ => t.unwithhold site
          | .trap t e => t.loseResumed s site vd g e
          | .wait t => { (t.unpin site).putCore site (s.core site) with saved := s.saved }

end Sys2Proof.Machine
end

