-- ==== Sys2Proof/Machine/Sched.lean ====
section
/-! DEFINITION. The virtual-device scheduler: descriptors, reservations, regions, launch rings, launches and their statuses
(17 R413 to R427, R432, R435, R476). -/

namespace Sys2Proof.Machine

/-- A virtual device (17 R413). -/
def State.vdev (s : State) (v : Nat) : VDev := tabGet s.vds v VDev.reset
def State.putVdev (s : State) (v : Nat) (x : VDev) : State := { s with vds := tabSet s.vds v x }

/-- The descriptor read (17 R414, R415). -/
def State.readDesc (s : State) (v : Nat) : State :=
  s.putVdev v { s.vdev v with desc := (List.range 64).map (fun i => s.readOwn (s.descAddr v + 8 * i) 8) }

/-- A fault in an access of the scheduler, on die 0, or of the cluster controllers of a die, logged with the failing address (17 R476,
16 R405). -/
def State.schedLog (s : State) (die : Nat) (e : Exc) : State := s.logRecord die ⟨1, 12, e.cause, e.eval⟩ 0 none 0

/-- A refusal of an access of the scheduler counted: the eighth raises MOVED_RETRY_LIMIT (10 R255, 18 R442). -/
def State.schRefusal (s : State) (site va : Nat) : Acc Nat :=
  let n := if s.hub.schMoved.1 = va then s.hub.schMoved.2 + 1 else 1
  let s1 := s.dropPage site va
  if 8 ≤ n then .trap { s1 with hub := { s1.hub with schMoved := (0, 0) } } ⟨cMOVED_RETRY_LIMIT, BitVec.ofNat 64 va⟩
  else .wait { s1 with hub := { s1.hub with schMoved := (va, n) } }

/-- The types of memory by number, 0 C, 1 W, 3 H, 4 F, in which the scheduler finds a launch ring (17 R420), a dependency signal (08 R179,
17 R426), and a predicate, a status entry or a code image (17 R426; log 31). -/
def ringTypes : List Nat := [0, 3]
def signalTypes : List Nat := [0]
def dataTypes : List Nat := [0, 1, 3, 4]

/-- The answer of the party behind a page of a type, and the cause that its silence leads to (18 R450). -/
def State.silentCause (s : State) (ty pa : Nat) : Option Nat :=
  if ty = 3 ∧ s.hostAnswer = .silent then some cHOST_ABORT
  else if ty = 4 ∧ s.targetAnswer (s.window pa) = .silent then some cREMOTE_ABORT
  else none

/-- An access of the scheduler under an owner, to memory of given types (17 R420, R421, R426; log 31); a fault comes with the address, and
a target that stays silent is counted (18 R450). -/
def State.schedAcc (s : State) (types : List Nat) (g : Agent) (va n : Nat) (op : MemOp) (need : List Nat) (engine : Bool) : Acc Nat :=
  let a := { g.access (va % 2 ^ 64) n op need with obj := false, engine := engine, eng := 6, types := types }
  let fails (s : State) (cause : Nat) : Acc Nat := .trap s ⟨cause, BitVec.ofNat 64 va⟩
  match s.reach a with
  | .trap s1 e => fails s1 e.cause
  | .moved s1 => s1.schRefusal g.site a.va
  | .wait s1 => .wait s1
  | .ok s1 e =>
    if let some cause := s1.silentCause (pteType e.pte) (e.pa a.va) then
      fails (if pteType e.pte = 4 then s1.countWindow (e.pa a.va) true else s1) cause
    else if pteType e.pte < 2 ∧ s1.turnsAway (e.pa a.va) (agentL1 g.site (e.pa a.va)) a.who then s1.schRefusal g.site a.va
    else
      match s1.perform a e with
      | .ok s2 v => .ok { s2 with hub := { s2.hub with schMoved := if s2.hub.schMoved.1 = a.va then (0, 0) else s2.hub.schMoved } } v
      | .trap s2 x => fails s2 x.cause
      | .wait s2 => .wait s2
      | .device s2 _ => .wait s2

/-- The agent of a launch queue or a launch (17 R421, 08 R215; log 31). -/
def queueAgent (owner vd : Nat) (sm : Bool) (tvec : DWord) (tag : Option Nat) : Agent :=
  { site := 0, mode := if sm then 1 else 0, owner := owner, vd := vd, tvec := tvec, tag := tag }

/-- Fields of a launch record's second word (17 R423). -/
def Launch.word (l : Launch) (i : Nat) : Nat := l.record.getD i 0
def Launch.field (l : Launch) (lo n : Nat) : Nat := l.word 1 / 2 ^ lo % 2 ^ n
def Launch.nlen (l : Launch) : Nat := l.field 0 13
def Launch.clustersOf (l : Launch) : Nat := l.field 28 4
def Launch.coresOf (l : Launch) : Nat := l.field 32 4
def Launch.cls (l : Launch) : Nat := l.field 36 4
def Launch.ssm (l : Launch) : Bool := (l.word 1).testBit 40
def Launch.rb (l : Launch) : Bool := (l.word 1).testBit 41
def Launch.prio (l : Launch) : Nat := l.field 42 2
def Launch.parts (l : Launch) : Nat := l.field 48 4
def Launch.link (l : Launch) : Nat := l.field 52 12

/-- Fields of an image header (17 R423). -/
def Launch.entry (l : Launch) : Nat := l.header.getD 0 0 % 2 ^ 18
def Launch.hv (l : Launch) : Bool := (l.header.getD 1 0).testBit 63
def Launch.handler (l : Launch) : Nat := if l.hv then l.header.getD 1 0 % 2 ^ 18 else 0
def Launch.wsz (l : Launch) : Nat := l.header.getD 2 0
def Launch.xb (l : Launch) : Nat := l.header.getD 3 0

/-- The trap workspace pointer that placement sets (17 R431). -/
def Launch.twp (l : Launch) : Nat := min 0x3E000 (localSize - 8 * l.wsz)

/-- The launch as an agent (08 R215). -/
def Launch.agent (l : Launch) : Agent := queueAgent l.owner l.vd l.sm (BitVec.ofNat 64 l.handler) (some l.tag)

/-- The launches of a device that have not completed (17 R421). -/
def State.taken (s : State) (v : Nat) : List (Nat × Launch) := s.launches.filter (fun p => p.2.vd == v && decide (p.2.state ≤ 3))

/-- A launch changed. -/
def State.onLaunch (s : State) (id : Nat) (f : Launch → Launch) : State :=
  { s with launches := s.launches.map (fun p => if p.1 = id then (id, f p.2) else p) }

/-- The status entry of a launch (17 R425) as one number. -/
def Launch.statusWord (l : Launch) (time : Nat) : Nat :=
  l.cause % 2 ^ 9 + l.state * 2 ^ 9 + (if l.pval then 2 ^ 12 else 0) + min l.age 15 * 2 ^ 16 + l.region % 64 * 2 ^ 20
    + l.pred % 2 ^ 64 * 2 ^ 64 + l.value % 2 ^ 64 * 2 ^ 128 + (if 4 ≤ l.state then time % 2 ^ 64 else 0) * 2 ^ 192

/-- The status entry written (17 R425); a fault skips the write (17 R476). -/
def State.putStatus (s : State) (id : Nat) : Acc Nat :=
  match tabGet? s.launches id with
  | none => .ok s 0
  | some l =>
    match s.schedAcc dataTypes l.agent l.status 32 (.store (l.statusWord s.time)) [rW] false with
    | .ok s1 _ => .ok s1 0
    | .trap s1 e => .ok (s1.schedLog 0 e) 0
    | .wait s1 => .wait s1

/-- The completion signal decremented (17 R432); a fault skips it (17 R476). -/
def State.signalLaunch (s : State) (l : Launch) : Acc Nat :=
  if l.word 5 = 0 then .ok s 0
  else
    match s.sigdec l.agent (l.word 5) 1 with
    | .ok s1 _ => .ok s1 0
    | .trap s1 e => .ok (s1.schedLog 0 ⟨e.cause, BitVec.ofNat 64 (l.word 5)⟩) 0
    | .wait s1 => .wait s1

/-- A launch ends with a state, a cause and a value: status, then signal (17 R424, R426, R432, R433). -/
def State.endLaunch (s : State) (id state cause value : Nat) : Acc Nat :=
  let s1 := s.onLaunch id (fun l => { l with state := state, cause := cause, value := value, failed := none })
  (s1.putStatus id).andThen fun s2 _ =>
  match tabGet? s2.launches id with
  | none => .ok s2 0
  | some l => s2.signalLaunch l

/-- Tags with no live thread whose launch has ended are freed; the cores of their clusters lose image and tag (17 R432, R435). -/
def State.reapTags (s : State) : State :=
  let gone (p : Nat × Launch) : Bool :=
    decide (4 ≤ p.2.state) && (match tabGet? (s.vdev p.2.vd).tags p.2.tag with
      | some (_, n) => n == 0
      | none => true)
  (s.launches.filter gone).foldl (fun s p =>
    let v := s.vdev p.2.vd
    let s1 : State :=
      { s.putVdev p.2.vd { v with tags := tabDel v.tags p.2.tag } with launches := tabDel s.launches p.1 }
    { s1 with cores := s1.cores.map (fun q =>
        if p.2.clusters.contains (sitePkgCluster q.1) && q.2.tag == some p.2.tag && tabGet? s.holders (siteRegion q.1) == some p.2.vd then (q.1, { q.2 with tag := Option.none }) else q) }) s

/-- The byte offset of the first field of a record that breaks 17 R423, in the order of 17 R424. -/
def recordFailure (l : Launch) : Option Nat :=
  let bad (c : Bool) (n : Nat) : Option Nat := if c then some n else none
  [ bad (l.word 0 % 64 != 0) 0,
    bad (l.nlen == 0 || decide (4096 < l.nlen)) 8,
    bad (l.field 13 15 != 0) 9,
    bad (l.clustersOf == 0 || decide (8 < l.clustersOf)) 11,
    bad (l.coresOf == 0 || decide (8 < l.coresOf)) 12,
    bad (l.rb && !l.ssm) 13,
    bad (l.field 44 4 != 0) 13,
    bad (if l.link = 0 then l.parts != 0 else decide (l.parts < 2) || decide (8 < l.parts)) 14,
    bad (l.word 3 % 64 != 0) 24,
    bad (l.word 4 % 64 != 0) 32,
    bad (l.word 5 % 64 != 0) 40,
    bad (l.word 6 % 8 != 0) 48,
    bad (l.word 7 % 64 != 0 || (l.word 7 == 0) == l.ssm) 56 ].findSome? id

/-- The same of the image header and the tests on both (17 R424 orders 2 to 6). -/
def headerFailure (l : Launch) : Option Nat :=
  let bad (c : Bool) (n : Nat) : Option Nat := if c then some n else none
  let w (i : Nat) : Nat := l.header.getD i 0
  [ bad (w 0 / 2 ^ 18 != 0) 66,
    bad (w 1 % 2 ^ 63 / 2 ^ 18 != 0) 74,
    bad (decide (l.wsz < 64) || decide (2040 < l.wsz) || l.wsz % 8 != 0) 80,
    bad (l.xb % 64 != 0) 88,
    bad (w 4 != 0) 96,
    bad (w 5 != 0) 104,
    bad (w 6 != 0) 112,
    bad (w 7 != 0) 120,
    bad (l.entry % 4 != 0 || decide (l.xb ≤ l.entry)) 64,
    bad (l.hv && (l.handler % 4 != 0 || decide (l.xb ≤ l.handler))) 72,
    bad (decide (l.nlen * 64 < l.xb)) 88,
    bad (decide (l.twp < l.nlen * 64 + 64 * max (l.wsz / 8) 41)) 8 ].findSome? id

/-- The working cores of a cluster of the package by slot. -/
def State.clusterCores (s : State) (k : Nat) : List Nat :=
  ((List.range 8).map (fun j => clusterSite k j)).filter s.works

/-- The clusters of a region, in ascending number (00 R4). -/
def regionClusters (r : Nat) : List Nat := (List.range 512).filter (fun k => siteRegion (clusterSite k 0) == r)

/-- The regions of a class of a device (17 R414). -/
def State.classMask (s : State) (v c : Nat) : Nat :=
  if c = 0 then (s.vdev v).slots.foldl (fun m p => m ||| p.2.mask) 0 else s.descWord v (16 + (c - 1))
def State.classRegions (s : State) (v c : Nat) : List Nat := (List.range 64).filter (fun r => (s.classMask v c).testBit r)

/-- Some region of the class has enough clusters with enough working cores (17 R424 order 7). -/
def State.classServes (s : State) (l : Launch) : Bool :=
  (s.classRegions l.vd l.cls).any (fun r =>
    decide (l.clustersOf ≤ ((regionClusters r).filter (fun k => decide (l.coresOf ≤ (s.clusterCores k).length))).length))

/-- The parts of a linked gang that wait or are ready, in taking order (17 R430). -/
def State.linked (s : State) (v num : Nat) : List (Nat × Launch) :=
  (s.taken v).filter (fun p => p.2.part == num && decide (p.2.state ≤ 2))

/-- A taken launch joins the linked gang of its link whose parts are being taken, or begins one (17 R430): the launches of one link form
gangs of PARTS in taking order, a part that is refused or skipped by itself among them. -/
def State.joinLink (s : State) (id : Nat) (l : Launch) : State :=
  let v := s.vdev l.vd
  if l.link = 0 then s
  else
    match tabGet? v.links l.link with
    | some f =>
      let links := if f.rest ≤ 1 then tabDel v.links l.link else tabSet v.links l.link { f with rest := f.rest - 1 }
      (s.putVdev l.vd { v with links := links }).onLaunch id (fun x => { x with part := f.num })
    | none =>
      if l.parts < 2 ∨ 8 < l.parts then s
      else
        (s.putVdev l.vd { v with
            links := tabSet v.links l.link ⟨v.formed + 1, l.field 40 4, l.parts - 1, false⟩, formed := v.formed + 1 }).onLaunch id
          (fun x => { x with part := v.formed + 1 })

/-- The linked gang that a launch joins as one of its later parts. -/
def State.joined (s : State) (l : Launch) : Option Forming := if l.link = 0 then none else tabGet? (s.vdev l.vd).links l.link

/-- A launch in the pending list (17 R427): by priority, then by its turn. -/
def State.pend (s : State) (id : Nat) (l : Launch) : State :=
  let v := s.vdev l.vd
  let prio (i : Nat) : Nat := ((tabGet? s.launches i).map (fun x => x.prio)).getD 0
  s.putVdev l.vd
    { v with pending := v.pending.filter (fun i => decide (l.prio ≤ prio i)) ++ [id]
                          ++ v.pending.filter (fun i => decide (prio i < l.prio)) }

/-- A launch becomes ready (17 R426); a linked gang enters the list with its last part (17 R430). -/
def State.makeReady (s : State) (id pred : Nat) : Acc Nat :=
  let s1 := s.onLaunch id (fun l => { l with state := 2, pval := true, pred := pred })
  (s1.putStatus id).andThen fun s2 _ =>
  match tabGet? s2.launches id with
  | none => .ok s2 0
  | some l =>
    if l.link = 0 then .ok (s2.pend id l) 0
    else
      let ps := (s2.linked l.vd l.part).filter (fun p => p.2.state == 2)
      if ps.length = ((ps.head?.map (fun p => p.2)).getD l).parts then .ok (s2.pend id l) 0 else .ok s2 0

/-- The predicate read once (17 R426): the launch is skipped or ready; a fault refuses it (17 R476). -/
def State.readPredicate (s : State) (id : Nat) (l : Launch) : Acc Nat :=
  if l.word 6 = 0 then s.makeReady id 0
  else
    match s.schedAcc dataTypes l.agent (l.word 6) 8 .load [rR] false with
    | .wait s1 => .wait s1
    | .trap s1 e => (s1.schedLog 0 e).endLaunch id 6 e.cause (l.word 6)
    | .ok s1 v => if v = 0 then (s1.onLaunch id (fun l => { l with pval := false, pred := 0 })).endLaunch id 5 0 0 else s1.makeReady id v

/-- Dependency d of a waiting launch read (17 R426): satisfied at 0 or below; a fault refuses the launch. -/
def State.readDep (s : State) (id d : Nat) : Acc Nat :=
  match tabGet? s.launches id with
  | none => .ok s 0
  | some l =>
    let a := l.word (3 + d)
    let have_ := if d = 0 then l.dep0 else l.dep1
    if l.state ≠ 1 ∨ have_ then .ok s 0
    else
      let set (s : State) : State :=
        s.onLaunch id (fun l => if d = 0 then { l with dep0 := true } else { l with dep1 := true })
      if a = 0 then .ok (set s) 0
      else
        match s.schedAcc signalTypes l.agent a 8 .load [rR] false with
        | .wait s1 => .wait s1
        | .trap s1 e => (s1.schedLog 0 e).endLaunch id 6 e.cause a
        | .ok s1 v => if (BitVec.ofNat 64 v).toInt ≤ 0 then .ok (set s1) 0 else .ok s1 0

/-- The dependencies of a waiting launch read, and its predicate when the last is satisfied. -/
def State.advanceLaunch (s : State) (id : Nat) (deps : List Nat) : Acc Nat :=
  (deps.foldl (fun r d => r.andThen fun s1 _ => s1.readDep id d) (Acc.ok s 0)).andThen fun s2 _ =>
  match tabGet? s2.launches id with
  | none => .ok s2 0
  | some l => if l.state = 1 ∧ l.dep0 ∧ l.dep1 then s2.readPredicate id l else .ok s2 0

/-- A refused launch (17 R424). -/
def State.refuseLaunch (s : State) (id cause value : Nat) : Acc Nat := s.endLaunch id 6 cause value

/-- Every part of a linked gang whose fields disagree refused (17 R430). -/
def State.refuseParts (s : State) : List (Nat × Launch) → Acc Nat
  | [] => .ok s 0
  | p :: t => (s.refuseLaunch p.1 cILLEGAL_FIELD 13).andThen fun s1 _ => s1.refuseParts t

/-- A taken launch judged (17 R424), with the parts of its linked gang, of which a disagreement refuses every one, those taken later too
(17 R430); then waiting (17 R426). -/
def State.judgeLaunch (s : State) (id : Nat) : Acc Nat :=
  match tabGet? s.launches id with
  | none => .ok s 0
  | some l0 =>
    let f := s.joined l0
    let t := s.joinLink id l0
    let l := (tabGet? t.launches id).getD l0
    match recordFailure l with
    | some n => t.refuseLaunch id cILLEGAL_FIELD n
    | none =>
      match t.schedAcc dataTypes l.agent (l.word 0) 64 .load [rX] true with
      | .wait s1 => .wait s1
      | .trap s1 e => (s1.schedLog 0 e).refuseLaunch id e.cause (l.word 0)
      | .ok s1 h =>
        let l1 : Launch := { l with header := (List.range 8).map (fun i => h / 2 ^ (64 * i) % 2 ^ 64) }
        let s2 := s1.onLaunch id (fun _ => l1)
        match headerFailure l1 with
        | some n => s2.refuseLaunch id cILLEGAL_FIELD n
        | none =>
          if !s2.classServes l1 then s2.refuseLaunch id cILLEGAL_FIELD 12
          else if f.any (fun x => x.bad) then s2.refuseLaunch id cILLEGAL_FIELD 13
          else if f.any (fun x => x.fields != l1.field 40 4) then
            let v := s2.vdev l1.vd
            (s2.putVdev l1.vd { v with links := v.links.map (fun p => if p.2.num = l1.part then (p.1, { p.2 with bad := true }) else p)
              }).refuseParts (s2.linked l1.vd l1.part)
          else (s2.putStatus id).andThen fun s3 _ => s3.advanceLaunch id [0, 1]

/-- A ring changed. -/
def State.putRing (s : State) (v q : Nat) (r : Ring) : State :=
  s.putVdev v { s.vdev v with rings := tabSet (s.vdev v).rings q r }

/-- The lowest free image tag of a device (17 R435). -/
def State.freeTag (s : State) (v : Nat) : Option Nat := (List.range 256).find? (fun t => (tabGet? (s.vdev v).tags t).isNone)

/-- The number of the next launch: after every one that the table holds. -/
def State.nextLaunch (s : State) : Nat := s.launches.foldl (fun n p => max n (p.1 + 1)) 0

/-- The fault of a ring access (17 R476): the ring is no longer watched. -/
def State.unwatch (s : State) (v q : Nat) (r : Ring) (e : Exc) : State := (s.schedLog 0 e).putRing v q { r with watched := false }

end Sys2Proof.Machine
end

