-- ==== Sys2Proof/Machine/Regions.lean ====
section
/-! DEFINITION. Reservations, the choice of the device that holds a region, placement of launches, and the commands of the
scheduler (17 R413 to R419, R427 to R434). -/

namespace Sys2Proof.Machine

/-- Ticks of a number of µs (00 R1). -/
def ticksOfUs (n : Nat) : Nat := 1000 * n

/-- The deadline of a reservation: the end of its period (17 R418). -/
def Reservation.deadline (r : Reservation) : Nat := r.start + ticksOfUs r.period

/-- The account of a reservation in a region. -/
def Reservation.account (r : Reservation) (region : Nat) : Account := tabGet r.accounts region ⟨0, 0⟩

/-- The reservations of a device on a region, by slot. -/
def State.reservations (s : State) (v r : Nat) : List (Nat × Reservation) := (s.vdev v).slots.filter (fun p => p.2.mask.testBit r)

/-- The reservation under which a device has budget on a region: the one of the earliest deadline (17 R419; log 30). -/
def State.budgetOn (s : State) (v r : Nat) : Option (Nat × Reservation) :=
  let ps := (s.reservations v r).filter (fun p => decide (0 < (p.2.account r).remaining))
  let first := (ps.map (fun p => p.2.deadline)).min?
  ps.find? (fun p => some p.2.deadline == first)

/-- The summed utilization of a region over the installed reservations (17 R413, R417). -/
def State.utilization (s : State) (r : Nat) : Nat :=
  s.vds.foldl (fun n p => p.2.slots.foldl (fun n q => if q.2.mask.testBit r then n + q.2.util else n) n) 0

/-- Package time charged to the holder of a region (17 R418): its remaining budget falls, and an overrun becomes debt. -/
def State.chargeRegion (s : State) (v r dt : Nat) : State :=
  let pick := match s.budgetOn v r with
    | some p => some p
    | none => (s.reservations v r).head?
  match pick with
  | none => s
  | some (slot, x) =>
    let a := x.account r
    let a1 : Account := { a with remaining := a.remaining - dt, debt := a.debt + (dt - a.remaining) }
    s.putVdev v { s.vdev v with slots := tabSet (s.vdev v).slots slot { x with accounts := tabSet x.accounts r a1 } }

/-- Package time that passes charged in every region that is held (17 R418). -/
def State.chargeRegions (s : State) (dt : Nat) : State := s.holders.foldl (fun s p => s.chargeRegion p.2 p.1 dt) s

/-- A new period of an account (17 R418). -/
def Account.renew (a : Account) (budget : Nat) : Account :=
  { a with remaining := budget - a.debt, debt := a.debt - budget }

/-- A launch occupies its clusters: it is placed, or it has ended and they still serve threads of its image tag (17 R432, R435;
log 104). -/
def State.occupies (s : State) (l : Launch) : Bool :=
  l.state == 3 || decide (4 ≤ l.state) && !l.clusters.isEmpty && (tabGet? (s.vdev l.vd).tags l.tag).any (fun x => x.2 != 0)

/-- Demand of a device on a region (17 R419): a placed launch, a stopped context, or a ready launch whose class includes it. -/
def State.demand (s : State) (v r : Nat) : Bool :=
  s.launches.any (fun p => p.2.vd == v &&
      (s.occupies p.2 && p.2.region == r || p.2.state == 2 && (s.classRegions v p.2.cls).contains r))
    || s.saved.any (fun p => p.1 / 4096 == v && siteRegion (p.1 % 4096) == r && !p.2.dead)

/-- The device that a region should be held by (17 R419): earliest deadline first, the lower number on a tie. -/
def State.choice (s : State) (r : Nat) : Option Nat :=
  let cs := (s.vds.filter (fun p => p.2.enabled && s.demand p.1 r)).filterMap (fun p =>
    (s.budgetOn p.1 r).map (fun q => (p.1, q.2.deadline)))
  let first := (cs.map (fun c => c.2)).min?
  (cs.find? (fun c => some c.2 == first)).map (fun c => c.1)

/-- The cores of a device in a region stopped (17 R419): by quiescence, for a device that is disabled or no longer reserves the region
(17 R415, R417) or for a budget that has reached 0 as its reason (17 R418), or first by pre-emption when the device acknowledges. -/
def State.stopHolder (s : State) (v r : Nat) : State :=
  let out := !(s.vdev v).enabled || (s.reservations v r).isEmpty
  let spent := (s.budgetOn v r).isNone
  (s.deviceSites v r).foldl (fun s t =>
    let c := s.core t
    if out then s.haltCore t cPREEMPT
    else if spent then s.haltCore t cBUDGET_END
    else if (s.descWord v 0).testBit 1 && !c.sp.psw.getLsbD 4 then (if c.preempt then s else s.preemptCore t)
    else s.haltCore t cPREEMPT) s

/-- One region granted, or its holder stopped (17 R419). -/
def State.regrant (s : State) (r : Nat) : State :=
  let want := s.choice r
  match tabGet? s.holders r with
  | none =>
    match want with
    | none => s
    | some v => { s with holders := tabSet s.holders r v }
  | some h =>
    if want = some h then s
    else if (s.deviceSites h r).isEmpty then
      { s with holders := match want with
                          | some v => tabSet s.holders r v
                          | none => tabDel s.holders r }
    else s.stopHolder h r

/-- Every region granted anew. -/
def State.regrantAll (s : State) : State := (List.range 64).foldl (fun s r => s.regrant r) s

/-- A cluster is eligible for a launch (17 R428). -/
def State.eligible (s : State) (l : Launch) (k : Nat) : Bool :=
  (s.clusterLaunch l.vd k).isNone && (s.clusterCores k).all (fun t => (s.core t).run == .idle)
    && decide (l.coresOf ≤ (s.clusterCores k).length)

/-- The die channel that would become the seam channel of a gang on a die, and the package channel of a linked gang (17 R428,
R430). -/
def State.freeChan (s : State) (v : Nat) (ks : List Nat) : Option Nat :=
  ks.find? (fun k => s.allotted v k && (s.chan k).members.isEmpty && (s.chan k).joins.isEmpty && (s.seamGang k).isNone)
def dieChans (die : Nat) : List Nat := (List.range 32).map (fun c => die * 32 + c)
def pkgChans : List Nat := (List.range 8).map (fun c => 128 + c)

/-- The clusters that a launch takes in a region, if it fits there (17 R428). -/
def State.fitsIn (s : State) (l : Launch) (r : Nat) : Option (List Nat) :=
  let ks := (regionClusters r).filter (s.eligible l)
  let resumed := !s.saved.any (fun p => p.1 / 4096 == l.vd && siteRegion (p.1 % 4096) == r && !p.2.dead)
  if tabGet? s.holders r = some l.vd && resumed && decide (l.clustersOf ≤ ks.length)
      && (!l.ssm || l.link != 0 || (s.freeChan l.vd (dieChans (r / 16))).isSome) then some (ks.take l.clustersOf)
  else none

/-- The first region of a launch's class that it fits and that is admitted (17 R428, R429). -/
def State.findFit (s : State) (l : Launch) (closed : List Nat) (after : Nat) : Option (Nat × List Nat) :=
  ((s.classRegions l.vd l.cls).filter (fun r => decide (after ≤ r) && !closed.contains r)).findSome? (fun r =>
    (s.fitsIn l r).map (fun ks => (r, ks)))

/-- Distinct regions in ascending number for the parts of a linked gang, in taking order (17 R430). -/
def State.findParts (s : State) (closed : List Nat) : Nat → List (Nat × Launch) → Option (List (Nat × Nat × List Nat))
  | _, [] => some []
  | after, (id, l) :: t =>
    match s.findFit l closed after with
    | none => none
    | some (r, ks) => (s.findParts closed (r + 1) t).map (fun xs => (id, r, ks) :: xs)

/-- The local image read under the owner with E and X, as a memory (17 R424, R431). -/
def State.readImage (s : State) (g : Agent) (va target : Nat) (m : Memory) : Nat → Acc Memory
  | 0 => .ok s m
  | n + 1 =>
    (s.schedAcc dataTypes g va 64 .load [rX] true).andThen fun s1 v => s1.readImage g (va + 64) (target + 64) (memWrite m target 64 v) n

/-- A working core of a chosen cluster given the image and the registers of the launch (17 R431). -/
def Core.imaged (c : Core) (l : Launch) (m : Memory) : Core :=
  let c1 := c.clearLocal 0 (64 * l.nlen)
  { c1 with
    loc := memOver c1.loc 0 m
    tag := some l.tag
    sp := { c1.sp with
      twp := BitVec.ofNat 64 l.twp
      xb := BitVec.ofNat 64 l.xb
      ovl := 0
      tvec := BitVec.ofNat 64 l.handler } }

/-- The first sector with no memory behind it of what placement writes in a site slot: thread record, continuation record and frame, one
after another (17 R431, R476). -/
def State.slotGap (s : State) (l : Launch) (site : Nat) : Option Nat :=
  ((List.range (2 + max (l.wsz / 8) 41)).map (fun i => s.siteRecord l.vd site + 349696 + 64 * i)).find? (fun a => !s.backed a 64)

/-- The frame, continuation record and thread record of a placed core written to its site slot (17 R431); the handle. -/
def State.writeSlot (s : State) (l : Launch) (site : Nat) : Except Exc (State × Nat) :=
  let a := s.siteRecord l.vd site
  match s.slotGap l site with
  | some at_ => .error ⟨cNOT_PRESENT, BitVec.ofNat 64 at_⟩
  | none =>
    let w := l.wsz / 8
    let gen := (recGen (s.readOwn (a + 349696) 8) + 1) % 2 ^ 16
    let cont := w * 2 ^ 32 + l.entry + (if 41 ≤ w then 2 ^ 41 else 0) + (if l.sm then 2 ^ 42 else 0)
    let s1 := s.copyOut [] 0 (a + 349824) (max w 41)
    let s2 := s1.writeOwn (a + 349824 + 16) 8 (l.word 2)
    let s3 := s2.writeOwn64s (a + 349760) [cont, a + 349824, 0, 0]
    let rec_ := l.tag * 2 ^ 56 + l.handler / 4 % 2 ^ 16 * 2 ^ 40 + l.owner * 2 ^ 20 + 2 ^ 16 + gen
    let s4 := s3.writeOwn64s (a + 349696) [rec_, cont, a + 349824, 0, 0, 0, 0, 0]
    .ok (s4.tagAdd l.vd l.tag true, gen * 2 ^ 48 + (a + 349696) / 16)

/-- A placed core started (17 R431): its thread dispatched, then s.gang and the superstep bits (09 R217). -/
def State.startPlaced (s : State) (id : Nat) (l : Launch) (site : Nat) (gang : DWord) : Acc Nat :=
  match s.writeSlot l site with
  | .error e => .trap (s.schedLog (siteDie site) e) e
  | .ok (s1, h) =>
    let s2 := s1.onLaunch id (fun x => { x with live := x.live ++ [h] })
    match s2.dispatchThread site l.vd h with
    | .wait s3 => .wait s3
    | .lost s3 e => .trap s3 e
    | .unfit s3 => .trap s3 ⟨cLOCAL_RANGE, 0⟩
    | .dropped s3 => .trap s3 ⟨cTHREAD_RECORD, BitVec.ofNat 64 (handleRec h)⟩
    | .running s3 =>
      let s4 := s3.onCore site (fun c =>
        { c with sp := { c.sp with
            gang := gang
            psw := c.sp.psw ||| (if l.ssm then 0x10 else 0) ||| (if l.rb then 0x40 else 0) } })
      .ok (s4.record site) h

/-- The placed cores of a launch started, with the gang word of each site. -/
def State.startAll (s : State) (id : Nat) (l : Launch) (gang : Nat → DWord) : List Nat → Acc Nat
  | [] => .ok s 0
  | t :: ts =>
    match s.startPlaced id l t (gang t) with
    | .wait s1 => .wait s1
    | .trap s1 e => .ok (s1.failLaunch (fun p => p.1 == id) e.cause e.eval.toNat) 0
    | .ok s1 _ => s1.startAll id l gang ts

/-- The cores that a launch places on in its clusters: the working cores of lowest slot in each (17 R431). -/
def State.placedCores (s : State) (l : Launch) (ks : List Nat) : List Nat := ks.flatMap (fun k => (s.clusterCores k).take l.coresOf)

/-- s.gang of a placed core (09 R217, 17 R431): seam channel, size and rank in a superstep gang. -/
def gangWord (ssm : Bool) (chan size ident rank : Nat) : DWord :=
  BitVec.ofNat 64 (ident % 2 ^ 32 * 2 ^ 12 + (if ssm then chanNumber chan * 2 ^ 56 + size * 2 ^ 44 + rank else 0))

/-- One launch placed in a region on clusters (17 R431). -/
def State.placeOne (s : State) (id r : Nat) (ks : List Nat) (gang : Nat → DWord) (gid : Option Nat) : Acc Nat :=
  match tabGet? s.launches id with
  | none => .ok s 0
  | some l =>
    let cores := s.placedCores l ks
    let s1 := s.onLaunch id (fun x => { x with state := 3, region := r, clusters := ks, cores := cores, gang := gid })
    (s1.putStatus id).andThen fun s2 _ =>
    match s2.readImage l.agent (l.word 0 + 64) 0 [] l.nlen with
    | .wait s3 => .wait s3
    | .trap s3 e => .ok ((s3.schedLog (r / 16) e).failLaunch (fun p => p.1 == id) e.cause e.eval.toNat) 0
    | .ok s3 m =>
      let s4 := (ks.flatMap s.clusterCores).foldl (fun s t => s.onCore t (fun c => c.imaged l m)) s3
      s4.startAll id l gang cores

/-- The launches of a gang placed together (17 R428, R430, R431; 09 R217, R218, R231): ranks ascend with the package logical number
over all parts; the identifier holds the virtual device and the image tag of the first part, which no other incomplete launch has.
Imbalance ring, owner and mode are those of the first part (log 99). -/
def State.placeGang (s : State) (v : Nat) (parts : List (Nat × Nat × List Nat)) : Acc Nat :=
  match parts.head?.bind (fun p => tabGet? s.launches p.1) with
  | none => .ok s 0
  | some l =>
    let cores := (parts.flatMap (fun p => match tabGet? s.launches p.1 with
      | some x => s.placedCores x p.2.2
      | none => []))
    let sorted := (List.range 4096).filter cores.contains
    let chan := (s.freeChan v (if l.link = 0 then dieChans ((parts.headD (0, 0, [])).2.1 / 16) else pkgChans)).getD 0
    let gid := (parts.headD (0, 0, [])).1
    let ident := (Config.gangBits s.free).toNat * 2 ^ 16 + v * 256 + l.tag + 1
    let word (t : Nat) : DWord := gangWord l.ssm chan sorted.length ident (sorted.findIdx (· == t))
    let islands := sorted.map siteIsland
    let s1 : State :=
      if !l.ssm then s
      else
        let g : Gang :=
          { cores := sorted, chan := chan, rb := l.rb, imb := l.word 7, owner := l.owner, vd := v, mode := if l.sm then 1 else 0,
            arrivals := [], release := s.time, superstep := 0, fails := 0, rolled := false, drop := false, withheld := false,
            launches := parts.map (fun p => p.1) }
        { (s.putChan chan { s.chan chan with members := sorted, thr := sorted.length, st := .active }).divide islands
            ((s.commonDivider islands).getD 1) with
          gangs := tabSet s.gangs gid g }
    parts.foldl (fun r p => r.andThen fun t _ => t.placeOne p.1 p.2.1 p.2.2 word (if l.ssm then some gid else none)) (Acc.ok s1 0)

/-- The parts that an entry of the pending list stands for (17 R430). -/
def State.entryParts (s : State) (v id : Nat) : List (Nat × Launch) :=
  match tabGet? s.launches id with
  | none => []
  | some l => if l.link = 0 then [(id, l)] else s.linked v l.part

/-- The islands of the cores that a gang would be placed on can run at one divider (09 R231). -/
def State.evenDividers (s : State) (ps : List (Nat × Nat × List Nat)) : Bool :=
  let cores := ps.flatMap (fun p => match tabGet? s.launches p.1 with
    | some l => s.placedCores l p.2.2
    | none => [])
  (s.commonDivider (cores.map siteIsland)).isSome

/-- Where an entry would be placed now (17 R428 to R430). -/
def State.entryFit (s : State) (v id : Nat) (closed : List Nat) : Option (List (Nat × Nat × List Nat)) :=
  match s.entryParts v id with
  | [] => none
  | [(i, l)] => ((s.findFit l closed 0).map (fun x => [(i, x.1, x.2)])).filter (fun ps => !l.ssm || s.evenDividers ps)
  | ps =>
    if (s.freeChan v pkgChans).isNone then none
    else (s.findParts closed 0 ps).filter (fun xs => !ps.any (fun p => p.2.ssm) || s.evenDividers xs)

/-- The pending list walked in order (17 R428, R429): past are the entries passed over, the first of which is the head. -/
def State.walkPending (s : State) (v : Nat) (past : List Nat) : List Nat → Acc Nat
  | [] => .ok s 0
  | id :: t =>
    let head := past.head?.bind (fun i => tabGet? s.launches i)
    let closed := match head with
      | some h => if 4 ≤ h.age then s.classRegions v h.cls else []
      | none => []
    match s.entryFit v id closed with
    | none => s.walkPending v (past ++ [id]) t
    | some parts =>
      match s.placeGang v parts with
      | .wait s1 => .wait s1
      | .trap s1 e => .trap s1 e
      | .ok s1 _ =>
        let s2 := s1.putVdev v { s1.vdev v with pending := (s1.vdev v).pending.filter (· != id) }
        let s3 := match past.head? with
          | some h => s2.onLaunch h (fun l => { l with age := min (l.age + 1) 15 })
          | none => s2
        s3.walkPending v past t

/-- Every pending list walked (17 R428). -/
def State.walkAll (s : State) : Acc Nat :=
  s.vds.foldl (fun r p => r.andThen fun s1 _ =>
    if (s1.vdev p.1).enabled then s1.walkPending p.1 [] (s1.vdev p.1).pending else .ok s1 0) (Acc.ok s 0)

/-- Regions granted and pending lists walked until the placements change no grant any more, since a placement can end its device's demand
on other regions (17 R419, R428). -/
def State.grantAndPlace : Nat → State → Acc Nat
  | 0, s => s.regrantAll.walkAll
  | n + 1, s =>
    s.regrantAll.walkAll.andThen fun s1 _ =>
      let s2 := s1.regrantAll
      if s2.holders = s1.holders then .ok s2 0 else s2.grantAndPlace n

/-- What follows every event of 17 R419: tags, regions, placements. -/
def State.placedAfter (r : Acc Nat) : Acc Nat := r.andThen fun s1 _ => s1.reapTags.grantAndPlace 64

/-- What a sequence that must wait leaves: its requests for tokens, and its count of refusals. -/
def State.asked (s s1 : State) : State := { s with reqs := s1.reqs, hub := { s.hub with schMoved := s1.hub.schMoved } }

/-- What an event or a command of the scheduler leaves, which changes nothing else yet when it must wait. -/
def State.performed (s : State) (r : Acc Nat) : State :=
  match r with
  | .ok s1 _ => s1
  | .wait s1 => s.asked s1
  | .trap s1 _ => s.asked s1

/-- The same for an event, with what follows it. -/
def State.scheduled (s : State) (r : Acc Nat) : State := s.performed (State.placedAfter r)

/-- Records taken in order (17 R421), at most n; the pending list is walked at each taking (17 R428). -/
def State.takeRecords (s : State) (v q : Nat) : Nat → Acc Nat
  | 0 => .ok s 0
  | n + 1 =>
    match tabGet? (s.vdev v).rings q, s.freeTag v with
    | some r, some tag =>
      if !r.watched ∨ r.head = r.tail ∨ 256 ≤ (s.taken v).length then .ok s 0
      else
        let i := r.head % 2 ^ r.logN
        let at_ := r.header + 256 + 64 * i
        let g := queueAgent r.owner v r.sm 0 none
        let id := s.nextLaunch
        let fresh (rec_ : List Nat) : Launch :=
          { vd := v, queue := q, pos := r.head, record := rec_, header := [], owner := r.owner, sm := r.sm, tag := tag,
            status := r.status + 32 * i, state := 1, age := 0, pval := rec_.getD 6 0 == 0, pred := 0, dep0 := false, dep1 := false,
            region := 0, clusters := [], cores := [], live := [], gang := none, part := 0, cause := 0, value := 0, failed := none }
        let enter (s : State) (rec_ : List Nat) : State :=
          let s1 := s.putVdev v { s.vdev v with tags := tabSet (s.vdev v).tags tag (id, 0) }
          { s1 with launches := tabSet s1.launches id (fresh rec_) }
        let next := (r.head + 1) % 2 ^ 64
        let done (s : State) (k : State → Acc Nat) : Acc Nat :=
          let headed : Acc Nat :=
            match s.schedAcc ringTypes g (r.header + 136) 8 (.store next) [rW] false with
            | .wait s1 => .wait s1
            | .trap s1 e => k (s1.unwatch v q r e)
            | .ok s1 _ => k (s1.putRing v q { r with head := next })
          (State.placedAfter headed).andThen fun s3 _ => s3.takeRecords v q n
        match s.schedAcc ringTypes g at_ 64 .load [rR] false with
        | .wait s1 => .wait s1
        | .trap s1 e => done ((enter s1 []).schedLog 0 e) (fun s2 => s2.refuseLaunch id e.cause at_)
        | .ok s1 x => done (enter s1 ((List.range 8).map (fun j => x / 2 ^ (64 * j) % 2 ^ 64))) (fun s2 => s2.judgeLaunch id)
    | _, _ => .ok s 0

/-- TAIL read again, and records taken or the overflow marked (17 R421, R422). -/
def State.readTail (s : State) (v q : Nat) : Acc Nat :=
  match tabGet? (s.vdev v).rings q with
  | none => .ok s 0
  | some r =>
    if !r.watched then .ok s 0
    else
      let g := queueAgent r.owner v r.sm 0 none
      match s.schedAcc ringTypes g r.header 8 .load [rR] false with
      | .wait s1 => .wait s1
      | .trap s1 e => .ok (s1.unwatch v q r e) 0
      | .ok s1 t =>
        let s2 := s1.putRing v q { r with tail := t }
        if 2 ^ r.logN < (t + 2 ^ 64 - r.head) % 2 ^ 64 then
          match s2.schedAcc ringTypes g (r.header + 128) 8 .load [rR] false with
          | .wait s3 => .wait s3
          | .trap s3 e => .ok (s3.unwatch v q { r with tail := t } e) 0
          | .ok s3 w =>
            match s3.schedAcc ringTypes g (r.header + 128) 8 (.store (w % 2 ^ 63 + 2 ^ 63)) [rW] false with
            | .wait s4 => .wait s4
            | .trap s4 e => .ok (s4.unwatch v q { r with tail := t } e) 0
            | .ok s4 _ => .ok (s4.putRing v q { r with tail := t, watched := false }) 0
        else s2.takeRecords v q (2 ^ r.logN)

/-- A launch queue watched (17 R421, R422): its entry of the descriptor and its header are read. -/
def State.watchRing (s : State) (v q : Nat) : Acc Nat :=
  let w (i : Nat) : Nat := s.readOwn (s.descAddr v + 256 + 16 * q + 8 * i) 8
  let base : Ring :=
    { watched := false, header := w 0, owner := w 1 % 2 ^ 20, sm := (w 1).testBit 20, logN := 0, head := 0, status := 0, tail := 0 }
  if !(w 1).testBit 21 then .ok (s.putRing v q base) 0
  else
    let g := queueAgent base.owner v base.sm 0 none
    let rd (s : State) (off : Nat) : Acc Nat := s.schedAcc ringTypes g (base.header + off) 8 .load [rR] false
    let seq : Acc Ring :=
      (rd s 128).andThen fun s1 n =>
      (rd s1 136).andThen fun s2 h =>
      (rd s2 144).andThen fun s3 st => .ok s3 { base with watched := true, logN := min (n % 16) 12, head := h, tail := h, status := st }
    match seq with
    | .wait s1 => .wait s1
    | .trap s1 e => .ok (s1.unwatch v q base e) 0
    | .ok s1 r => (s1.putRing v q r).readTail v q

/-- The launch queues of a device watched. -/
def State.watchAll (s : State) (v : Nat) : List Nat → Acc Nat
  | [] => .ok s 0
  | q :: t => (s.watchRing v q).andThen fun s1 _ => s1.watchAll v t

/-- The outcome fields of a command (17 R413). -/
def State.schStat (s : State) (refused bad : Bool) (region sum : Nat) : State :=
  { s with hub := { s.hub with schRefused := refused, schBad := bad, schRegion := region, schSum := sum } }
def State.schOk (s : State) : State := s.schStat false false s.hub.schRegion s.hub.schSum

/-- Enable a device (17 R415, R421). -/
def State.enableVd (s : State) (v : Nat) : Acc Nat :=
  let s0 := s.readDesc v
  if s0.descWord v 0 % 2 = 0 then .ok (s.schStat true false s.hub.schRegion s.hub.schSum) 0
  else
    let s1 := (s0.putVdev v { s0.vdev v with enabled := true }).schOk
    State.placedAfter (s1.watchAll v (List.range 8))

/-- Disable a device (17 R415): its cores are quiesced, its contexts and taken launches kept. -/
def State.disableVd (s : State) (v : Nat) : Acc Nat :=
  if !(s.vdev v).enabled then .ok s.schOk 0
  else
    let s1 := s.readDesc v
    let s2 := s1.putVdev v
      { s1.vdev v with enabled := false, rings := (s1.vdev v).rings.map (fun p => (p.1, { p.2 with watched := false })) }
    State.placedAfter (.ok ((List.range 64).foldl (fun s r =>
      (s.deviceSites v r).foldl (fun s t => s.haltCore t cPREEMPT) s) s2.schOk) 0)

/-- The reservation of a slot as a descriptor holds it, when it is well formed (17 R416, R417). -/
def reservationOf (w : List Nat) (now : Nat) : Option Reservation :=
  let mask := w.getD 0 0
  let period := w.getD 1 0 / 2 ^ 32
  let budget := w.getD 1 0 % 2 ^ 32
  let x := w.getD 2 0
  if mask = 0 ∨ period = 0 ∨ 10000000 < period ∨ budget = 0 ∨ period < budget ∨ x / 2 ^ 32 ≠ 0 ∨ x / 2 % 2 ^ 15 ≠ 0
      ∨ w.getD 3 0 ≠ 0 then none
  else
    some
      { mask := mask, period := period, budget := budget, util := min ((65536 * budget + period - 1) / period) 65535,
        start := now / 1000 * 1000,
        accounts := ((List.range 64).filter (fun r => mask.testBit r)).map (fun r => (r, ⟨ticksOfUs budget, 0⟩)) }

/-- The word of a reservation that the scheduler writes (17 R416). -/
def State.reservationWord (s : State) (v slot : Nat) : Nat := s.descAddr v + 384 + 32 * slot + 16

/-- Install a reservation (17 R417). -/
def State.installReservation (s : State) (v slot : Nat) : Acc Nat :=
  let s1 := s.readDesc v
  let bad := s1.schStat true true s.hub.schRegion s.hub.schSum
  if (tabGet? (s1.vdev v).slots slot).isSome then .ok bad 0
  else
    match reservationOf ((s1.vdev v).desc.drop (48 + 4 * slot)) s.time with
    | none => .ok bad 0
    | some x =>
      match ((List.range 64).filter (fun r => x.mask.testBit r)).find? (fun r => decide (64225 < s1.utilization r + x.util)) with
      | some r => .ok (s1.schStat true false r (min (s1.utilization r + x.util) 65535)) 0
      | none =>
        let s2 := s1.putVdev v { s1.vdev v with slots := tabSet (s1.vdev v).slots slot x }
        State.placedAfter (.ok (s2.writeOwn (s2.reservationWord v slot) 8 (x.util * 2 ^ 16 + 1)).schOk 0)

/-- Remove a reservation (17 R417): the device's cores in regions that it no longer reserves are quiesced. -/
def State.removeReservation (s : State) (v slot : Nat) : Acc Nat :=
  let s1 := s.readDesc v
  match tabGet? (s1.vdev v).slots slot with
  | none => .ok s1.schOk 0
  | some x =>
    let s2 := s1.putVdev v { s1.vdev v with slots := tabDel (s1.vdev v).slots slot }
    let s3 := (s2.writeOwn (s2.reservationWord v slot) 8 (x.util * 2 ^ 16)).schOk
    let lost := (List.range 64).filter (fun r => x.mask.testBit r && (s3.reservations v r).isEmpty)
    State.placedAfter (.ok (lost.foldl (fun s r => (s.deviceSites v r).foldl (fun s t => s.haltCore t cPREEMPT) s) s3) 0)

/-- The descriptor of a device delivers data (12 R308). -/
def State.descSound (s : State) (v : Nat) : Bool := (List.range 8).all (fun i => s.sound (s.descAddr v / 64 + i))

/-- sch.cmd (17 R413): 0 enable, 1 disable, 2 install, 3 remove; it waits while the descriptor delivers no data (log 95). -/
def State.schedCommand (s : State) (op slot v : Nat) : Acc Nat :=
  if !s.descSound v then .wait s
  else
  match op with
  | 0 => s.enableVd v
  | 1 => s.disableVd v
  | 2 => s.installReservation v slot
  | _ => s.removeReservation v slot

/-- A period of a reservation starts (17 R418). -/
def State.startPeriod (s : State) (v slot : Nat) : State :=
  match tabGet? (s.vdev v).slots slot with
  | none => s
  | some x =>
    if s.time < x.deadline then s
    else
      let y : Reservation :=
        { x with start := x.deadline, accounts := x.accounts.map (fun p => (p.1, p.2.renew (ticksOfUs x.budget))) }
      s.scheduled (.ok (s.putVdev v { s.vdev v with slots := tabSet (s.vdev v).slots slot y }) 0)

/-- A remaining budget has reached 0 while the device holds the region (17 R418). -/
def State.exhaust (s : State) (v slot r : Nat) : State :=
  match tabGet? (s.vdev v).slots slot with
  | none => s
  | some x =>
    if !x.mask.testBit r ∨ (x.account r).remaining ≠ 0 ∨ (s.budgetOn v r).isSome ∨ tabGet? s.holders r ≠ some v then s
    else s.scheduled (.ok ((s.deviceSites v r).foldl (fun s t => s.haltCore t cBUDGET_END) s) 0)

/-- What the watched line of a ring holds as TAIL (17 R421); none, while its page cannot be read. -/
def State.tailNow (s : State) (r : Ring) : Option Nat :=
  match (s.walkOf 0 r.header).res with
  | .leaf e =>
    let pa := e.pa r.header
    match pteType e.pte with
    | 0 => some (if s.legible (pteKey e.pte) (pa / 64) then s.readOwn pa 8 else 0)
    | 3 => some (memRead s.hostMem pa 8)
    | _ => none
  | _ => none

/-- The watched rings whose tail has changed, in the order in which the tail stores performed (17 R421); those of one step by device and
ring (log 86). -/
def State.noteTails (s : State) : State :=
  let rings := s.vds.flatMap (fun p => if p.2.enabled then p.2.rings.map (fun q => (p.1, q.1, q.2)) else [])
  let now := (rings.filter (fun x => x.2.2.watched && (s.tailNow x.2.2).any (· != x.2.2.tail))).map (fun x => (x.1, x.2.1))
  { s with hub := { s.hub with tails := s.hub.tails.filter now.contains ++ now.filter (fun x => !s.hub.tails.contains x) } }

/-- A watched ring's tail changed (17 R421): it is served after those whose tails changed before. -/
def State.ringChange (s : State) (v q : Nat) : State :=
  if (s.vdev v).enabled && !(s.hub.tails.contains (v, q) && s.hub.tails.head? != some (v, q)) then s.scheduled (s.readTail v q) else s

/-- The dependencies of a waiting launch that name a signal. -/
def Launch.depsOn (l : Launch) (a : Nat) : List Nat := [0, 1].filter (fun d => l.word (3 + d) == a)

/-- The line of a dependency changed (17 R426): the waiting launches of its device that depend on the same signal read it together, in
taking order (17 R427). -/
def State.depChange (s : State) (id d : Nat) : State :=
  match tabGet? s.launches id with
  | none => s.scheduled (.ok s 0)
  | some l =>
    let a := l.word (3 + d)
    let ids := (s.launches.filter (fun p => p.2.vd == l.vd && p.2.state == 1 && !(p.2.depsOn a).isEmpty)).map (fun p => p.1)
    s.scheduled (ids.foldl (fun r i => r.andThen fun s1 _ =>
      s1.advanceLaunch i (((tabGet? s1.launches i).map (fun x => x.depsOn a)).getD [])) (Acc.ok s 0))

/-- A gang whose launches have ended leaves its seam channel (09 R218, R230). -/
def State.endGang (s : State) (gid : Option Nat) : State :=
  match gid with
  | none => s
  | some i =>
    match tabGet? s.gangs i with
    | none => s
    | some g =>
      if g.launches.any (fun l => (tabGet? s.launches l).any (fun x => x.state == 3)) then s
      else
        let c := s.chan g.chan
        { s.putChan g.chan { Channel.reset with phase := if c.members.isEmpty then c.phase else (c.phase + 1) % 2 ^ 48 } with
          snaps := s.snaps.filter (fun p => p.1 / 4096 != i), undo := s.undo.filter (fun p => p.1 / 4096 != i),
          gangs := tabDel s.gangs i, releases := s.releases.filter (fun r => r.chan != g.chan),
          xmsgs := s.xmsgs.filter (fun p => !g.cores.contains p.2.src) }

/-- A launch whose threads have all ended completes (17 R432). -/
def State.completeLaunch (s : State) (id : Nat) : State :=
  match tabGet? s.launches id with
  | none => s
  | some l =>
    if l.state ≠ 3 ∨ !l.live.isEmpty ∨ l.failed.isSome then s
    else s.scheduled ((s.endLaunch id 4 0 0).andThen fun s1 _ => .ok (s1.endGang l.gang) 0)

/-- One core of a launch that ends by fault stopped, its image in its site slot (17 R433). -/
def State.abandonCore (s : State) (l : Launch) (t : Nat) : State :=
  let c := s.core t
  if c.run = .idle then s
  else
    let h := c.sp.thr.toNat
    let s1 := if c.run = .stopped ∧ c.stop.isSome then s else s.quiesceCore t cPREEMPT
    let s2 := s1.writeContext l.vd t
    let s3 : State :=
      { s2.onCore t Core.freed with ords := s2.ords.filter (fun p => p.2.site != t), lands := s2.lands.filter (fun p => p.2.site != t) }
    ((s3.tagAdd l.vd l.tag false).threadEnded h).unwait h

/-- A saved context of a launch that ends by fault is not resumed (17 R433). -/
def State.abandonSaved (s : State) (l : Launch) (t : Nat) : State :=
  match tabGet? s.saved (savedKey l.vd t) with
  | none => s
  | some x =>
    let s1 : State := { s with saved := tabSet s.saved (savedKey l.vd t) { x with dead := true } }
    if x.core.stop.any (fun i => i.idle) then s1
    else ((s1.tagAdd l.vd l.tag false).threadEnded x.core.sp.thr.toNat).unwait x.core.sp.thr.toNat

/-- The cores of a launch that ends by fault stop (17 R433). -/
def State.abandon (s : State) (l : Launch) : State :=
  let ts := l.clusters.flatMap s.clusterCores
  let s1 := ts.foldl (fun s t => s.abandonSaved l t) s
  if tabGet? s.holders l.region = some l.vd then ts.foldl (fun s t => s.abandonCore l t) s1 else s1

/-- A core of a launch that ends by fault has not stopped as for a tenant switch: it is within a repetition or in M mode (16 R402), or its
work in flight is not settled (16 R392). -/
def Core.lingers (c : Core) : Bool :=
  c.run == .running && (c.rep.isSome || c.mode == 3) || (c.run == .running || c.settling) && !c.settledWork

/-- A launch ends by fault (17 R433): its cores stop first, as for a tenant switch, each with its work settled. -/
def State.faultLaunch (s : State) (id : Nat) : State :=
  match tabGet? s.launches id with
  | none => s
  | some l =>
    match l.failed with
    | none => s
    | some (cause, value) =>
      let ts := l.clusters.flatMap s.clusterCores
      if l.state ≠ 3 then s
      else if tabGet? s.holders l.region = some l.vd ∧ ts.any (fun t => (s.core t).lingers) then
        ts.foldl (fun s t => s.onCore t (fun c => if c.run = .running ∧ c.halt.isNone then { c with halt := some cPREEMPT } else c)) s
      else s.scheduled (((s.abandon l).endLaunch id 7 cause value).andThen fun s1 _ => .ok (s1.endGang l.gang) 0)

end Sys2Proof.Machine
end

