-- ==== Sys2Proof/Machine/Device.lean ====
section
/-! DEFINITION. The device registers: the windows of the hub and the dies (20 R472 to R474, R477, R471; 17 R413; 18 R440, R448,
R452; 12 R307; 14 R361, R362; 15 R367; 16 R389, R406; 19 R456).  Registers are 64 bits wide; unlisted offsets read as zero
and ignore writes. -/

namespace Sys2Proof.Machine

/-- boot.stat (20 R477). -/
def Boot.word (b : Boot) : Nat :=
  min b.fails 255 * 2 ^ 16 + (if b.recov then 2 ^ 9 else 0) + (if b.warm then 2 ^ 8 else 0) + b.step

/-- The working cores of a die (20 R474). -/
def State.workingCores (s : State) (die : Nat) : Nat := 1024 - (s.fused.filter (fun f => f / 1024 == die)).length

/-- Four 16-bit fields as a word, lowest first. -/
def quarters (f : Nat → Nat) : Nat := f 0 + f 1 * 2 ^ 16 + f 2 * 2 ^ 32 + f 3 * 2 ^ 48

/-- The header of a capability entry (20 R474). -/
def capHeader (id units next : Nat) : Nat := id + 2 ^ 16 + units * 2 ^ 24 + next * 2 ^ 32

/-- A port's field in the capability list (20 R474, 18 R447). -/
def Port.word (p : Port) : Nat :=
  p.rate + (if p.flit256 then 4 else 0) + (if p.host then 8 else 0) + (if p.down then 16 else 0)

/-- The words of the capability list (20 R474), its entries one after another (log 32). -/
def State.capabilities (s : State) : List Nat :=
  [ capHeader 1 6 24, 9400 + Config.siliconRevision.toNat * 2 ^ 16, quarters s.workingCores,
    capHeader 2 10 64 ]
  ++ (List.range 4).map (fun i => quarters (fun j => s.stackGib.getD (4 * i + j) 0))
  ++ (if s.errInj then [capHeader 3 2 72] else [])
  ++ [capHeader 4 14 0]
  ++ (List.range 6).map (fun i => quarters (fun j => (tabGet s.ports (4 * i + j) ⟨0, false, false, false⟩).word))

/-- Byte i of the body of the vendor-specific capability in the CXL configuration space (20 R474): the bytes of the list. -/
def State.configByte (s : State) (i : Nat) : Byte := BitVec.ofNat 8 (s.capabilities.getD (i / 8) 0 / 256 ^ (i % 8))

/-- A register of the hub window (20 R472). -/
def State.hubRead (s : State) (o : Nat) : Nat :=
  if o = 0 then s.boot.word
  else if o = 0xE00 then s.hub.vdt.toNat
  else if o = 0xE10 then
    s.hub.schSum % 2 ^ 16 * 2 ^ 16 + s.hub.schRegion % 64 * 2 ^ 8 + (if s.hub.schBad then 4 else 0)
      + (if s.hub.schRefused then 2 else 0) + (if s.hub.schCmd.isSome then 1 else 0)
  else if 0xF00 ≤ o ∧ o < 0x1100 then min (s.utilization ((o - 0xF00) / 8)) 65535
  else if o = 0x1800 then s.hub.hbBase.toNat
  else if o = 0x1810 then (if s.hub.hbDrop then 2 ^ 8 else 0) + s.hub.flips.length
  else if o = 0x1818 then s.hub.hbDone.toNat
  else if 0x2200 ≤ o ∧ o < 0x4000 then
    let w := tabGet s.hub.windows ((o - 0x2000) / 32) ⟨0, 0, 0, 0⟩
    match o % 32 with
    | 0 => w.map.toNat
    | 8 => w.base.toNat
    | 16 => w.tout * 2 ^ 32 + w.refuse
    | _ => 0
  else if 0x4000 ≤ o ∧ o < 0x6000 then s.capabilities.getD ((o - 0x4000) / 8) 0
  else if o = 0x6008 then
    (if s.hub.ksRefused then 2 ^ 9 else 0) + (if s.hub.ksCmd.isSome then 2 ^ 8 else 0) + s.hub.freeKeys
  else if 0x6010 ≤ o ∧ o < 0x6010 + 8 * 255 ∧ o ≤ 0x67F8 then tabGet s.hub.keySlots ((o - 0x6010) / 8) 0 % 4
  else 0

/-- A level-two statistics register (12 R307). -/
def L2.register (c : L2) (i : Nat) : Nat :=
  match i with
  | 0 => c.used % 2 ^ 21
  | 1 => c.zeros % 2 ^ 21
  | 2 => c.live % 2 ^ 20
  | 3 => c.eff
  | 4 => c.hhit % 2 ^ 64
  | 5 => c.hmis % 2 ^ 64
  | 6 => c.rcov % 2 ^ 64
  | _ => 0

/-- A register of a trace unit (19 R456). -/
def TraceUnit.register (t : TraceUnit) (i : Nat) : Nat :=
  match i with
  | 0 => t.ctl.toNat
  | 1 => t.list.toNat
  | 2 => t.npg
  | 3 => t.lo.toNat
  | 4 => t.hi.toNat
  | 5 => t.page % 2 ^ 8 * 2 ^ 32 + t.rec_ % 2 ^ 11
  | 6 => t.drop
  | 7 => (if t.full then 2 ^ 8 else 0) + t.buf.length
  | _ => 0

/-- A register of a die's uncore window (20 R472). -/
def State.uncoreRead (s : State) (die o : Nat) : Nat :=
  let d := s.die die
  if o = 0 then d.root.toNat
  else if o = 8 then d.ownBase.toNat
  else if o = 16 then d.ownLim.toNat
  else if 0x800 ≤ o ∧ o < 0x840 then d.l2.register ((o - 0x800) / 8)
  else if 0xA00 ≤ o ∧ o < 0xA38 then
    let b := d.budgets.getD ((o - 0xA00) / 8) ⟨0, 0, 0⟩
    b.stall % 2 ^ 16 * 2 ^ 48 + b.used % 2 ^ 16 * 2 ^ 32 + b.budget % 2 ^ 14
  else if o = 0xC00 then d.deleg.toNat
  else if o = 0xC08 then d.mvec.toNat
  else if o = 0xD00 then d.el.base.toNat
  else if o = 0xD08 then d.el.size.toNat
  else if o = 0xD10 then d.el.head.toNat
  else if o = 0xD18 then d.el.drop
  else if o = 0xD20 then d.el.corr.toNat
  else if o = 0x1008 then (if d.migDrop then 2 ^ 8 else 0) + d.migs.length
  else if o = 0x1010 then d.migDone.toNat
  else if 0x1400 ≤ o ∧ o < 0x1440 then d.tr.register ((o - 0x1400) / 8)
  else 0

/-- A register of a quadrant window (20 R472). -/
def State.quadRead (s : State) (q o : Nat) : Nat :=
  let g := s.gov q
  if o = 0x900 then g.lim
  else if o = 0x908 then g.est % 2 ^ 16
  else if 0x910 ≤ o ∧ o < 0x930 then g.cls.getD ((o - 0x910) / 8) 0
  else if o = 0x930 then g.wait % 2 ^ 64
  else if 0xB00 ≤ o ∧ o < 0xC00 then (tabGet s.mxWeights (q * 32 + (o - 0xB00) / 8) 0x0101010101010101).toNat
  else 0

/-- The window of a device register, and its offset (20 R472). -/
def regWindow (pa : Nat) : Nat := pa % 2 ^ 40 / 65536
def regOffset (pa : Nat) : Nat := pa % 65536

/-- A device register read (20 R472). -/
def State.devRead (s : State) (pa : Nat) : DWord :=
  let w := regWindow pa
  BitVec.ofNat 64
    (if w = 0 then s.hubRead (regOffset pa)
     else if 20 < w then 0
     else if (w - 1) % 5 = 0 then s.uncoreRead ((w - 1) / 5) (regOffset pa)
     else s.quadRead ((w - 1) / 5 * 4 + ((w - 1) % 5 - 1)) (regOffset pa))

/-- A register of the hub window written. -/
def State.hubWrite (s : State) (o : Nat) (v : DWord) : State :=
  if o = 0xE00 then { s with hub := { s.hub with vdt := v &&& 0x0000FFFFFFFFFE00 } }
  else if o = 0xE08 then
    match s.hub.schCmd with
    | some _ => s
    | none => { s with hub := { s.hub with schCmd := some (v.toNat % 2 ^ 12) } }
  else if o = 0x1800 then { s with hub := { s.hub with hbBase := v &&& 0x0000FFFFFFFF0000, hbSet := true } }
  else if o = 0x1808 then s.biasCmd (v.toNat / 2 ^ 12 % 2 ^ 36) (v.toNat / 2 ^ 8 % 4)
  else if o = 0x1810 then (if v.getLsbD 8 then { s with hub := { s.hub with hbDrop := false } } else s)
  else if 0x2200 ≤ o ∧ o < 0x4000 then
    let n := (o - 0x2000) / 32
    let w := tabGet s.hub.windows n ⟨0, 0, 0, 0⟩
    match o % 32 with
    | 0 => { s with hub := { s.hub with windows := tabSet s.hub.windows n { w with map := v &&& 0xE0001F000FFF0000 } } }
    | 8 => { s with hub := { s.hub with windows := tabSet s.hub.windows n { w with base := v &&& 0xFFFFFF0000000000 } } }
    | _ => s
  else if o = 0x6000 then
    match s.hub.ksCmd with
    | some _ => s
    | none => if 2 ≤ v.toNat / 2 ^ 8 % 4 then s else { s with hub := { s.hub with ksCmd := some (v.toNat % 2 ^ 10) } }
  else s

/-- A register of a trace unit written (19 R456). -/
def State.traceWriteReg (s : State) (die i : Nat) (v : DWord) : State :=
  match i with
  | 0 => s.traceControl die v
  | 1 => s.onTrace die (fun t => { t with list := v &&& 0xFFFFFFFFFFFFFFF8 })
  | 2 => s.onTrace die (fun t => { t with npg := v.toNat % 2 ^ 9 })
  | 3 => s.onTrace die (fun t => { t with lo := v &&& 0x0000FFFFFFFFFFC0 })
  | 4 => s.onTrace die (fun t => { t with hi := v &&& 0x0000FFFFFFFFFFC0 })
  | _ => s

/-- A register of a die's uncore window written. -/
def State.uncoreWrite (s : State) (die o : Nat) (v : DWord) : State :=
  let d := s.die die
  if o = 0 then s.putDie die { d with root := v &&& 0x0000FFFFFFFFF000 }
  else if o = 8 then s.putDie die { d with ownBase := v &&& 0x0000FFFFFFFFFFF0 }
  else if o = 16 then
    let n := v.toNat % 2 ^ 21
    s.putDie die { d with ownLim := if 1 ≤ n ∧ n ≤ 2 ^ 20 then BitVec.ofNat 64 n else 1 }
  else if o = 0x838 then (if v.getLsbD 0 then s.clearL2 die else s)
  else if 0xA00 ≤ o ∧ o < 0xA38 then
    let i := (o - 0xA00) / 8
    let b := d.budgets.getD i ⟨0, 0, 0⟩
    s.putDie die { d with budgets := d.budgets.set i { b with budget := v.toNat % 2 ^ 14 } }
  else if o = 0xC00 then s.putDie die { d with deleg := v &&& 0xFFFF }
  else if o = 0xC08 then s.putDie die { d with mvec := v &&& 0x3FFFC }
  else if o = 0xD00 then s.putDie die { d with el := { d.el with base := v &&& 0x0000FFFFFFFFFFC0 } }
  else if o = 0xD08 then s.putDie die { d with el := { d.el with size := v &&& 0x1F } }
  else if o = 0x1000 then
    if 2 ≤ v.toNat % 4 then s else s.putDie die { d with migCmds := d.migCmds ++ [(v &&& 0x0000FFFFFFFFFFC3).toNat] }
  else if o = 0x1008 then (if v.getLsbD 8 then s.putDie die { d with migDrop := false } else s)
  else if 0x1400 ≤ o ∧ o < 0x1440 then s.traceWriteReg die ((o - 0x1400) / 8) v
  else s

/-- A register of a quadrant window written. -/
def State.quadWrite (s : State) (q o : Nat) (v : DWord) : State :=
  let g := s.gov q
  if o = 0x900 then s.putGov q { g with lim := v.toNat % 2 ^ 16 }
  else if 0x910 ≤ o ∧ o < 0x930 then s.putGov q { g with cls := g.cls.set ((o - 0x910) / 8) (v.toNat % 2 ^ 16) }
  else if 0xB00 ≤ o ∧ o < 0xC00 then s.writeWeights q ((o - 0xB00) / 8) v
  else s

/-- A device register written (20 R472). -/
def State.devWrite (s : State) (pa : Nat) (v : DWord) : State :=
  let w := regWindow pa
  if w = 0 then s.hubWrite (regOffset pa) v
  else if 20 < w then s
  else if (w - 1) % 5 = 0 then s.uncoreWrite ((w - 1) / 5) (regOffset pa) v
  else s.quadWrite ((w - 1) / 5 * 4 + ((w - 1) % 5 - 1)) (regOffset pa) v

/-- The command of sch.cmd in progress is one of OP op for a device, in a slot where that counts (17 R413). -/
def State.schHas (s : State) (op vd : Nat) (slot : Option Nat) : Bool :=
  match s.hub.schCmd with
  | none => false
  | some c =>
    c / 2 ^ 10 == op && c % 64 == vd && (match slot with
                                         | some k => c / 2 ^ 8 % 4 == k
                                         | none => true)

/-- The command of sch.cmd performed; one that must wait stays in progress. -/
def State.schRun (s : State) : State :=
  match s.hub.schCmd with
  | none => s
  | some c => s.performed (({ s with hub := { s.hub with schCmd := none } } : State).schedCommand (c / 2 ^ 10) (c / 2 ^ 8 % 4) (c % 64))

/-- The command of ks.cmd performed (20 R471). -/
def State.keyRun (s : State) : State :=
  match s.hub.ksCmd with
  | none => s
  | some c => ({ s with hub := { s.hub with ksCmd := none } } : State).keyCmd (c / 2 ^ 8) (c % 2 ^ 8)

/-- The oldest command of a die's mig.cmd is this one. -/
def State.migHas (s : State) (die op desc : Nat) : Bool := (s.die die).migCmds.head? == some (desc + op)

/-- The oldest command of a die's mig.cmd performed (18 R441), when its descriptor delivers data (log 95). -/
def State.migRun (s : State) (die : Nat) : State :=
  match (s.die die).migCmds with
  | [] => s
  | c :: rest =>
    let s1 := s.putDie die { s.die die with migCmds := rest }
    let desc := c / 64 * 64
    if s.backed desc 64 && !s.sound (desc / 64) then s
    else if c % 4 = 0 then s1.migStart die desc else s1.migRelease die desc

/-- A timed-out access of type F or H, the oldest of its core (16 R388, 18 R450): the operation performed at the target or
not; then the cause, for a posted store that its page's move sent there too (18 R442; log 75). -/
def State.fabricAbort (s : State) (site : Nat) (performed : Bool) : State :=
  let c := s.core site
  match c.out with
  | [] => s
  | o :: _ =>
    let s1 := s.putCore site (c.outDone o.eng)
    let posts := o.eng == 6 && !c.posted.isEmpty
    let waits := if o.eng = 5 then c.wait == .stall else if o.eng = 6 then posts else (c.eng o.eng).running.isSome
    if !waits then s1
    else if posts && !(s1.core site).takesPosted && !c.settling then s
    else
      let host := decide (o.pa < 2 ^ 44)
      let old := if host then memRead s1.hostMem o.pa o.n else memRead s1.extMem (s1.target o.pa) o.n
      let s2 : State :=
        match performed, o.op.result o.n old with
        | true, some v =>
          if host then { s1 with hostMem := memWrite s1.hostMem o.pa o.n v }
          else { s1 with extMem := memWrite s1.extMem (s1.target o.pa) o.n v }
        | _, _ => s1
      let cause := if host then cHOST_ABORT else cREMOTE_ABORT
      let s3 := if host then s2 else s2.countWindow o.pa true
      let va := BitVec.ofNat 64 o.va
      if o.eng = 5 then s3.trapAt site (s3.core site) ⟨cause, va⟩
      else if posts then s3.postedFails site o.va cause
      else
        let x := (c.eng o.eng).running
        s3.engFail site o.eng cause va
          (match x with
           | some y => nestIndex (nestCounts (wordsNum y.blk)) y.k
           | none => [0, 0, 0, 0, 0]) false

end Sys2Proof.Machine
end

