-- ==== Sys2Proof/Machine/Boot.lean ====
section
/-! DEFINITION. The start of the module and the loss of its power (20 R464 to R468, R470), ports and links (18 R437, R447), power
gates of the dies (19 R461).  Steps 1 to 4 and 6 of a start have no state of their own here; discovery and the multicast
go hop by hop (log 33). -/

namespace Sys2Proof.Machine

/-- The module with everything at its reset value but the fuses, what lies outside, and the agenda; the start's own state
given. -/
def State.wiped (s : State) (b : Boot) : State :=
  { State.reset with
    free := s.free, cur := s.cur, agenda := s.agenda, fused := b.fuses, stackGib := s.stackGib, errInj := s.errInj
    hostMem := s.hostMem, hostAns := s.hostAns, extMem := s.extMem, extAns := s.extAns, boot := b }

/-- The first site of a die that is not fused, in row-major order (20 R465). -/
def firstSite (fuses : List Nat) (die : Nat) : Option Nat :=
  ((List.range 1024).map (fun i => die * 1024 + i)).find? (fun t => !fuses.contains t)

/-- The neighbours of a site in the mesh of its die. -/
def neighbours (site : Nat) : List Nat :=
  (if siteX site = 0 then [] else [site - 1]) ++ (if siteX site = 31 then [] else [site + 1])
    ++ (if siteY site = 0 then [] else [site - 32]) ++ (if siteY site = 31 then [] else [site + 32])

/-- An image verifies (20 R468): by the digest of its public key, its signature and its rollback number. -/
def Boot.verifies (b : Boot) (x : SignedImage) : Bool := x.key == b.keyDigest && x.signed && decide (b.rollback ≤ x.roll)

/-- A start begins, cold or warm: boot.stat shows the count that the flash holds now (20 R477). -/
def State.beginStart (s : State) (warm : Bool) : State :=
  { s with boot := { s.boot with fails := s.boot.flashFails, warm := warm, recov := false } }

/-- A failed start (20 R467): the count rises, and at 3 the recovery image boots, when it verifies; its report names the step, the cause
and the die. -/
def State.failStart (s : State) (last step die : Nat) (why : StartFault) : State :=
  let n := min (s.boot.flashFails + 1) 255
  s.wiped
    { s.boot with
      going := false, step := last, flashFails := n, recov := decide (3 ≤ n) && s.boot.verifies s.boot.recovery
      failStep := step, failDie := die, failCause := why }

/-- Steps 1 to 4 of a cold start done, its firmware image verified, and discovery begun: the starting core of each die learns its
coordinates (20 R464, R465, R468).  After three failed starts the recovery image boots instead, when it verifies. -/
def State.coldStart (s : State) : State :=
  let b := s.boot
  if 3 ≤ b.flashFails ∧ !b.recov then
    s.wiped { b with going := false, step := 0, recov := b.verifies b.recovery, warm := false, fails := b.flashFails }
  else if !b.verifies b.firmware then (s.beginStart false).failStart 3 4 0 .image
  else
    s.wiped
      { b with
        step := 4, fails := b.flashFails, warm := false, recov := false, going := true, imaged := []
        found := (List.range 4).foldl (fun t die =>
          match firstSite b.fuses die with
          | some f => tabSet t f (siteX f, siteY f, f)
          | none => t) [] }

/-- A site that the flood of its die has reached. -/
def State.isFound (s : State) (site : Nat) : Bool := (tabGet? s.boot.found site).isSome

/-- Every site that is not fused is found. -/
def State.allFound (s : State) : Bool :=
  (List.range 4096).all (fun t => s.boot.fuses.contains t || s.isFound t)

/-- The end of step 5, and step 6 (20 R465, R470): sites not reached are absent; every sector is scrubbed. -/
def State.endDiscovery (s : State) : State :=
  let absent := (List.range 4096).filter (fun t => !s.isFound t)
  match (List.range 4).find? (fun d => decide (24 < (absent.filter (fun t => t / 1024 == d)).length)) with
  | some d => s.failStart 4 5 d .cores
  | none => { s with fused := absent, boot := { s.boot with step := 6, map := some absent } }

/-- A discovery packet from a found site to a neighbour (20 R465). -/
def State.discover (s : State) (src dst : Nat) : State :=
  match tabGet? s.boot.found src with
  | none => s
  | some (x, y, _) =>
    if !(neighbours src).contains dst || s.boot.fuses.contains dst || s.isFound dst then s
    else
      let at_ := if dst = src + 1 then (x + 1, y) else if dst + 1 = src then (x - 1, y) else if dst = src + 32 then (x, y + 1) else (x, y - 1)
      let s1 := { s with boot := { s.boot with found := tabSet s.boot.found dst (at_.1, at_.2, src) } }
      if s1.allFound then s1.endDiscovery else s1

/-- The site from which a site takes the boot image (20 R466); a kept map without a tree has that of a die with no fused
site (log 33). -/
def State.parent (s : State) (site : Nat) : Nat :=
  match tabGet? s.boot.found site with
  | some (_, _, p) => p
  | none => if siteX site ≠ 0 then site - 1 else if siteY site ≠ 0 then site - 32 else site

/-- A core after its boot image is written with fresh check bits (20 R464, R466); its counters are reset only by a cold start
(19 R463). -/
def State.imagedCore (s : State) (site : Nat) : Core :=
  { Core.reset (BitVec.ofNat 64 (siteSlot site * 256)) with
    loc := memCopy s.boot.image 0 [] 0 16384
    cnt := (s.core site).cnt }

/-- One hop of the multicast of the boot image (20 R466): its digest is confirmed or the start fails.  The last hop
completes the start (R464, R467). -/
def State.imageHop (s : State) (site : Nat) (ok : Bool) : State :=
  if !s.present site || s.boot.imaged.contains site || !(s.parent site == site || s.boot.imaged.contains (s.parent site)) then s
  else if !ok then s.failStart 6 7 (siteDie site) .digest
  else
    let s1 := s.putCore site (s.imagedCore site)
    let done := site :: s1.boot.imaged
    if done.length + s1.fused.length = 4096 then
      { s1 with boot := { s1.boot with step := 7, going := false, flashFails := 0, imaged := [] } }
    else { s1 with boot := { s1.boot with imaged := done } }

/-- A step of a start that fails or times out (20 R464, R465): the start fails, but in step 5 sites not reached count as absent.  A
warm start can fail before its first core has the image in every step that it runs. -/
def State.stepTimeout (s : State) (step die : Nat) : State :=
  if s.boot.going then
    if step = 5 ∧ s.boot.step = 4 then s.endDiscovery
    else if s.boot.step = 6 ∧ s.boot.imaged = [] ∧ (step = 6 ∨ (s.boot.warm ∧ 1 ≤ step ∧ step ≤ 4)) then s.failStart (step - 1) step die .step
    else if step = 7 ∧ s.boot.step = 6 then s.failStart 6 7 die .step
    else s
  else if !s.started ∧ 1 ≤ step ∧ step ≤ 4 then (s.beginStart false).failStart (step - 1) step die .step
  else s

/-- The scrub pass of an earlier warm start has completed (20 R470). -/
def State.scrubDone (s : State) : Bool := s.sectors.all (fun p => p.2.epoch == s.pe)

/-- A sector's metadata kept through a warm start, its tokens at its home (20 R467, R470). -/
def Sector.kept (x : Sector) (home : Nat) : Sector :=
  { Sector.reset home with slot := x.slot, epoch := x.epoch, poison := x.poison }

/-- A warm start (20 R467, R470), its firmware image verified: the map of the last discovery, the HBM contents and training are kept,
the epoch is inverted; with its kept state bad or lost it is a cold start. -/
def State.warmStart (s : State) (ok : Bool) : State :=
  match if ok then s.boot.map else none with
  | none => s.coldStart
  | some absent =>
    let b := s.boot
    if !b.verifies b.firmware then (s.beginStart true).failStart 3 4 0 .image
    else
    { s.wiped { b with step := 6, fails := b.flashFails, warm := true, recov := false, going := true, imaged := [] } with
      fused := absent
      time := s.time
      cyc := s.cyc
      ports := s.ports
      mem := s.mem
      sectors := s.sectors.map (fun p => (p.1, p.2.kept (agentHome (homeDie (64 * p.1)))))
      pe := !s.pe
      hbmErr := s.hbmErr
      cores := s.cores.map (fun p => (p.1, { Core.reset (BitVec.ofNat 64 (siteSlot p.1 * 256)) with cnt := p.2.cnt })) }

/-- Package power is lost (20 R467): only the flash keeps its contents. -/
def State.powerLoss (s : State) : State :=
  let b := s.boot
  s.wiped
    { b with
      step := 0, fails := 0, warm := false, recov := false, going := false, found := [], imaged := [], map := none
      failStep := 0, failDie := 0, failCause := .none }

/-- What a recovery boot answers over the CXL mailbox (20 R467, R477): the failed step, the cause, the die and the start status. -/
def Boot.mailbox (b : Boot) : Option (Nat × StartFault × Nat × Nat) :=
  if b.recov then some (b.failStep, b.failCause, b.failDie, b.word) else none

/-- An attestation report signed, its index advanced first, or refused (20 R468). -/
def State.sign (s : State) (advanced : Bool) : State :=
  if advanced && decide (s.boot.sigIndex < 2 ^ 20) then { s with boot := { s.boot with sigIndex := s.boot.sigIndex + 1 } } else s

/-- A port trains, or is held down as a third host-facing one (18 R447). -/
def State.trainLink (s : State) (port rate : Nat) (flit256 host : Bool) : State :=
  let hosts := (s.ports.filter (fun p => p.1 != port && p.2.host && !p.2.down)).length
  let p : Port := if host && decide (2 ≤ hosts) then ⟨0, false, true, true⟩ else ⟨rate, flit256, host, false⟩
  { s with ports := tabSet s.ports port p }

/-- A die is gated: its copy of the time counter stops (19 R461). -/
def State.gateDie (s : State) (die : Nat) : State := s.putDie die { s.die die with gated := some s.time }

end Sys2Proof.Machine
end

