-- ==== Sys2Proof/Machine/BootOps.lean ====
section
/-! DEFINITION. The meanings of the events of tracing, of device registers and of the start of the module (19, 20). -/

namespace Sys2Proof.Machine

/-- R456: Setting EN clears trace positions and writes a TIME record. -/
def execTraceEnable (die : Nat) (s : State) : Out :=
  s.event (decide (die < 4)) (fun t =>
    t.traceControl die ((t.die die).tr.ctl ||| 1))

/-- R459: Every 10 µs a stopped unit retries its pages. -/
def execTraceRetry (die : Nat) (s : State) : Out :=
  s.event (decide (die < 4)) (fun t =>
    (t.traceResume die).traceDrain die 130)

/-- R461: A compute die is power-gated, its copy of the package time counter stops and its trace unit records nothing. -/
def execDiePowerGate (die : Nat) (s : State) : Out :=
  s.event (s.started && decide (die < 4) && (s.die die).gated.isNone) (fun t =>
    t.gateDie die)

/-- R461: A power-gated die wakes and resyncs its time counter. -/
def execDieWake (die : Nat) (s : State) : Out :=
  s.event (decide (die < 4) && (s.die die).gated.isSome) (fun t =>
    t.wakeDie die)

/-- R464: Power-on runs the seven start steps. -/
def execColdStart (s : State) : Out :=
  s.event (!s.started && !s.boot.going) (fun t =>
    t.coldStart)

/-- R464: A start step times out and the start fails. -/
def execStartStepTimeout (step die : Nat) (s : State) : Out :=
  s.event (decide (die < 4)) (fun t =>
    t.stepTimeout step die)

/-- R465: A core takes coordinates from its first discovery packet. -/
def execDiscoveryPacket (src dst : Nat) (s : State) : Out :=
  s.event (s.boot.going && s.boot.step == 4 && decide (src < 4096)) (fun t =>
    t.discover src dst)

/-- R466: A core writes and forwards the boot image and checks its digest. -/
def execBootImageHop (site : Nat) (ok : Bool) (s : State) : Out :=
  s.event (s.boot.going && s.boot.step == 6) (fun t =>
    t.imageHop site ok)

/-- R467: The management controller requests a warm start. -/
def execWarmStart (stateOk : Bool) (s : State) : Out :=
  s.event ((s.started || s.boot.recov) && !s.boot.going && s.scrubDone) (fun t =>
    t.warmStart stateOk)

/-- R468: The hub signs an attestation report after advancing its index. -/
def execAttestationSign (advanced : Bool) (s : State) : Out :=
  s.event (s.started) (fun t =>
    t.sign advanced)

/-- R467: Package power is lost, and all module state is gone except the external flash, including its failed-start count. -/
def execPowerLoss (s : State) : Out :=
  s.event (true) (fun t =>
    t.powerLoss)

/-- R471: ks.cmd draws a key for a free slot. -/
def execKeySlotAssign (slot : Nat) (s : State) : Out :=
  s.event (s.hub.ksCmd == some slot && decide (slot < 256)) (fun t =>
    t.keyRun)

/-- R471: ks.cmd drops a key and begins its scrub. -/
def execKeySlotDiscard (slot : Nat) (s : State) : Out :=
  s.event (s.hub.ksCmd == some (256 + slot) && decide (slot < 256)) (fun t =>
    t.keyRun)

/-- R472: A write to a device register without behaviour of its own. -/
def execRegisterWrite (pa : Nat) (value : BitVec 64) (s : State) : Out :=
  s.event (decide (pa / 2 ^ 40 = 1) && decide (pa % 8 = 0)) (fun t =>
    t.devWrite pa value)

end Sys2Proof.Machine
end

