-- ==== Sys2Proof/Machine/ChanOps.lean ====
section
/-! DEFINITION. The meanings of CHAN and SIGNAL, and of a deadlock probe (08 R207 to R216). -/

namespace Sys2Proof.Machine

/-- R208: Initialises a channel object. -/
def execChinit (a b c : GOp) (k : BitVec 4) (s : State) : Out :=
  s.shared { uses := [rd .A a, rd .B b, rd .C c] } (Core.advance 12) (fun t =>
    let x := t.core s.cur
    t.bodyChinit s.cur (x.rg .A a) (x.rg .B b) (x.rg .C c) k.toNat)

/-- R209: Sends a 64-byte message, blocking when full. -/
def execChsend (d a b : GOp) (s : State) : Out :=
  let quiet := (s.core s.cur).shadows.isEmpty
  s.shared { uses := [rd .A a, rd .B b, wr .D d] } (Core.advance 12) (fun t =>
    let k := t.core s.cur
    t.bodyChsend s.cur d (k.rg .A a) (k.rg .B b) quiet)

/-- R210: Receives a message, blocking when empty. -/
def execChrecv (d a b : GOp) (s : State) : Out :=
  let quiet := (s.core s.cur).shadows.isEmpty
  s.shared { uses := [rd .A a, rd .B b, wr .D d] } (Core.advance 12) (fun t =>
    let k := t.core s.cur
    t.bodyChrecv s.cur d (k.rg .A a) (k.rg .B b) quiet)

/-- R216: Waits until a signal counter is at or below zero. -/
def execSigwait (d a : GOp) (s : State) : Out :=
  let quiet := (s.core s.cur).shadows.isEmpty
  s.shared { uses := [rd .A a, wr .D d] } (Core.advance 12) (fun t =>
    let k := t.core s.cur
    t.bodySigwait s.cur d (k.rg .A a) quiet)

/-- R210: Reads the message count and peer liveness. -/
def execChpoll (d a : GOp) (s : State) : Out :=
  s.shared { uses := [rd .A a, wr .D d] } (Core.advance 12) (fun t =>
    t.bodyChpoll s.cur d ((t.core s.cur).rg .A a))

/-- R215: Atomically decrements a signal, firing at zero. -/
def execSigdec (d a b : GOp) (s : State) : Out :=
  s.shared { uses := [rd .A a, rd .B b, wr .D d] } (Core.advance 12) (fun t =>
    let k := t.core s.cur
    t.bodySigdec s.cur d (k.rg .A a) (k.rg .B b))

/-- R213: A probe is forwarded, discarded or marks a cycle. -/
def execDeadlockProbe (idx : Nat) (s : State) : Out :=
  s.event (true) (fun t =>
    t.moveProbe idx)

end Sys2Proof.Machine
end

