-- ==== Sys2Proof/Machine/CoherenceOps.lean ====
section
/-! DEFINITION. The meanings of the events of token coherence and the level-two cache (12 R284 to R310). -/

namespace Sys2Proof.Machine

/-- R288: A holder answers, ignores or drops a transient request. -/
def execTransientRequest (req holder : Nat) (s : State) : Out :=
  s.event (true) (fun t =>
    t.transient req holder)

/-- R289: 512 cycles pass unsatisfied and the request reissues or turns persistent. -/
def execTransientRequestFail (req : Nat) (s : State) : Out :=
  s.event (true) (fun t =>
    t.failRequest req)

/-- R291: The home enters a persistent request in its table. -/
def execPersistentRequest (req : Nat) (s : State) : Out :=
  s.event (true) (fun t =>
    t.persist req)

/-- R292: An agent receives an activation and forwards tokens. -/
def execPersistentActivation (sector agent : Nat) (s : State) : Out :=
  s.event (true) (fun t =>
    t.activate sector agent)

/-- R292: The home deactivates a request and activates the next. -/
def execPersistentDeactivation (sector : Nat) (s : State) : Out :=
  s.event (true) (fun t =>
    t.deactivate sector)

/-- R290: An agent receives tokens, with or without a request. -/
def execTokenReceipt (msg : Nat) (s : State) : Out :=
  s.event (true) (fun t =>
    t.receive msg)

/-- R287: The home updates its holder hint. -/
def execHintUpdate (idx : Nat) (s : State) : Out :=
  s.event (true) (fun t =>
    t.hint idx)

/-- R298: Two idle halves merge after 16,384 cycles. -/
def execRegionMerge (cluster base size : Nat) (s : State) : Out :=
  s.event (decide (cluster < 512)) (fun t =>
    t.mergeRegion cluster base size)

/-- R301: A line arrives from HBM into the level-two cache. -/
def execHbmFill (line : Nat) (s : State) : Out :=
  s.event (s.backed (128 * line) 128) (fun t =>
    t.hbmFill line)

/-- R308: An uncorrectable token or owner fault resets a sector. -/
def execSectorReset (sector : Nat) (s : State) : Out :=
  s.event (s.backed (64 * sector) 64 && !(s.sector sector).resetting) (fun t =>
    t.startReset sector 7)

/-- R308: The last acknowledgement ends the reset and poisons the sector. -/
def execSectorResetEnd (sector : Nat) (s : State) : Out :=
  s.event ((s.sector sector).resetting) (fun t =>
    t.endReset sector)

/-- R307: Writing CLR clears the hash and recount counters. -/
def execL2StatClear (die : Nat) (s : State) : Out :=
  s.event (decide (die < 4)) (fun t =>
    t.clearL2 die)

end Sys2Proof.Machine
end

