-- ==== Sys2Proof/Machine/ControlOps.lean ====
section
/-! DEFINITION. The meanings of the control and system instructions: branches and jumps (05 R125, R126), the SYS major
(05 R139 to R141, 02 R57), rep (06 R147), rds and wrs (05 R130). -/

namespace Sys2Proof.Machine

/-- A compare-branch (05 R125): the operands are read and the target fixed when it issues (02 R53). -/
def bodyBranch (k : Nat) (a1 a2 : Reg) (off : BitVec 12) (c : Core) : CoreRes :=
  let taken := branchCond k (c.rg .A (fix a1)) (c.rg .B (fix a2))
  .done (c.branchTo 4 (if taken then .taken (c.pc + (off.signExtend 18 <<< 2)) else .fallThrough))

/-- A compare-branch of the current core. -/
def condBranch (k : Nat) (a1 a2 : Reg) (off : BitVec 12) (s : State) : Out :=
  s.local_ { ctl := true, uses := [rd .A (fix a1), rd .B (fix a2)] } id (bodyBranch k a1 a2 off)

/-- The address after the delay slot of a jump, which jal and jlr write to g1 (01 R17, 05 R126). -/
def linkReg (c : Core) : Core := c.wg .D (fix 1) ((addPc c.pc 8).setWidth 64) 1

/-- j and jal (05 R126). -/
def bodyJump (off : BitVec 24) (link : Bool) (c : Core) : CoreRes :=
  let c' := if link then linkReg c else c
  .done (c'.branchTo 4 (.taken (c.pc + (off.setWidth 18 <<< 2))))

/-- jr and jlr: the target is the value read before the link is written (05 R126). -/
def bodyJumpReg (a : Reg) (link : Bool) (c : Core) : CoreRes :=
  let t : BitVec 18 := (c.rg .A (fix a)).setWidth 18
  let c' := if link then linkReg c else c
  .done (c'.branchTo 4 (.taken t))

/-- Performance counter n (19 R463): 0 is s.cyc, 1 to 15 are held, others return 0. -/
def Core.counter (c : Core) (cyc n : Nat) : Nat := if n = 0 then cyc else if n ≤ 15 then tabGet c.cnt n 0 else 0

/-- R125: Branches after the delay slot when equal. -/
def execBeq (a1 a2 : Reg) (off : BitVec 12) (s : State) : Out := condBranch 0 a1 a2 off s

/-- R125: Branches when not equal. -/
def execBne (a1 a2 : Reg) (off : BitVec 12) (s : State) : Out := condBranch 1 a1 a2 off s

/-- R125: Branches when signed less. -/
def execBlt (a1 a2 : Reg) (off : BitVec 12) (s : State) : Out := condBranch 2 a1 a2 off s

/-- R125: Branches when signed greater or equal. -/
def execBge (a1 a2 : Reg) (off : BitVec 12) (s : State) : Out := condBranch 3 a1 a2 off s

/-- R125: Branches when unsigned less. -/
def execBltn (a1 a2 : Reg) (off : BitVec 12) (s : State) : Out := condBranch 4 a1 a2 off s

/-- R125: Branches when unsigned greater or equal. -/
def execBgen (a1 a2 : Reg) (off : BitVec 12) (s : State) : Out := condBranch 5 a1 a2 off s

/-- R126: Jumps by a 24-bit word offset. -/
def execJ (off : BitVec 24) (s : State) : Out := s.local_ { ctl := true, uses := [] } id (bodyJump off false)

/-- R126: Jumps and writes the link to g1. -/
def execJal (off : BitVec 24) (s : State) : Out := s.local_ { ctl := true, uses := [] } id (bodyJump off true)

/-- R126: Jumps to a register target. -/
def execJr (a : Reg) (s : State) : Out := s.local_ { ctl := true, uses := [rd .A (fix a)] } id (bodyJumpReg a false)

/-- R126: Jumps to a register target and links. -/
def execJlr (a : Reg) (s : State) : Out := s.local_ { ctl := true, uses := [rd .A (fix a)] } id (bodyJumpReg a true)

/-- R139: Raises software cause 0x1E0 + code. -/
def execTrap (code : BitVec 5) (s : State) : Out := s.local_ { uses := [] } id (fun c => .trap c (0x1E0 + code.toNat) 0)

/-- R139: Raises SYSCALL with the code in s.eval. -/
def execSys (code : BitVec 6) (s : State) : Out := s.local_ { uses := [] } id (fun c => .trap c cSYSCALL (code.setWidth 64))

/-- R139: Raises BREAKPOINT with the code. -/
def execBrk (code : BitVec 6) (s : State) : Out := s.local_ { uses := [] } id (fun c => .trap c cBREAKPOINT (code.setWidth 64))

/-- R57: Returns from a trap, restoring mode, workspace and shadows. -/
def execEret (s : State) : Out := s.local_ { ctl := true, mode := 1, uses := [] } id bodyEret

/-- R141: Reads the package time counter. -/
def execRdtime (d : Reg) (s : State) : Out := s.local_ { uses := [wr .D (fix d)] } (Core.advance 4)
    (bodyWrite (fix d) 1 (fun _ => BitVec.ofNat 64 s.time))

/-- R141: Reads performance counter n. -/
def execRdcnt (d : Reg) (code : BitVec 6) (s : State) : Out := s.local_ { uses := [wr .D (fix d)] } (Core.advance 4)
    (bodyWrite (fix d) 1 (fun c => BitVec.ofNat 64 (c.counter (s.cycOf s.cur) code.toNat)))

/-- R150: Captures a body and replays it n times with stepped fields. -/
def execRep (cr : Bool) (a : GOp) (nc : BitVec 12) (len : BitVec 4) (sd sa sb sc : BitVec 3) (s : State) : Out := s.local_ { ctl := true, uses := if cr then [rd .A a] else [] } id (bodyRep cr a nc len sd sa sb sc)

/-- R130: Reads a special register into gD. -/
def execRds (d : Reg) (num : BitVec 12) (s : State) : Out := s.local_ { mode := readMode num, uses := [wr .D (fix d)] } (Core.advance 4)
    (bodyRds (s.ident s.cur) (fix d) num)

/-- R130: Writes a special register from gA. -/
def execWrs (a : Reg) (num : BitVec 12) (s : State) : Out := s.local_ { mode := writeMode num, uses := [rd .A (fix a)] } (Core.advance 4) (bodyWrs (fix a) num)

end Sys2Proof.Machine
end

