-- ==== Sys2Proof/Machine/EngineOps.lean ====
section
/-! DEFINITION. The meanings of COPY, CONV and EVX and of the events of the engines, the governors and the activity budgets
(14 R332 to R362). -/

namespace Sys2Proof.Machine

/-- A copy instruction of the current core. -/
def copyCommand (sub : Nat) (d a b c : GOp) (term : BitVec 4) (he rs : Bool) (ch : BitVec 1) (s : State) : Out :=
  s.shared { uses := [rd .A a, rd .B b, rd .C c, rd .D d] } (Core.advance 12) (fun t =>
    let k := t.core s.cur
    t.issueCopy s.cur sub ch.toNat term.toNat he rs (k.rg .D d) (k.rg .A a) (k.rg .B b) (k.rg .C c))

/-- A converter instruction of the current core; a dynamic rounding mode is read at issue (04 R96). -/
def convCommand (sub : Nat) (t1 t2 : BitVec 4) (rm : BitVec 3) (sat : Bool) (d a b : GOp) (term : BitVec 4) (he rs : Bool)
    (s : State) : Out :=
  s.shared { rm := rm, uses := [rd .A a, rd .B b, rd .D d] } (Core.advance 12) (fun t =>
    let k := t.core s.cur
    t.issueConv s.cur sub t1.toNat t2.toNat (k.rmode rm).toNat sat term.toNat he rs (k.rg .D d) (k.rg .A a) (k.rg .B b))

/-- The aligned 64 KiB regions that the elements of a copy cover whole on a side (12 R296). -/
def copyWholes (x : Cmd) (a : DWord) (st : List Int) : List Nat :=
  let b := wordsNum x.blk
  let e := nestElem b
  if e * nestTotal b < 65536 then []
  else
    let vas := (List.range (nestTotal b)).map (fun k => (((a.toNat : Int) + nestOffset (nestIndex (nestCounts b) k) st) % 2 ^ 64).toNat)
    ((vas.map (fun va => va / 65536)).eraseDups.filter (fun r => (List.range (65536 / e)).all (fun i => vas.contains (65536 * r + e * i)))).map
      (fun r => 65536 * r)

/-- A held copy or converter command takes its steps toward running (14 R332); a copy that starts to run asks for the regions that it
covers (12 R296). -/
def State.startEngine (s : State) (site e : Nat) : State :=
  let s1 := s.startCmd site e (fun x => decide (e < 2) && copyNeedsLeave x)
  match ((s.core site).eng e).running, ((s1.core site).eng e).running with
  | none, some x =>
    if x.conv then s1
    else
      let asks (s : State) (glob write : Bool) (a : DWord) (st : List Int) : State :=
        if glob then s.askRegions site e write (copyWholes x a st) else s
      asks (asks s1 (copySrcGlobal x.sub) false x.src (nestSrc (wordsNum x.blk))) (copyDstGlobal x.sub) true x.dst
        (nestDst (wordsNum x.blk))
  | _, _ => s1

/-- evwait (14 R360). -/
def State.bodyEvwait (s : State) (site t : Nat) : SRes :=
  if (s.core site).creditOf t = 0 then .wait s (.evwait t) else .done (s.onCore site (fun c => c.takeCredit t))

/-- The governor of a quadrant grants its first request, if its draw fits (14 R361). -/
def State.grantLeave (s : State) (q : Nat) : State :=
  let g := s.gov q
  match g.fifo with
  | [] => s
  | r :: t =>
    let draw := g.cls.getD r.cls 0
    if g.est + draw ≤ g.lim ∨ (g.lim < draw ∧ g.est = 0) then
      (s.putGov q { g with est := g.est + draw, fifo := t, out := g.out ++ [(r.site, r.eng, draw)] }).onCore r.site (fun c =>
        if r.eng = 3 then
          { c with mx := { c.mx with cmds := match c.mx.cmds with
                                             | [] => []
                                             | h :: u => { h with leave := true } :: u } }
        else c.setEng r.eng ((c.eng r.eng).onHead (fun x => { x with leave := true })))
    else s

/-- A new period of an activity budget (14 R362). -/
def Budget.renew (b : Budget) : Budget :=
  { b with used := 0, stall := if b.budget < 10000 ∧ b.budget ≤ b.used then min (b.stall + 1) 65535 else b.stall }

/-- R337: Enqueues a global-to-local copy. -/
def execCopyGl (d a b c : GOp) (term : BitVec 4) (he rs : Bool) (ch : BitVec 1) (s : State) : Out :=
  copyCommand 0 d a b c term he rs ch s

/-- R337: Enqueues a local-to-global copy. -/
def execCopyLg (d a b c : GOp) (term : BitVec 4) (he rs : Bool) (ch : BitVec 1) (s : State) : Out :=
  copyCommand 1 d a b c term he rs ch s

/-- R337: Enqueues a local-to-local copy. -/
def execCopyLl (d a b c : GOp) (term : BitVec 4) (he rs : Bool) (ch : BitVec 1) (s : State) : Out :=
  copyCommand 2 d a b c term he rs ch s

/-- R337: Enqueues a global-to-global copy. -/
def execCopyGg (d a b c : GOp) (term : BitVec 4) (he rs : Bool) (ch : BitVec 1) (s : State) : Out :=
  copyCommand 3 d a b c term he rs ch s

/-- R343: Stalls until selected engines complete or fault. -/
def execCpwait (sel : BitVec 2) (s : State) : Out :=
  s.shared { uses := [] } (Core.advance 12) (fun t => t.bodyCpwait s.cur sel.toNat)

/-- R344: Reads an engine state field. -/
def execCpstat (d : GOp) (sel : BitVec 5) (s : State) : Out :=
  s.local_ { uses := [wr .D d] } (Core.advance 12) (bodyCpstat d sel.toNat)

/-- R352: Enqueues an element conversion. -/
def execConvE (t1 t2 : BitVec 4) (rm : BitVec 3) (sat : Bool) (d a b : GOp) (term : BitVec 4) (he rs : Bool) (s : State) : Out :=
  convCommand 0 t1 t2 rm sat d a b term he rs s

/-- R353: Enqueues a block-scaled quantisation. -/
def execQuant (t1 t2 : BitVec 4) (rm : BitVec 3) (sat : Bool) (d a b : GOp) (term : BitVec 4) (he rs : Bool) (s : State) : Out :=
  convCommand 1 t1 t2 rm sat d a b term he rs s

/-- R354: Enqueues a dequantisation. -/
def execDequant (t1 t2 : BitVec 4) (rm : BitVec 3) (d a b : GOp) (term : BitVec 4) (he rs : Bool) (s : State) : Out :=
  convCommand 2 t1 t2 rm false d a b term he rs s

/-- R355: Enqueues a re-blocking along the other dimension. -/
def execRetile (t1 t2 : BitVec 4) (rm : BitVec 3) (sat : Bool) (d a b : GOp) (term : BitVec 4) (he rs : Bool) (s : State) : Out :=
  convCommand 3 t1 t2 rm sat d a b term he rs s

/-- R358: Configures an event counter, term or the timer. -/
def execEvcfg (a : GOp) (sel : BitVec 5) (s : State) : Out :=
  s.local_ { uses := [rd .A a] } (Core.advance 12) (bodyEvcfg a sel.toNat)

/-- R359: Arms an event term. -/
def execEvarm (t : BitVec 4) (s : State) : Out :=
  s.local_ { uses := [] } (Core.advance 12) (bodyEvarm t.toNat)

/-- R360: Stalls until a term has a credit, then takes it. -/
def execEvwait (t : BitVec 4) (s : State) : Out :=
  s.shared { uses := [] } (Core.advance 12) (fun u => u.bodyEvwait s.cur t.toNat)

/-- R360: Reads a count, credit or timer. -/
def execEvread (d : GOp) (sel : BitVec 5) (s : State) : Out :=
  s.local_ { uses := [wr .D d] } (Core.advance 12) (bodyEvread d sel.toNat)

/-- R343: cpwait's engines complete or fault. -/
def execCpwaitComplete (site : Nat) (s : State) : Out :=
  match (s.core site).waiting with
  | .cpwait sel => s.settle site (Core.advance 12) (fun t => t.bodyCpwait site sel)
  | _ => .next s

/-- R360: A term gains a credit for a waiting evwait. -/
def execEvwaitComplete (site : Nat) (s : State) : Out :=
  match (s.core site).waiting with
  | .evwait t => s.settle site (Core.advance 12) (fun u => u.bodyEvwait site t)
  | _ => .next s

/-- R332: A held copy or converter command starts running. -/
def execEngineCommandStart (site eng : Nat) (s : State) : Out :=
  s.event (s.works site && decide (eng < 3) && (s.core site).run == .running) (fun t =>
    t.startEngine site eng)

/-- R336: A copy element is checked and lands, with its tag. -/
def execCopyElement (site ch : Nat) (s : State) : Out :=
  let c := s.core site
  s.event (s.works site && decide (ch < 2) && (c.run == .running || c.settling && c.out.any (fun o => o.eng == ch)))
    (fun t => t.copyElement site ch)

/-- R350: A converter element is produced and written. -/
def execConvElement (site : Nat) (s : State) : Out :=
  s.event (s.works site && (s.core site).run == .running) (fun t => t.convElement site)

/-- R342: A command completes: signal, pulse, next command. -/
def execEngineCommandComplete (site eng : Nat) (s : State) : Out :=
  s.event (s.works site && decide (eng < 3) && (s.core site).run == .running) (fun t =>
    if eng = 2 then t.convComplete site else t.copyComplete site eng)

/-- R358: The event timer's period expires and it pulses. -/
def execEvTimerPulse (site : Nat) (s : State) : Out :=
  s.event (s.works site && (s.core site).xbar.due != 0) (fun t =>
    t.onCore site (fun c => ({ c with xbar := { c.xbar with due := c.xbar.due - 1 } } : Core).pulse 5 0))

/-- R361: The power governor grants leave to the head request. -/
def execLeaveGrant (quad : Nat) (s : State) : Out :=
  s.event (decide (quad < 16)) (fun t => t.grantLeave quad)

/-- R362: A 10 µs period renews the activity budgets. -/
def execActivityPeriodStart (die : Nat) (s : State) : Out :=
  s.event (decide (die < 4)) (fun t =>
    t.putDie die { t.die die with budgets := (t.die die).budgets.map Budget.renew })

end Sys2Proof.Machine
end

