-- ==== Sys2Proof/Machine/HostOps.lean ====
section
/-! DEFINITION. The meanings of the events of links, migration, the host and the fabric (18). -/

namespace Sys2Proof.Machine

/-- R441: mig.cmd starts a migration, or refuses it. -/
def execMigrationStart (die desc : Nat) (s : State) : Out :=
  s.event (decide (die < 4) && s.migHas die 0 desc) (fun t =>
    t.migRun die)

/-- R441: mig.cmd releases the old frame of a moved page. -/
def execMigrationRelease (die desc : Nat) (s : State) : Out :=
  s.event (decide (die < 4) && s.migHas die 1 desc) (fun t =>
    t.migRun die)

/-- R441: At the copy point the engine copies the page. -/
def execMigrationCopy (die desc : Nat) (s : State) : Out :=
  s.event (decide (die < 4)) (fun t =>
    t.migCopy die desc)

/-- R441: After the copy the engine starts the shootdown. -/
def execMigrationSwitch (die desc : Nat) (s : State) : Out :=
  s.event (decide (die < 4)) (fun t =>
    t.migSwitch die desc)

/-- R441: The shootdown ends and the new frame serves its requests. -/
def execMigrationMoved (die desc : Nat) (s : State) : Out :=
  s.event (decide (die < 4)) (fun t =>
    t.migMoved die desc)

/-- R440: Writing 1 to DROP clears it. -/
def execMigStatClear (die : Nat) (s : State) : Out :=
  s.event (decide (die < 4)) (fun t =>
    t.putDie die { t.die die with migDrop := false })

/-- R444: A fabric message from another device's migration engine marks a frame of this device incoming, so that its requests wait at the home. -/
def execMigrationIncomingMark (mark : Nat) (s : State) : Out :=
  let frame := mark / 2 ^ 8
  s.event (s.frameBacked frame && (tabGet? s.incomingFrames frame).isNone) (fun t =>
    { t with incomingFrames := tabSet t.incomingFrames frame (mark % 2 ^ 8) })

/-- R444: A fabric message from the driving device ends phase 4, and the incoming frame serves its waiting requests in arrival order. -/
def execMigrationIncomingRelease (frame : Nat) (s : State) : Out :=
  s.event (true) (fun t =>
    { t with incomingFrames := tabDel t.incomingFrames frame })

/-- R450: A type F or H access is unanswered for 100 µs and aborts. -/
def execFabricTimeout (site : Nat) (performed : Bool) (s : State) : Out :=
  s.event (s.works site) (fun t =>
    t.fabricAbort site performed)

/-- R449: A fabric peer's access is served as a host access in device bias. -/
def execPeerAccess (port op n pa : Nat) (v1 v2 : BitVec 512) (s : State) : Out :=
  let bad := op == 14
  let kind := if bad then 1 else op
  s.event (s.portUp port && decide ((n = 1 ∨ n = 2 ∨ n = 4 ∨ n = 8 ∨ (kind ≤ 1 ∧ (n = 16 ∨ n = 32 ∨ n = 64))) ∧ kind ≤ 13)) (fun t =>
    t.peerAccess kind n pa v1.toNat v2.toNat port bad)

/-- R451: The home answers a host read by bias. -/
def execHostRead (sector : Nat) (s : State) : Out :=
  s.event (s.hostLink && s.backed (64 * sector) 64) (fun t =>
    t.hostDma sector (fun u => u.hostRead sector))

/-- R451: The home answers a host read for ownership. -/
def execHostReadOwn (sector : Nat) (s : State) : Out :=
  s.event (s.hostLink && s.backed (64 * sector) 64) (fun t =>
    t.hostDma sector (fun u => u.hostReadOwn sector))

/-- R451: The home accepts a host write or write-back. -/
def execHostWrite (sector : Nat) (data : BitVec 512) (mask : BitVec 64) (s : State) : Out :=
  s.event (s.hostLink && s.backed (64 * sector) 64) (fun t =>
    t.hostDma sector (fun u => u.hostWrite sector data.toNat mask.toNat))

/-- R455: A host snoop of a type-H line reaches every holding slice. -/
def execHostSnoop (line : Nat) (excl : Bool) (s : State) : Out :=
  s.event s.hostLink (fun t =>
    t.hostSnoop line excl)

/-- R453: hb.cmd flips a granule to device bias. -/
def execBiasToDevice (gran : Nat) (s : State) : Out :=
  s.event (true) (fun t =>
    t.biasCmd gran 0)

/-- R453: hb.cmd flips a granule to host bias. -/
def execBiasToHost (gran : Nat) (s : State) : Out :=
  s.event (true) (fun t =>
    t.biasCmd gran 1)

/-- R452: hb.cmd exposes a granule in device bias. -/
def execBiasExpose (gran : Nat) (s : State) : Out :=
  s.event (true) (fun t =>
    t.biasCmd gran 2)

/-- R452: hb.cmd flips to device bias and withdraws exposure. -/
def execBiasWithdraw (gran : Nat) (s : State) : Out :=
  s.event (true) (fun t =>
    t.biasCmd gran 3)

/-- R453: Collection or back-invalidation ends and the bias bit changes. -/
def execBiasFlipComplete (gran : Nat) (s : State) : Out :=
  s.event (true) (fun t =>
    t.flipEnd gran)

/-- R452: Writing 1 to DROP clears it. -/
def execHbStatClear (s : State) : Out :=
  s.event (true) (fun t =>
    { t with hub := { t.hub with hbDrop := false } })

/-- A correction of a link logged (16 R403, R405; log 81): links 0 to 5 join the dies 0-1, 0-2, 0-3, 1-2, 1-3 and 2-3 and are logged by
the lower die; the links of the hub and its ports by die 0. -/
def State.logLink (s : State) (link : Nat) : State :=
  s.logRecord (if link < 3 ∨ 5 < link then 0 else if link < 5 then 1 else 2) ⟨0, 9, 0, Config.linkField s.free⟩ 0 none 0

/-- R437: A flit failing its CRC is resent. -/
def execFlitRetry (link : Nat) (s : State) : Out :=
  s.event (decide (link < 34)) (fun t => t.logLink link)

/-- R437: A link that fails its retries is retrained. -/
def execLinkRetrain (link : Nat) (s : State) : Out :=
  s.event (decide (link < 34)) (fun t => t.logLink link)

/-- R447: A CXL port trains, or is held down for a third host. -/
def execLinkTrain (port rate : Nat) (flit256 host : Bool) (s : State) : Out :=
  s.event (decide (port < 24) && (rate == 2 && flit256 || rate == 1 && !flit256)) (fun t =>
    t.trainLink port rate flit256 host)

end Sys2Proof.Machine
end

