-- ==== Sys2Proof/Machine/LocalOps.lean ====
section
/-! DEFINITION. The meanings of the local loads and stores (05 R128). -/

namespace Sys2Proof.Machine

/-- The bytes that a local load or store touches. -/
def ldlTouch (a : GOp) (imm : BitVec 12) (n : Nat) (c : Core) : List (Int × Nat) :=
  [(effAddr (c.rg .A a) imm.toInt, n)]

/-- A local load of n bytes, sign-extended when sgn. -/
def localLoad (n : Nat) (sgn : Bool) (d a : Reg) (imm : BitVec 12) (s : State) : Out :=
  s.localAt { uses := [rd .A (fix a), wr .D (fix d)] } (Core.advance 4) (ldlTouch (fix a) imm n)
    (bodyLdl (fix d) (fix a) imm n sgn)

/-- A local store of n bytes; D is the value (03 R63). -/
def localStore (n : Nat) (d a : Reg) (imm : BitVec 12) (s : State) : Out :=
  s.localAt { uses := [rd .A (fix a), rd .D (fix d)] } (Core.advance 4) (ldlTouch (fix a) imm n)
    (bodyStl (fix d) (fix a) imm n)

/-- R128: Loads a sign-extended local byte. -/
def execLdlB (d a : Reg) (imm : BitVec 12) (s : State) : Out := localLoad 1 true d a imm s

/-- R128: Loads a sign-extended local half. -/
def execLdlH (d a : Reg) (imm : BitVec 12) (s : State) : Out := localLoad 2 true d a imm s

/-- R128: Loads a sign-extended local word. -/
def execLdlW (d a : Reg) (imm : BitVec 12) (s : State) : Out := localLoad 4 true d a imm s

/-- R128: Loads a local doubleword. -/
def execLdlD (d a : Reg) (imm : BitVec 12) (s : State) : Out := localLoad 8 true d a imm s

/-- R128: Loads a zero-extended local byte. -/
def execLdlBz (d a : Reg) (imm : BitVec 12) (s : State) : Out := localLoad 1 false d a imm s

/-- R128: Loads a zero-extended local half. -/
def execLdlHz (d a : Reg) (imm : BitVec 12) (s : State) : Out := localLoad 2 false d a imm s

/-- R128: Loads a zero-extended local word. -/
def execLdlWz (d a : Reg) (imm : BitVec 12) (s : State) : Out := localLoad 4 false d a imm s

/-- R128: Stores a byte to local memory. -/
def execStlB (d a : Reg) (imm : BitVec 12) (s : State) : Out := localStore 1 d a imm s

/-- R128: Stores a half to local memory. -/
def execStlH (d a : Reg) (imm : BitVec 12) (s : State) : Out := localStore 2 d a imm s

/-- R128: Stores a word to local memory. -/
def execStlW (d a : Reg) (imm : BitVec 12) (s : State) : Out := localStore 4 d a imm s

/-- R128: Stores a doubleword to local memory. -/
def execStlD (d a : Reg) (imm : BitVec 12) (s : State) : Out := localStore 8 d a imm s

end Sys2Proof.Machine
end

