-- ==== Sys2Proof/Machine/MatrixOps.lean ====
section
/-! DEFINITION. The meanings of MX and BOUND and of the events of the matrix unit (15 R363 to R385). -/

namespace Sys2Proof.Machine

/-- Word 2 of a matrix command: row0, the field above it, TERM, HE and RS (15 R373). -/
def mxWord (row0 : BitVec 8) (top : Nat) (term : BitVec 4) (he rs : Bool) : Nat :=
  top * 2 ^ 16 + row0.toNat * 2 ^ 8 + term.toNat * 16 + (if he then 4 else 0) + (if rs then 2 else 0)

/-- R375: Enqueues a weight-slot load. -/
def execMload (a b : GOp) (tr : Bool) (term : BitVec 4) (he rs : Bool) (s : State) : Out :=
  s.shared { uses := [rd .A a, rd .B b] } (Core.advance 12) (fun t =>
    let k := t.core s.cur
    t.issueMx s.cur 0 tr 0 (mxWord 0 0 term he rs) rs (k.rg .A a) (k.rg .B b))

/-- R376: Enqueues an activation stream into the bank. -/
def execMstream (a b : GOp) (row0 : BitVec 8) (tr : Bool) (term : BitVec 4) (he rs : Bool) (s : State) : Out :=
  s.shared { uses := [rd .A a, rd .B b] } (Core.advance 12) (fun t =>
    let k := t.core s.cur
    t.issueMx s.cur 1 tr 0 (mxWord row0 0 term he rs) rs (k.rg .A a) (k.rg .B b))

/-- R378: Enqueues a bank store with bound checks. -/
def execMstore (rm : BitVec 3) (a b : GOp) (row0 : BitVec 8) (j : BitVec 2) (be zr : Bool) (term : BitVec 4) (he rs : Bool) (s : State) : Out :=
  s.shared { rm := rm, uses := [rd .A a, rd .B b] } (Core.advance 12) (fun t =>
    let k := t.core s.cur
    t.issueMx s.cur 2 false (k.rmode rm).toNat
      (mxWord row0 (j.toNat + (if be then 4 else 0) + (if zr then 8 else 0)) term he rs) rs (k.rg .A a) (k.rg .B b))

/-- R377: Enqueues a clearing of bank rows. -/
def execMzero (row0 : BitVec 8) (count : BitVec 9) (term : BitVec 4) (he rs : Bool) (s : State) : Out :=
  s.shared { uses := [] } (Core.advance 12) (fun t =>
    t.issueMzero s.cur (mxWord row0 count.toNat term he rs) rs)

/-- R383: Saves the matrix queue into a local image. -/
def execMsave (a : GOp) (s : State) : Out :=
  s.shared { uses := [rd .A a] } (Core.advance 12) (fun t =>
    t.bodyMsave s.cur ((t.core s.cur).rg .A a))

/-- R384: Restores the matrix queue from an image. -/
def execMrest (a : GOp) (s : State) : Out :=
  s.shared { uses := [rd .A a] } (Core.advance 12) (fun t =>
    t.bodyMrest s.cur ((t.core s.cur).rg .A a))

/-- R385: Reads a queue field, optionally waiting. -/
def execMstat (d : GOp) (sel : BitVec 4) (s : State) : Out :=
  s.shared { uses := [wr .D d] } (Core.advance 12) (fun t =>
    t.bodyMstat s.cur d sel.toNat)

/-- R381: Arms an injected block-sum error. -/
def execMinj (row col : BitVec 6) (blk : BitVec 3) (p : BitVec 6) (s : State) : Out :=
  s.local_ { mode := 1, uses := [] } (Core.advance 12) (bodyMinj row.toNat col.toNat blk.toNat p.toNat)

/-- R379: Sets a bound pair and action. -/
def execBndset (a : GOp) (j act : BitVec 2) (s : State) : Out :=
  s.shared { uses := [rd .A a] } (Core.advance 12) (fun t =>
    t.bodyBndset s.cur j.toNat act.toNat ((t.core s.cur).rg .A a))

/-- R379: Reads a bound pair or its status. -/
def execBndread (d : GOp) (sel : BitVec 3) (s : State) : Out :=
  s.shared { uses := [wr .D d] } (Core.advance 12) (fun t =>
    t.bodyBndread s.cur d sel.toNat)

/-- R385: A waiting mstat finds its queue empty or faulted. -/
def execMstatWaitComplete (site : Nat) (s : State) : Out :=
  match (s.core site).waiting with
  | .mstat d sel => s.settle site (Core.advance 12) (fun t => t.bodyMstat site d sel)
  | _ => .next s

/-- R366: The arbiter grants the array to a queue's next unit. -/
def execMxUnitGrant (cluster : Nat) (s : State) : Out :=
  s.event (decide (cluster < 512)) (fun t =>
    t.mxGrantUnit cluster)

/-- R375: The weight slot is filled and latched. -/
def execMxLoadExec (site : Nat) (s : State) : Out :=
  s.event (s.works site && (s.core site).run == .running) (fun t =>
    (t.mxLoad site).mxComplete site)

/-- R376: A tile is fetched, checked and accumulated into the bank. -/
def execMxTileExec (site : Nat) (s : State) : Out :=
  s.event (s.works site && (s.core site).run == .running) (fun t =>
    (t.mxTile site).mxComplete site)

/-- R378: Bank rows are bound-checked, rounded and written. -/
def execMxStoreExec (site : Nat) (s : State) : Out :=
  s.event (s.works site && ((s.core site).run == .running || (s.core site).settling)) (fun t =>
    (t.mxStore site).mxComplete site)

/-- R367: A write of queue weights stores 1 for 0. -/
def execMxWeightWrite (quad q : Nat) (value : BitVec 64) (s : State) : Out :=
  s.event (decide (quad < 16) && decide (q < 32)) (fun t =>
    t.writeWeights quad q value)

end Sys2Proof.Machine
end

