-- ==== Sys2Proof/Machine/MemOps.lean ====
section
/-! DEFINITION. The meanings of the global loads, stores and atomics: GLOBAL, AMO, AMOX (10 R257 to R261). -/

namespace Sys2Proof.Machine

/-- The low n bytes of a register. -/
def lowBytes (n : Nat) (x : DWord) : Nat := x.toNat % 2 ^ (8 * n)

/-- n bytes sign-extended into a register. -/
def signedReg (n old : Nat) : DWord := BitVec.ofInt 64 (signedOf n old)

/-- An access of a core's own instruction (10 R256), its superstep rules first: what it read goes to the continuation. -/
def State.memoryOp (s : State) (site n : Nat) (va : DWord) (op : MemOp) (f : Nat → Core → Core) : SRes :=
  match (s.core site).superCheck va true with
  | some e => .trap s e
  | none =>
    match s.access (s.coreAccess site va.toNat n op) with
    | .ok s1 old => .done (s1.onCore site (f old))
    | .trap s1 e => .trap s1 e
    | .wait s1 => .wait s1 .stall
    | .device s1 pa =>
      match op with
      | .store v => .done ((s1.devWrite pa (BitVec.ofNat 64 v)).onCore site (f 0))
      | _ => .done (s1.onCore site (f (s1.devRead pa).toNat))

/-- A global load of n bytes, sign-extended when sgn. -/
def globalLoad (n : Nat) (sgn : Bool) (d a : Reg) (imm : BitVec 12) (s : State) : Out :=
  s.shared { uses := [rd .A (fix a), wr .D (fix d)] } (Core.advance 4) (fun t =>
    t.memoryOp s.cur n ((t.core s.cur).rg .A (fix a) + imm.signExtend 64) .load
      (fun old k => k.wg .D (fix d) (if sgn then signedReg n old else BitVec.ofNat 64 old) 1))

/-- A global store of n bytes; D is the value (03 R63). -/
def globalStore (n : Nat) (d a : Reg) (imm : BitVec 12) (s : State) : Out :=
  s.shared { uses := [rd .A (fix a), rd .D (fix d)] } (Core.advance 4) (fun t =>
    let c := t.core s.cur
    t.memoryOp s.cur n (c.rg .A (fix a) + imm.signExtend 64) (.store (lowBytes n (c.rg .D (fix d)))) (fun _ k => k))

/-- An AMO on n bytes (10 R258). -/
def globalAmo (n fn : Nat) (d a b : Reg) (s : State) : Out :=
  s.shared { uses := [rd .A (fix a), rd .B (fix b), wr .D (fix d)] } (Core.advance 4) (fun t =>
    let c := t.core s.cur
    t.memoryOp s.cur n (c.rg .A (fix a)) (.amo fn (lowBytes n (c.rg .B (fix b))))
      (fun old k => k.wg .D (fix d) (signedReg n old) 1))

/-- An AMOX on n bytes (10 R260): its operation from its operands, and what it writes. -/
def amox (n : Nat) (uses : List Use) (a : GOp) (op : Core → MemOp) (f : MemOp → Nat → Core → Core) (s : State) : Out :=
  s.shared { uses := uses } (Core.advance 12) (fun t =>
    let c := t.core s.cur
    t.memoryOp s.cur n (c.rg .A a) (op c) (f (op c)))

/-- R257: Loads a sign-extended global byte. -/
def execLdB (d a : Reg) (imm : BitVec 12) (s : State) : Out :=
  globalLoad 1 true d a imm s

/-- R257: Loads a sign-extended global half. -/
def execLdH (d a : Reg) (imm : BitVec 12) (s : State) : Out :=
  globalLoad 2 true d a imm s

/-- R257: Loads a sign-extended global word. -/
def execLdW (d a : Reg) (imm : BitVec 12) (s : State) : Out :=
  globalLoad 4 true d a imm s

/-- R257: Loads a global doubleword. -/
def execLdD (d a : Reg) (imm : BitVec 12) (s : State) : Out :=
  globalLoad 8 true d a imm s

/-- R257: Loads a zero-extended global byte. -/
def execLdBz (d a : Reg) (imm : BitVec 12) (s : State) : Out :=
  globalLoad 1 false d a imm s

/-- R257: Loads a zero-extended global half. -/
def execLdHz (d a : Reg) (imm : BitVec 12) (s : State) : Out :=
  globalLoad 2 false d a imm s

/-- R257: Loads a zero-extended global word. -/
def execLdWz (d a : Reg) (imm : BitVec 12) (s : State) : Out :=
  globalLoad 4 false d a imm s

/-- R257: Stores a byte to global memory. -/
def execStB (d a : Reg) (imm : BitVec 12) (s : State) : Out :=
  globalStore 1 d a imm s

/-- R257: Stores a half to global memory. -/
def execStH (d a : Reg) (imm : BitVec 12) (s : State) : Out :=
  globalStore 2 d a imm s

/-- R257: Stores a word to global memory. -/
def execStW (d a : Reg) (imm : BitVec 12) (s : State) : Out :=
  globalStore 4 d a imm s

/-- R257: Stores a doubleword to global memory. -/
def execStD (d a : Reg) (imm : BitVec 12) (s : State) : Out :=
  globalStore 8 d a imm s

/-- R258: Atomically swaps a 64-bit word. -/
def execAmoswap (d a b : Reg) (s : State) : Out :=
  globalAmo 8 0 d a b s

/-- R258: Atomically swaps a 32-bit word. -/
def execAmoswapW (d a b : Reg) (s : State) : Out :=
  globalAmo 4 0 d a b s

/-- R258: Atomically adds to a 64-bit word. -/
def execAmoadd (d a b : Reg) (s : State) : Out :=
  globalAmo 8 1 d a b s

/-- R258: Atomic add on a 32-bit word. -/
def execAmoaddW (d a b : Reg) (s : State) : Out :=
  globalAmo 4 1 d a b s

/-- R258: Atomic and on a 64-bit word. -/
def execAmoand (d a b : Reg) (s : State) : Out :=
  globalAmo 8 2 d a b s

/-- R258: Atomic and on a 32-bit word. -/
def execAmoandW (d a b : Reg) (s : State) : Out :=
  globalAmo 4 2 d a b s

/-- R258: Atomic or on a 64-bit word. -/
def execAmoor (d a b : Reg) (s : State) : Out :=
  globalAmo 8 3 d a b s

/-- R258: Atomic or on a 32-bit word. -/
def execAmoorW (d a b : Reg) (s : State) : Out :=
  globalAmo 4 3 d a b s

/-- R258: Atomic xor on a 64-bit word. -/
def execAmoxor (d a b : Reg) (s : State) : Out :=
  globalAmo 8 4 d a b s

/-- R258: Atomic xor on a 32-bit word. -/
def execAmoxorW (d a b : Reg) (s : State) : Out :=
  globalAmo 4 4 d a b s

/-- R258: Atomic signed minimum, 64-bit. -/
def execAmomin (d a b : Reg) (s : State) : Out :=
  globalAmo 8 5 d a b s

/-- R258: Atomic signed minimum, 32-bit. -/
def execAmominW (d a b : Reg) (s : State) : Out :=
  globalAmo 4 5 d a b s

/-- R258: Atomic signed maximum, 64-bit. -/
def execAmomax (d a b : Reg) (s : State) : Out :=
  globalAmo 8 6 d a b s

/-- R258: Atomic signed maximum, 32-bit. -/
def execAmomaxW (d a b : Reg) (s : State) : Out :=
  globalAmo 4 6 d a b s

/-- R258: Atomic unsigned minimum, 64-bit. -/
def execAmominn (d a b : Reg) (s : State) : Out :=
  globalAmo 8 7 d a b s

/-- R258: Atomic unsigned minimum, 32-bit. -/
def execAmominnW (d a b : Reg) (s : State) : Out :=
  globalAmo 4 7 d a b s

/-- R258: Atomic unsigned maximum, 64-bit. -/
def execAmomaxn (d a b : Reg) (s : State) : Out :=
  globalAmo 8 8 d a b s

/-- R258: Atomic unsigned maximum, 32-bit. -/
def execAmomaxnW (d a b : Reg) (s : State) : Out :=
  globalAmo 4 8 d a b s

/-- R260: 64-bit compare-and-swap. -/
def execCas (d a b c : GOp) (s : State) : Out :=
  amox 8 [rd .A a, rd .B b, rd .C c, wr .D d] a
    (fun k => .cas (lowBytes 8 (k.rg .B b)) (lowBytes 8 (k.rg .C c))) (fun _ old k => k.wg .D d (signedReg 8 old) 1) s

/-- R260: 32-bit compare-and-swap. -/
def execCasW (d a b c : GOp) (s : State) : Out :=
  amox 4 [rd .A a, rd .B b, rd .C c, wr .D d] a
    (fun k => .cas (lowBytes 4 (k.rg .B b)) (lowBytes 4 (k.rg .C c))) (fun _ old k => k.wg .D d (signedReg 4 old) 1) s

/-- R260: 64-bit wrapping increment to a bound. -/
def execIncw (d a b : GOp) (s : State) : Out :=
  amox 8 [rd .A a, rd .B b, wr .D d] a (fun k => .incw (lowBytes 8 (k.rg .B b)))
    (fun _ old k => k.wg .D d (signedReg 8 old) 1) s

/-- R260: 32-bit wrapping increment. -/
def execIncwW (d a b : GOp) (s : State) : Out :=
  amox 4 [rd .A a, rd .B b, wr .D d] a (fun k => .incw (lowBytes 4 (k.rg .B b)))
    (fun _ old k => k.wg .D d (signedReg 4 old) 1) s

/-- R260: 64-bit bounded add with status. -/
def execFaddb (d a b c st : GOp) (s : State) : Out :=
  amox 8 [rd .A a, rd .B b, rd .C c, wr .D d, wr .S st] a
    (fun k => .faddb (lowBytes 8 (k.rg .B b)) (lowBytes 8 (k.rg .C c)))
    (fun op old k => (k.wg .D d (signedReg 8 old) 1).wg .S st (if (op.result 8 old).isSome then 1 else 0) 1) s

/-- R260: 32-bit bounded add with status. -/
def execFaddbW (d a b c st : GOp) (s : State) : Out :=
  amox 4 [rd .A a, rd .B b, rd .C c, wr .D d, wr .S st] a
    (fun k => .faddb (lowBytes 4 (k.rg .B b)) (lowBytes 4 (k.rg .C c)))
    (fun op old k => (k.wg .D d (signedReg 4 old) 1).wg .S st (if (op.result 4 old).isSome then 1 else 0) 1) s

end Sys2Proof.Machine
end

