-- ==== Sys2Proof/Machine/OrdOps.lean ====
section
/-! DEFINITION. The meanings of ORD and fence, and of the events of posted stores and ordered operations (10 R254, 13 R311 to R320). -/

namespace Sys2Proof.Machine

/-- R316: Announces an ordered add. -/
def execOrdadd (t1 : BitVec 4) (rm : BitVec 3) (d a b : GOp) (s : State) : Out :=
  s.shared { rm := rm, uses := [rd .A a, rd .B b, rd .D d] } (Core.advance 12) (fun t =>
    let k := t.core s.cur
    t.announce s.cur 0 t1.toNat (k.rmode rm).toNat (k.rg .D d) (k.rg .A a) (k.rg .B b))

/-- R316: Announces an ordered minimum. -/
def execOrdmin (t1 : BitVec 4) (d a b : GOp) (s : State) : Out :=
  s.shared { uses := [rd .A a, rd .B b, rd .D d] } (Core.advance 12) (fun t =>
    let k := t.core s.cur
    t.announce s.cur 1 t1.toNat 0 (k.rg .D d) (k.rg .A a) (k.rg .B b))

/-- R316: Announces an ordered maximum. -/
def execOrdmax (t1 : BitVec 4) (d a b : GOp) (s : State) : Out :=
  s.shared { uses := [rd .A a, rd .B b, rd .D d] } (Core.advance 12) (fun t =>
    let k := t.core s.cur
    t.announce s.cur 2 t1.toNat 0 (k.rg .D d) (k.rg .A a) (k.rg .B b))

/-- R316: Announces an ordered swap. -/
def execOrdswap (t1 : BitVec 4) (d a b : GOp) (s : State) : Out :=
  s.shared { uses := [rd .A a, rd .B b, rd .D d] } (Core.advance 12) (fun t =>
    let k := t.core s.cur
    t.announce s.cur 3 t1.toNat 0 (k.rg .D d) (k.rg .A a) (k.rg .B b))

/-- R316: Announces an ordered read. -/
def execOrdget (t1 : BitVec 4) (d a : GOp) (s : State) : Out :=
  s.shared { uses := [rd .A a, rd .D d] } (Core.advance 12) (fun t =>
    let k := t.core s.cur
    t.announce s.cur 4 t1.toNat 0 (k.rg .D d) (k.rg .A a) 0)

/-- R312: Stalls until chosen earlier work of the core within a scope has performed. -/
def execFence (kind scope : BitVec 3) (s : State) : Out :=
  s.shared { uses := [] } (Core.advance 4) (fun t =>
    t.bodyFence s.cur kind.toNat scope.toNat)

/-- R312: A fence's waited work has performed. -/
def execFenceComplete (site : Nat) (s : State) : Out :=
  match (s.core site).waiting with
  | .fence kind scope => s.settle site (Core.advance 4) (fun t => t.bodyFence site kind scope)
  | _ => .next s

/-- R309: The home applies a posted type-W store. -/
def execPostedStoreApply (site : Nat) (s : State) : Out :=
  s.event (s.works site) (fun t =>
    t.applyPosted site)

/-- R318: At tick 64w+128 a home applies window w in key order. -/
def execOrdWindowApply (die window : Nat) (s : State) : Out :=
  s.event (decide (die < 4)) (fun t =>
    t.applyWindow die window)

/-- R319: An ordered operation's result record lands. -/
def execOrdRecordLand (idx : Nat) (s : State) : Out :=
  s.event (true) (fun t =>
    t.landRecord idx)

/-- R320: A MOVED announcement returns and is announced again. -/
def execOrdReannounce (idx : Nat) (s : State) : Out :=
  s.event (true) (fun t =>
    t.reannounce idx)

end Sys2Proof.Machine
end

