-- ==== Sys2Proof/Machine/RightsOps.lean ====
section
/-! DEFINITION. The meanings of RIGHTS and of the ends of rounds (11 R272 to R283; 10 R249; 16 R410). -/

namespace Sys2Proof.Machine

/-- R279: Inserts a rights entry into a target table. -/
def execGrant (d a b c : GOp) (rights : BitVec 6) (s : State) : Out :=
  s.shared { uses := [rd .A a, rd .B b, rd .C c, wr .D d] } (Core.advance 12) (fun t =>
    let k := t.core s.cur
    match k.superCheck (k.rg .A a) true with
    | some e => .trap t e
    | none =>
      (t.grant s.cur (k.rg .A a) (k.rg .B b) (k.rg .C c) rights.toNat).finish (fun u x => .done (u.result s.cur d (BitVec.ofNat 64 x))))

/-- R280: Trims rights and starts a shutter. -/
def execRevoke (d a b c : GOp) (s : State) : Out :=
  s.shared { uses := [rd .A a, rd .B b, rd .C c, wr .D d] } (Core.advance 12) (fun t =>
    let k := t.core s.cur
    match k.superCheck (k.rg .A a) true with
    | some e => .trap t e
    | none =>
      (t.revoke s.cur (k.rg .A a) (k.rg .B b) (k.rg .C c)).finish (fun u x => .done (u.result s.cur d (BitVec.ofNat 64 x))))

/-- R282: Replaces own rights with a quarantined entry. -/
def execRetire (d a b : GOp) (s : State) : Out :=
  s.shared { uses := [rd .A a, rd .B b, wr .D d] } (Core.advance 12) (fun t =>
    let k := t.core s.cur
    match k.superCheck (k.rg .A a) true with
    | some e => .trap t e
    | none =>
      (t.retire s.cur (k.rg .A a) (k.rg .B b)).finish (fun u x => .done (u.result s.cur d (BitVec.ofNat 64 x))))

/-- R283: Reports the rights found for a granule. -/
def execRchk (d a b : GOp) (s : State) : Out :=
  s.shared { uses := [rd .A a, rd .B b, wr .D d] } (Core.advance 12) (fun t =>
    let k := t.core s.cur
    match k.superCheck (k.rg .A a) false with
    | some e => .trap t e
    | none =>
      (t.rchk s.cur (k.rg .A a) (k.rg .B b)).finish (fun u x => .done (u.result s.cur d x)))

/-- R281: Waits for the core's shutters to complete. -/
def execRvsync (s : State) : Out :=
  s.shared { uses := [] } (Core.advance 12) (fun t =>
    t.bodyRvsync s.cur)

/-- R281: rvsync's wait for shutters ends. -/
def execRvsyncComplete (site : Nat) (s : State) : Out :=
  match (s.core site).waiting with
  | .rvsync => s.settle site (Core.advance 12) (fun t => t.bodyRvsync site)
  | _ => .next s

/-- R273: A shutter completes across the package. -/
def execShutterComplete (id : Nat) (s : State) : Out :=
  match s.completeRound id (fun k =>
    match k with
    | .shutter _ _ _ => true
    | _ => false) with
  | (t, some site) => t.settle site (Core.advance 12) (fun u => .done u)
  | (t, none) => .next t

/-- R249: A translation shootdown completes. -/
def execTlbShootdownComplete (id : Nat) (s : State) : Out :=
  match s.completeRound id (fun k =>
    match k with
    | .shoot _ _ => true
    | _ => false) with
  | (t, some site) => t.settle site (Core.advance 12) (fun u => .done u)
  | (t, none) => .next t

/-- R410: A package rlbinv round completes. -/
def execRlbinvRoundComplete (id : Nat) (s : State) : Out :=
  match s.completeRound id (fun k =>
    match k with
    | .rlb _ => true
    | _ => false) with
  | (t, some site) => t.settle site (Core.advance 12) (fun u => .done u)
  | (t, none) => .next t

end Sys2Proof.Machine
end

