-- ==== Sys2Proof/Machine/ScalarFp.lean ====
section
/-! DEFINITION. The meanings of the scalar floating-point families FP and FPX (05 R131 to R138). -/

namespace Sys2Proof.Machine

/-- A binary FP function (05 R131 to R133). -/
def fpBin (f : Nat) (ty : BitVec 2) (d a b : Reg) (s : State) : Out :=
  s.local_ { uses := [rd .A (fix a), rd .B (fix b), wr .D (fix d)] } (Core.advance 4)
    (bodyFp (fix d) (fpLat f) (fun c => fpFn f (fpTy ty) (c.rg .A (fix a)) (c.rg .B (fix b))))

/-- A binary FP function with a literal in place of B (05 R118). -/
def fpLit (f : Nat) (ty : BitVec 2) (d a : Reg) (lit : DWord) (s : State) : Out :=
  s.local_ { uses := [rd .A (fix a), wr .D (fix d)] } (Core.advance 12)
    (bodyFp (fix d) (fpLat f) (fun c => fpFn f (fpTy ty) (c.rg .A (fix a)) lit))

/-- A unary FP function. -/
def fpUn (f : Nat) (ty : BitVec 2) (d a : Reg) (s : State) : Out :=
  s.local_ { uses := [rd .A (fix a), wr .D (fix d)] } (Core.advance 4)
    (bodyFp (fix d) (fpLat f) (fun c => fpFn f (fpTy ty) (c.rg .A (fix a)) 0))

/-- A fused operation (05 R136). -/
def fused (f : Nat) (t : BitVec 4) (rm : BitVec 3) (d a b c : GOp) (s : State) : Out :=
  s.local_ { rm := rm, uses := [rd .A a, rd .B b, rd .C c, wr .D d] } (Core.advance 12)
    (bodyFp d 3 (fun x => fmaFn f t (x.rmode rm) (x.rg .A a) (x.rg .B b) (x.rg .C c)))

/-- R131: Scalar floating-point add in RNE. -/
def execFadd (ty : BitVec 2) (d a b : Reg) (s : State) : Out := fpBin 0 ty d a b s

/-- R131: fadd with a literal operand. -/
def execFaddLit (ty : BitVec 2) (d a : Reg) (lit : BitVec 64) (s : State) : Out := fpLit 0 ty d a lit s

/-- R131: Scalar floating-point subtract. -/
def execFsub (ty : BitVec 2) (d a b : Reg) (s : State) : Out := fpBin 1 ty d a b s

/-- R131: fsub with a literal operand. -/
def execFsubLit (ty : BitVec 2) (d a : Reg) (lit : BitVec 64) (s : State) : Out := fpLit 1 ty d a lit s

/-- R131: Scalar floating-point multiply. -/
def execFmul (ty : BitVec 2) (d a b : Reg) (s : State) : Out := fpBin 2 ty d a b s

/-- R131: fmul with a literal operand. -/
def execFmulLit (ty : BitVec 2) (d a : Reg) (lit : BitVec 64) (s : State) : Out := fpLit 2 ty d a lit s

/-- R131: Scalar floating-point divide. -/
def execFdiv (ty : BitVec 2) (d a b : Reg) (s : State) : Out := fpBin 3 ty d a b s

/-- R131: fdiv with a literal operand. -/
def execFdivLit (ty : BitVec 2) (d a : Reg) (lit : BitVec 64) (s : State) : Out := fpLit 3 ty d a lit s

/-- R131: Scalar floating-point square root. -/
def execFsqrt (ty : BitVec 2) (d a : Reg) (s : State) : Out := fpUn 4 ty d a s

/-- R131: Scalar minimumNumber. -/
def execFmin (ty : BitVec 2) (d a b : Reg) (s : State) : Out := fpBin 5 ty d a b s

/-- R131: fmin with a literal operand. -/
def execFminLit (ty : BitVec 2) (d a : Reg) (lit : BitVec 64) (s : State) : Out := fpLit 5 ty d a lit s

/-- R131: Scalar maximumNumber. -/
def execFmax (ty : BitVec 2) (d a b : Reg) (s : State) : Out := fpBin 6 ty d a b s

/-- R131: fmax with a literal operand. -/
def execFmaxLit (ty : BitVec 2) (d a : Reg) (lit : BitVec 64) (s : State) : Out := fpLit 6 ty d a lit s

/-- R132: Copies the sign of b onto a. -/
def execFsgn (ty : BitVec 2) (d a b : Reg) (s : State) : Out := fpBin 7 ty d a b s

/-- R132: fsgn with a literal operand. -/
def execFsgnLit (ty : BitVec 2) (d a : Reg) (lit : BitVec 64) (s : State) : Out := fpLit 7 ty d a lit s

/-- R132: Copies the inverted sign of b onto a. -/
def execFsgnn (ty : BitVec 2) (d a b : Reg) (s : State) : Out := fpBin 8 ty d a b s

/-- R132: fsgnn with a literal operand. -/
def execFsgnnLit (ty : BitVec 2) (d a : Reg) (lit : BitVec 64) (s : State) : Out := fpLit 8 ty d a lit s

/-- R132: Xors the signs onto a. -/
def execFsgnx (ty : BitVec 2) (d a b : Reg) (s : State) : Out := fpBin 9 ty d a b s

/-- R132: fsgnx with a literal operand. -/
def execFsgnxLit (ty : BitVec 2) (d a : Reg) (lit : BitVec 64) (s : State) : Out := fpLit 9 ty d a lit s

/-- R133: Floating-point equality compare. -/
def execFeq (ty : BitVec 2) (d a b : Reg) (s : State) : Out := fpBin 10 ty d a b s

/-- R133: feq with a literal operand. -/
def execFeqLit (ty : BitVec 2) (d a : Reg) (lit : BitVec 64) (s : State) : Out := fpLit 10 ty d a lit s

/-- R133: Floating-point less-than compare. -/
def execFlt (ty : BitVec 2) (d a b : Reg) (s : State) : Out := fpBin 11 ty d a b s

/-- R133: flt with a literal operand. -/
def execFltLit (ty : BitVec 2) (d a : Reg) (lit : BitVec 64) (s : State) : Out := fpLit 11 ty d a lit s

/-- R133: Floating-point less-or-equal compare. -/
def execFle (ty : BitVec 2) (d a b : Reg) (s : State) : Out := fpBin 12 ty d a b s

/-- R133: fle with a literal operand. -/
def execFleLit (ty : BitVec 2) (d a : Reg) (lit : BitVec 64) (s : State) : Out := fpLit 12 ty d a lit s

/-- R134: Writes a one-hot class of the operand. -/
def execFclass (ty : BitVec 2) (d a : Reg) (s : State) : Out := fpUn 13 ty d a s

/-- R133: Writes 1 when the pair is unordered. -/
def execFcun (ty : BitVec 2) (d a b : Reg) (s : State) : Out := fpBin 14 ty d a b s

/-- R133: fcun with a literal operand. -/
def execFcunLit (ty : BitVec 2) (d a : Reg) (lit : BitVec 64) (s : State) : Out := fpLit 14 ty d a lit s

/-- R136: Fused multiply-add rounded once. -/
def execFma (t1 : BitVec 4) (rm : BitVec 3) (d a b c : GOp) (s : State) : Out := fused 0 t1 rm d a b c s

/-- R136: Fused multiply-subtract. -/
def execFms (t1 : BitVec 4) (rm : BitVec 3) (d a b c : GOp) (s : State) : Out := fused 1 t1 rm d a b c s

/-- R136: Negated fused multiply-add. -/
def execFnma (t1 : BitVec 4) (rm : BitVec 3) (d a b c : GOp) (s : State) : Out := fused 2 t1 rm d a b c s

/-- R136: Negated fused multiply-subtract. -/
def execFnms (t1 : BitVec 4) (rm : BitVec 3) (d a b c : GOp) (s : State) : Out := fused 3 t1 rm d a b c s

/-- R137: Converts gA from type T2 to T1. -/
def execFcvt (t1 t2 : BitVec 4) (rm : BitVec 3) (sat : Bool) (d a : GOp) (s : State) : Out := s.local_ { rm := rm, uses := [rd .A a, wr .D d] } (Core.advance 12)
    (bodyFp d 3 (fun x => convert t1 t2 (x.rmode rm) sat (x.rg .A a)))

/-- R138: Selects gA or gB by gC. -/
def execSel (d a b c : GOp) (s : State) : Out := s.local_ { uses := [rd .A a, rd .B b, rd .C c, wr .D d] } (Core.advance 12)
    (bodyWrite d 1 (fun x => if x.rg .C c = 0 then x.rg .B b else x.rg .A a))

/-- R138: Rounds to an integral value. -/
def execFround (t1 : BitVec 4) (rm : BitVec 3) (d a : GOp) (s : State) : Out := s.local_ { rm := rm, uses := [rd .A a, wr .D d] } (Core.advance 12)
    (bodyFp d 3 (fun x => fpRoundInt t1 (x.rmode rm) (x.rg .A a)))

end Sys2Proof.Machine
end

