-- ==== Sys2Proof/Machine/SchedOps.lean ====
section
/-! DEFINITION. The meanings of the events of the virtual-device scheduler (17). -/

namespace Sys2Proof.Machine

/-- R415: sch.cmd enables a virtual device. -/
def execVdEnable (vd : Nat) (s : State) : Out :=
  s.event (s.schHas 0 vd none) (fun t =>
    t.schRun)

/-- R415: sch.cmd disables a device and quiesces its cores. -/
def execVdDisable (vd : Nat) (s : State) : Out :=
  s.event (s.schHas 1 vd none) (fun t =>
    t.schRun)

/-- R417: sch.cmd installs a reservation under the admission test. -/
def execReservationInstall (vd slot : Nat) (s : State) : Out :=
  s.event (s.schHas 2 vd (some slot)) (fun t =>
    t.schRun)

/-- R417: sch.cmd removes a reservation. -/
def execReservationRemove (vd slot : Nat) (s : State) : Out :=
  s.event (s.schHas 3 vd (some slot)) (fun t =>
    t.schRun)

/-- R418: A period start renews a reservation's budget and deadline. -/
def execReservationPeriodStart (vd slot : Nat) (s : State) : Out :=
  s.event (true) (fun t =>
    t.startPeriod vd slot)

/-- R418: A remaining budget reaches 0 and the cores are quiesced. -/
def execBudgetExhausted (vd slot region : Nat) (s : State) : Out :=
  s.event (true) (fun t =>
    t.exhaust vd slot region)

/-- R421: A write to a watched ring line makes the scheduler reread TAIL. -/
def execRingTailChange (vd queue : Nat) (s : State) : Out :=
  s.event (true) (fun t =>
    t.ringChange vd queue)

/-- R426: A dependency signal's line changes and is reread. -/
def execDependencySatisfied (launch dep : Nat) (s : State) : Out :=
  s.event (decide (dep < 2)) (fun t =>
    t.depChange launch dep)

/-- R432: A launch's threads have ended; status and signal are written. -/
def execLaunchComplete (launch : Nat) (s : State) : Out :=
  s.event (true) (fun t =>
    t.completeLaunch launch)

/-- R433: A fault ends a launch and stops its cores. -/
def execLaunchFaultEnd (launch : Nat) (s : State) : Out :=
  s.event (true) (fun t =>
    t.faultLaunch launch)

end Sys2Proof.Machine
end

