-- ==== Sys2Proof/Machine/Rollback.lean ====
section
/-! DEFINITION. Rollback of a protected gang (09 R235 to R238), double traps (16 R391), the time limit of a pre-emption (16 R401), and
traps of a launch without a handler (17 R433). -/

namespace Sys2Proof.Machine

/-- Local memory restored from a log, newest entry last (09 R237). -/
def restoreLoc (m : Memory) (es : List UndoEntry) : Memory := es.foldl (fun m e => memWrite m (64 * e.gran) 64 e.data) m

/-- A core as the last release left it (09 R235, R237): granules restored from its log with fresh check bits, commands cancelled,
records of its superstep discarded; counters, entries and what no rule restores stay. -/
def Core.rolledBack (c snap : Core) (es : List UndoEntry) (cyc : Nat) : Core :=
  { snap with
    run := .running
    wait := .none
    loc := restoreLoc c.loc es
    flips := c.flips.filter (fun p => !es.any (fun e => e.gran == p.1 / 8))
    wrote := []
    logs := c.logs
    cnt := c.cnt
    tlb := c.tlb
    rlb := c.rlb
    out := []
    moved := []
    lost := 0
    halt := c.halt
    ordPend := []
    ordCount := 0
    reads := []
    writes := []
    exch := ⟨[], [], [], [], 0⟩
    xbase := cyc
    eng0 := { c.eng0 with queue := [], fault := none, rep := false }
    eng1 := { c.eng1 with queue := [], fault := none, rep := false }
    conv := { c.conv with queue := [], fault := none, rep := false }
    xbar := c.xbar
    mx := { snap.mx with cmds := snap.mx.cmds.map (fun x => { x with leave := false, granted := false, stage := .held }) }
    cmdId := max c.cmdId snap.cmdId }

/-- A core of a gang has taken part in the superstep that rolls back: no release of its seam is still on its way to it, and it has not
passed its final seam. -/
def State.inSuperstep (s : State) (g : Gang) (site : Nat) : Bool :=
  let pending (k p : Nat) : Bool := s.releases.any (fun r => r.chan == k && r.phase == p && !r.reached.contains site)
  !(s.chan g.chan).left site &&
    match (s.core site).wait with
    | .seam _ k p => !pending k p
    | .final k p => !pending k p
    | _ => true

/-- The cores of a gang go back to the last release (09 R237). -/
def State.rollCores (s : State) (id : Nat) (g : Gang) (sites : List Nat) : State :=
  sites.foldl (fun s t =>
    match tabGet? s.snaps (undoKey id t) with
    | none => s
    | some snap =>
      if !s.inSuperstep g t then s
      else
        let s1 := [0, 1, 2, 3].foldl (fun s e => s.returnLeave t e) (s.unpinTile t)
        let es := (tabGet s1.undo (undoKey id t) ⟨0, []⟩).entries
        (s1.putCore t ((s1.core t).rolledBack snap es (s1.cycOf t))).record t) s

/-- An entry of the log of a core of a gang that a rollback reads, which its memory has lost (09 R237): the core and its place. -/
def State.lostUndo (s : State) (id : Nat) (g : Gang) : Option (Nat × Nat) :=
  g.cores.findSome? (fun t =>
    if !s.inSuperstep g t then none
    else ((tabGet s.undo (undoKey id t) ⟨0, []⟩).entries.findIdx? (fun e => e.bad)).map (fun i => (t, i)))

/-- A gang ends (09 R237, R238): its cores stop, and its launches end with a cause. -/
def State.loseGang (s : State) (id : Nat) (g : Gang) (cause value : Nat) : State :=
  (g.cores.foldl (fun s t => s.onCore t (fun c => { c with run := if c.run = .idle then .idle else .stopped })) s).failLaunch
    (fun p => p.2.gang == some id) cause value

/-- A protected gang rolls back (09 R237), or ends: when its superstep fails a second time (09 R238), or when a log cannot be read, whose
address is a free value (log 34).  It waits for the cores of its gang that a release is still on its way to. -/
def State.rollGang (s : State) (id : Nat) : State :=
  match tabGet? s.gangs id with
  | none => s
  | some g =>
    if !g.cores.any (fun t => (s.core t).run == .consumed) || g.cores.any (fun t => s.released t) then s
    else if 1 ≤ g.fails then s.loseGang id g cROLLBACK_REPEAT g.superstep
    else
      match s.lostUndo id g with
      | some (t, i) =>
        let a := Config.undoAddr t i
        (s.logRecord (homeDie a.toNat) ⟨1, 6, cUNCORRECTABLE, a⟩ 0 (some (s.logical t)) ((s.core t).logLast false)).loseGang id g cUNCORRECTABLE a.toNat
      | none =>
        let mine (n : Nat) : Bool := g.cores.contains n
        let c := s.chan g.chan
        let g1 : Gang := { g with fails := g.fails + 1, rolled := true, arrivals := [], release := s.time }
        let s1 : State :=
          { s.rollCores id g g.cores with
            gangs := tabSet s.gangs id g1
            ords := s.ords.filter (fun p => !(p.2.seam && mine p.2.site))
            lands := s.lands.filter (fun p => !mine p.2.site)
            xmsgs := s.xmsgs.filter (fun p => !mine p.2.src && !mine p.2.dst) }
        s1.putChan g.chan { c with arr0 := c.arr0.filter (fun t => !s.inSuperstep g t), arr1 := [], cnt0 := 0, cnt1 := 0 }

/-- An entry of the undo log of a core spoilt in its memory. -/
def State.spoilUndo (s : State) (site i : Nat) : State :=
  match s.gangOf site with
  | none => s
  | some (id, _) =>
    let u := tabGet s.undo (undoKey id site) ⟨0, []⟩
    match u.entries[i]? with
    | none => s
    | some e => { s with undo := tabSet s.undo (undoKey id site) { u with entries := u.entries.set i { e with bad := true } } }

/-- The granules of local memory that a core's move has written (09 R235), with the bytes that they had or others. -/
def Core.granules (after before : Core) : List Nat :=
  (List.range 4096).filter (fun g =>
    after.wrote.contains g || memBytes before.loc (64 * g) 64 != memBytes after.loc (64 * g) 64
      || before.flips.filter (fun p => p.1 / 8 == g) != after.flips.filter (fun p => p.1 / 8 == g))

/-- The granules that a move from s writes for the first time in the superstep of a core of a protected gang (09 R235), for a key of the
logs. -/
def State.firstWrites (t s : State) (key : Nat) : List Nat :=
  let site := key % 4096
  let u := tabGet s.undo key ⟨0, []⟩
  let here (s : State) : Bool :=
    (s.core site).guarded && (s.gangOf site).any (fun p => undoKey p.1 site == key) && (tabGet s.undo key ⟨0, []⟩).epoch == u.epoch
  if here s && here t then ((t.core site).granules (s.core site)).filter (fun g => !u.entries.any (fun e => e.gran == g)) else []

/-- The old contents of those granules copied to the logs, each a unit of undo logging (09 R235, 14 R362). -/
def State.logUndo (t s : State) : State :=
  s.undo.foldl (fun t p =>
    let site := p.1 % 4096
    (t.firstWrites s p.1).foldl (fun t g =>
      let u := tabGet t.undo p.1 ⟨0, []⟩
      let e : UndoEntry := ⟨g, memRead (s.core site).loc (64 * g) 64, false⟩
      ({ t with undo := tabSet t.undo p.1 { u with entries := u.entries ++ [e] } } : State).charge (siteDie site) 3) t) t

/-- Undo logging that a move needs has no budget left (14 R362). -/
def State.undoStalls (t s : State) : Bool :=
  s.undo.any (fun p => !s.mayCharge (siteDie (p.1 % 4096)) 3 && !(t.firstWrites s p.1).isEmpty)

/-- A double trap is handled (16 R391): the core stops as for a tenant switch, its work settled, the image is written and the launch
ends; or, in M mode, the die stops and the start counts as failed. -/
def State.handleDouble (s : State) (site : Nat) : State :=
  let c := s.core site
  if !c.dbl then s
  else
    let s0 := s.logFor (siteDie site) site ⟨3, 11, c.sp.cause.toNat % 512, c.sp.eval⟩
    if c.mode = 3 then s0.failStart 0 7 (siteDie site) .doubleTrap
    else if !c.settledWork || s.mxArriving site then s
    else
      let s1 := s0.stopCore site ⟨cDOUBLE_TRAP, true, false, false, s.time, none⟩
      let s2 := (s1.writeContext c.vdev site).onCore site Core.freed
      match c.tag with
      | none => s2
      | some t =>
        let s3 := s2.failLaunch (fun p => p.2.vd == c.vdev && p.2.tag == t) cDOUBLE_TRAP c.sp.eval.toNat
        ((s3.tagAdd c.vdev t false).threadEnded c.sp.thr.toNat).unwait c.sp.thr.toNat

/-- PREEMPT has gone unacknowledged for 100 µs outside M mode (16 R401): the core is quiesced. -/
def State.preemptLate (s : State) (site : Nat) : State :=
  let c := s.core site
  if c.preempt && c.run == .running && c.mode != 3 && decide (c.preemptAt + 100000 ≤ s.time) then s.haltCore site cPREEMPT else s

/-- A core quiesced for the reason marked (16 R402). -/
def State.quiesceFor (s : State) (site reason : Nat) : State :=
  if (s.core site).halt = some reason ∧ s.mayQuiesce site then s.quiesceCore site reason else s

/-- A launch without a handler runs on a core (17 R433). -/
def handlerless (c : Core) (p : Nat × Launch) : Bool :=
  p.2.vd == c.vdev && c.tag == some p.2.tag && p.2.state == 3 && !p.2.hv

/-- A core that trapped in a step, of a launch without a handler: it stops, and the launch ends by fault (17 R433).  An
interrupt is no trap. -/
def State.endHandlerless (s : State) (before : State) : State :=
  s.cores.foldl (fun s p =>
    let c := s.core p.1
    if tabGet (before.core p.1).cnt 7 0 = tabGet c.cnt 7 0 || c.sp.cause.toNat == cPREEMPT || !s.launches.any (handlerless c) then s
    else (s.failLaunch (handlerless c) c.sp.cause.toNat c.sp.eval.toNat).onCore p.1 (fun c => { c with run := .stopped })) s

end Sys2Proof.Machine
end

