-- ==== Sys2Proof/Machine/SeamOps.lean ====
section
/-! DEFINITION. The meanings of EXCH and of the events of a superstep gang (09 R219 to R238). -/

namespace Sys2Proof.Machine

/-- R224: Ends the superstep at the seam channel. -/
def execSeam (d a : GOp) (s : State) : Out :=
  s.shared { ctl := true, uses := [rd .A a, wr .D d] } (Core.advance 12) (fun t =>
    t.bodySeam s.cur d ((t.core s.cur).rg .A a))

/-- R226: Sends an exchange message at a fixed cycle. -/
def execXsend (a b : GOp) (cyc : BitVec 16) (ln : BitVec 3) (s : State) : Out :=
  s.shared { uses := [rd .A a, rd .B b] } (Core.advance 12) (fun t =>
    let k := t.core s.cur
    t.bodyXsend s.cur (k.rg .A a) (k.rg .B b) cyc.toNat (8 * (ln.toNat + 1)))

/-- R227: Arms a capture of an exchange message. -/
def execXrecv (a b : GOp) (cyc : BitVec 16) (ln : BitVec 3) (s : State) : Out :=
  s.shared { uses := [rd .A a, rd .B b] } (Core.advance 12) (fun t =>
    let k := t.core s.cur
    t.bodyXrecv s.cur (k.rg .A a) (k.rg .B b) cyc.toNat (8 * (ln.toNat + 1)))

/-- R228: Stalls until an exchange cycle. -/
def execXwait (cyc : BitVec 16) (s : State) : Out :=
  s.shared { uses := [] } (Core.advance 12) (fun t =>
    t.bodyXwait s.cur cyc.toNat)

/-- R229: Ends the exchange phase and reports records. -/
def execXend (s : State) : Out :=
  s.shared { ctl := true, uses := [] } (Core.advance 12) (fun t =>
    t.bodyXend s.cur)

/-- R224: The seam release reaches the core and the exchange phase begins. -/
def execSeamComplete (site : Nat) (s : State) : Out :=
  s.event (s.works site) (fun t =>
    t.seamComplete site)

/-- R226: At the named cycle the message is injected. -/
def execXsendInject (site : Nat) (s : State) : Out :=
  match (s.core site).waiting with
  | .xsend cyc rank src len => s.settle site (Core.advance 12) (fun t =>
      if t.sendBefore site ((t.core site).xbase + cyc) || t.dueBefore site ((t.core site).xbase + cyc) then .wait t (.xsend cyc rank src len) else t.inject site cyc rank src len)
  | _ => .next s

/-- R228: The exchange cycle count reaches the cycle named by a stalled xwait, and the instruction completes. -/
def execXwaitComplete (site : Nat) (s : State) : Out :=
  match (s.core site).waiting with
  | .xwait cyc => (s.reachXwait site cyc).settle site (Core.advance 12) (fun t => t.bodyXwait site cyc)
  | _ => .next s

/-- R229: xend's waits end and its records are checked. -/
def execXendComplete (site : Nat) (s : State) : Out :=
  match (s.core site).waiting with
  | .xend => s.settle site (Core.advance 12) (fun t => t.bodyXend site)
  | _ => .next s

/-- R227: An exchange message arrives, fills an arm or is dropped. -/
def execExchArrival (idx : Nat) (s : State) : Out :=
  s.event (true) (fun t =>
    t.exchArrive idx)

/-- R227: An arm's horizon passes and waiting accesses proceed. -/
def execExchHorizon (site idx : Nat) (s : State) : Out :=
  s.event (s.works site) (fun t =>
    t.exchHorizon site idx)

/-- R237: A consumed uncorrectable error rolls a protected gang back. -/
def execRollback (gang : Nat) (s : State) : Out :=
  s.event (true) (fun t =>
    t.rollGang gang)

/-- R231: The governor changes island dividers while a seam is withheld. -/
def execDividerChange (islands : List Nat) (div : Nat) (s : State) : Out :=
  s.event (true) (fun t =>
    t.setDividers islands div)

end Sys2Proof.Machine
end

