-- ==== Sys2Proof/Machine/Maint.lean ====
section
/-! DEFINITION. Writing back and dropping level-one lines (16 R408), and testing the error path (16 R412). -/

namespace Sys2Proof.Machine

/-- The slices of a cluster hold the sector. -/
def State.sliceHolding (s : State) (site k : Nat) : Holding :=
  (s.sector k).holding (agentHome (homeDie (64 * k))) (agentL1 site (64 * k))

/-- What l1wb (inv false) or l1inv sends of a sector (16 R408). -/
def State.maintMove (s : State) (site k : Nat) (inv : Bool) : Option TokMove :=
  let h := s.sliceHolding site k
  let home := agentHome (homeDie (64 * k))
  if h.count = 0 then none
  else if inv then some ⟨h.agent, home, h.count, h.owner, h.owner⟩
  else if h.owner then some ⟨h.agent, home, 1, true, true⟩
  else none

/-- The sectors that the table lists from pa on, n bytes. -/
def State.listedSectors (s : State) (pa n : Nat) : List Nat :=
  (s.sectors.filter (fun p => decide (pa / 64 ≤ p.1) && decide (64 * p.1 < pa + n))).map (fun p => p.1)

/-- The type-H lines of a run that the cluster's slices hold: written back, or given up. -/
def State.maintHost (s : State) (site pa n : Nat) (inv : Bool) : State :=
  { s with hostLines := s.hostLines.map (fun p =>
      let slice := agentL1 site (128 * p.1)
      if decide (pa / 128 ≤ p.1) && decide (128 * p.1 < pa + n) && p.2.slices.contains slice then
        (p.1, if inv then ⟨p.2.slices.filter (· != slice), false⟩ else { p.2 with excl := false })
      else p) }

/-- The tokens sent for one page, with the numbers of their messages. -/
def State.maintSectors (s : State) (site : Nat) (inv : Bool) : List Nat → State × List Nat
  | [] => (s, [])
  | k :: t =>
    match s.maintMove site k inv with
    | none => s.maintSectors site inv t
    | some m =>
      let id := tabFree s.msgs
      match (s.sendTok k m.src (.eng site 5) m).maintSectors site inv t with
      | (s1, ids) => (s1, id :: ids)

/-- The pages of [va, va + n), in ascending order, a number of them at most (16 R408): types D and F are skipped.  A walk that must
wait leaves the rest of the range to do. -/
def State.maintPages (s : State) (site va n : Nat) (inv : Bool) (ids : List Nat) : Nat → SRes
  | 0 => if ids.isEmpty then .done s else .wait s (.tokens ids 0 0 inv)
  | fuel + 1 =>
    if n = 0 then (if ids.isEmpty then .done s else .wait s (.tokens ids 0 0 inv))
    else
      let first := va % 2 ^ 64
      let page := first / 65536 * 65536
      let len := min n (65536 - first % 65536)
      match s.translate site first with
      | (s1, .fault cause) => .trap s1 ⟨cause, BitVec.ofNat 64 page⟩
      | (s1, .moved) =>
        match s1.refused site 5 page with
        | .trap s2 e => .trap s2 e
        | .wait s2 => .wait s2 (.tokens ids first n inv)
        | .ok s2 _ => .wait s2 (.tokens ids first n inv)
      | (s1, .blocked) => .wait s1 (.tokens ids first n inv)
      | (s1, .leaf e) =>
        let pa := e.pa first
        match pteType e.pte with
        | 2 => s1.maintPages site (first + len) (n - len) inv ids fuel
        | 4 => s1.maintPages site (first + len) (n - len) inv ids fuel
        | 3 => (s1.maintHost site pa len inv).maintPages site (first + len) (n - len) inv ids fuel
        | _ =>
          match s1.maintSectors site inv (s1.listedSectors pa len) with
          | (s2, more) => s2.maintPages site (first + len) (n - len) inv (ids ++ more) fuel

/-- l1wb and l1inv (16 R408), their mode checked: then the wait for every token sent. -/
def State.bodyL1 (s : State) (site : Nat) (inv : Bool) (a b : DWord) : SRes :=
  match (s.core site).wait with
  | .tokens ids va n inv =>
    let left := ids.filter (fun i => (tabGet? s.msgs i).isSome)
    if !left.isEmpty then .wait s (.tokens left va n inv)
    else s.maintPages site va n inv [] 65538
  | _ =>
    match (s.core site).superCheck a false with
    | some e => .trap s e
    | none => if 2 ^ 32 < b.toNat then .trap s ⟨cRANGE_BAD, b⟩ else s.maintPages site a.toNat b.toNat inv [] 65538

/-- Stored bits of a local word flipped, its check bits kept (16 R412). -/
def Core.flipBits (c : Core) (a : Nat) (mask : DWord) : Core :=
  let m := tabGet c.flips (a / 8) 0 ^^^ mask
  { c with
    loc := memWrite64 c.loc a (memRead64 c.loc a ^^^ mask)
    flips := if m = 0 then tabDel c.flips (a / 8) else tabSet c.flips (a / 8) m }

/-- The core runs a superstep of its protected gang again, after a rollback (09 R237). -/
def State.rerun (s : State) (site : Nat) : Bool :=
  let c := s.core site
  c.guarded && s.gangs.any (fun p => p.2.cores.contains site && p.2.vd == c.vdev && p.2.rolled)

/-- errlog (16 R412), its mode checked.  A superstep that runs again reads the restored word: the bits are not flipped a second time
(log 93). -/
def State.bodyErrlog (s : State) (site op : Nat) (a b : DWord) : SRes :=
  if op = 0 then .done (s.logFor (siteDie (site)) (site) ⟨0, 12, b.toNat % 2 ^ 9, a⟩)
  else
    let c := s.core site
    match localCheck c.xbAddr a.toInt 8 with
    | some e => .trap s e
    | none =>
      if c.localBusy a.toInt 8 then .wait s .busy
      else .done (if s.rerun site then s else s.putCore site (c.flipBits a.toNat b))

end Sys2Proof.Machine
end

