-- ==== Sys2Proof/Machine/SysxOps.lean ====
section
/-! DEFINITION. The meanings of SYSX and of the events of traps, pre-emption and the scrub (16). -/

namespace Sys2Proof.Machine

/-- R408: Writes back owner tokens of a range to the home. -/
def execL1wb (a b : GOp) (s : State) : Out :=
  s.shared { mode := 1, uses := [rd .A a, rd .B b] } (Core.advance 12) (fun t =>
    let k := t.core s.cur
    t.bodyL1 s.cur false (k.rg .A a) (k.rg .B b))

/-- R408: Returns all tokens of a range and drops the lines. -/
def execL1inv (a b : GOp) (s : State) : Out :=
  s.shared { mode := 1, uses := [rd .A a, rd .B b] } (Core.advance 12) (fun t =>
    let k := t.core s.cur
    t.bodyL1 s.cur true (k.rg .A a) (k.rg .B b))

/-- R409: Drops translations locally or starts a package shootdown. -/
def execTlbinv (scope : BitVec 3) (a b : GOp) (s : State) : Out :=
  s.shared { mode := 3, uses := [rd .A a, rd .B b] } (Core.advance 12) (fun t =>
    let k := t.core s.cur
    t.bodyTlbinv s.cur scope.toNat (k.rg .A a) (k.rg .B b))

/-- R410: Drops RLB entries locally or package-wide. -/
def execRlbinv (scope : BitVec 3) (a : GOp) (s : State) : Out :=
  s.shared { mode := 3, uses := [rd .A a] } (Core.advance 12) (fun t =>
    t.bodyRlbinv s.cur scope.toNat ((t.core s.cur).rg .A a))

/-- R399: Reads pre-emption state or acknowledges a pre-emption. -/
def execSnapctl (d : GOp) (op : BitVec 1) (s : State) : Out :=
  s.shared { mode := 1, uses := [wr .D d] } (Core.advance 12) (fun t =>
    t.bodySnapctl s.cur d op.toNat)

/-- R412: Appends a log record or flips stored data bits. -/
def execErrlog (a b : GOp) (op : BitVec 1) (s : State) : Out :=
  s.shared { mode := 1, uses := [rd .A a, rd .B b] } (Core.advance 12) (fun t =>
    let k := t.core s.cur
    t.bodyErrlog s.cur op.toNat (k.rg .A a) (k.rg .B b))

/-- R408: Every token that l1wb or l1inv sent has arrived. -/
def execL1wbComplete (site : Nat) (s : State) : Out :=
  match (s.core site).waiting with
  | .tokens _ _ _ _ => s.settle site (Core.advance 12) (fun t => t.bodyL1 site false 0 0)
  | _ => .next s

/-- R391: The cluster controller saves the core and ends its launch. -/
def execDoubleTrapHandling (site : Nat) (s : State) : Out :=
  s.event (s.works site) (fun t =>
    t.handleDouble site)

/-- R390: A pending PREEMPT is taken at a quiet instruction boundary. -/
def execPreemptInterrupt (site : Nat) (s : State) : Out :=
  s.event (s.works site && (s.core site).mayInterrupt) (fun t =>
    t.takeInterrupt site)

/-- R401: 100 µs without acknowledgement quiesces the core. -/
def execPreemptTimeout (site : Nat) (s : State) : Out :=
  s.event (s.works site) (fun t =>
    t.preemptLate site)

/-- R402: Issue stops without a handler and the state block is written. -/
def execQuiesce (site reason : Nat) (s : State) : Out :=
  s.event (s.works site) (fun t =>
    t.quiesceFor site reason)

/-- R400: Once all cores stopped, the controller copies context images out. -/
def execContextSave (vd region : Nat) (s : State) : Out :=
  s.event (decide (vd < 64) && decide (region < 64)) (fun t =>
    t.scheduled (.ok (t.saveRegion vd region) 0))

/-- R397: A context image is restored and the core resumes. -/
def execContextRestore (site : Nat) (s : State) : Out :=
  s.event (s.works site) (fun t =>
    t.scheduled (.ok (t.restoreCore site) 0))

/-- R403: A scrub engine reads, corrects or poisons a sector. -/
def execScrubSector (sector : Nat) (s : State) : Out :=
  s.event (decide (sector < 2 ^ 34)) (fun t =>
    t.scrub sector)

end Sys2Proof.Machine
end

