-- ==== Sys2Proof/Machine/ThreadOps.lean ====
section
/-! DEFINITION. The meanings of THREAD, align and wfi, and of dispatch and the events of stitches (05 R127, R140; 08 R178 to R206). -/

namespace Sys2Proof.Machine

/-- R191: Starts a thread and queues its handle. -/
def execSpawn (d a b : GOp) (s : State) : Out :=
  s.shared { uses := [rd .A a, rd .B b, wr .D d] } (Core.advance 12) (fun t =>
    let k := t.core s.cur
    t.bodySpawn s.cur d (k.rg .A a) (k.rg .B b))

/-- R192: Checks, waits and retires the thread. -/
def execEndT (s : State) : Out :=
  s.shared { ctl := true, uses := [] } id (fun t =>
    t.bodyEnd s.cur)

/-- R193: Suspends the thread to the tail of its queue. -/
def execYieldT (s : State) : Out :=
  s.shared { ctl := true, uses := [] } (Core.advance 12) (fun t =>
    t.bodyYield s.cur)

/-- R194: Reads the handle, frame or join signal. -/
def execSelfT (d : GOp) (sel : BitVec 2) (s : State) : Out :=
  s.local_ { uses := [wr .D d] } (Core.advance 12) (fun k =>
    .done (k.wg .D d (if sel = 0 then k.sp.thr else if sel = 1 then k.cont.frame else k.cont.sig) 1))

/-- R205: Waits to form a stitch with a mask of cores. -/
def execStitch (d a : GOp) (limit : BitVec 12) (s : State) : Out :=
  s.shared { uses := [rd .A a, wr .D d] } (Core.advance 12) (fun t =>
    t.bodyStitch s.cur d ((t.core s.cur).rg .A a) limit.toNat)

/-- R206: Leaves the stitch. -/
def execUnstitch (s : State) : Out :=
  s.shared { uses := [] } (Core.advance 12) (fun t =>
    .done (t.unstitch s.cur))

/-- R127: A stitch member stalls to gather with its former stitch. -/
def execAlign (count : BitVec 12) (s : State) : Out :=
  s.shared { uses := [] } (Core.advance 4) (fun t =>
    t.bodyAlign s.cur count.toNat)

/-- R140: Stalls until an interrupt is pending. -/
def execWfi (s : State) : Out :=
  s.shared { uses := [] } (Core.advance 4) (fun t =>
    t.bodyWfi s.cur)

/-- R140: A wfi ends when an interrupt becomes pending. -/
def execWfiWake (site : Nat) (s : State) : Out :=
  match (s.core site).waiting with
  | .wfi => s.settle site (Core.advance 4) (fun t => t.bodyWfi site)
  | _ => .next s

/-- R127: An align stall ends and the gathered cores re-form a stitch. -/
def execAlignGather (sites : List Nat) (s : State) : Out :=
  s.event (sites.all s.works) (fun t =>
    t.gatherAlign sites)

/-- R205: Every core of the mask waits at the stitch and the stitch forms. -/
def execStitchForm (site : Nat) (s : State) : Out :=
  s.event (s.works site && (s.core site).run == .running) (fun t =>
    t.formStitch site)

/-- R205: The stitch limit passes and the core continues alone. -/
def execStitchLimitExpiry (site : Nat) (s : State) : Out :=
  s.event (s.works site && (s.core site).run == .running) (fun t =>
    t.stitchExpire site)

/-- R187: An idle serving core takes a handle and dispatches its thread. -/
def execDispatch (site : Nat) (s : State) : Out :=
  s.event (s.works site) (fun t =>
    t.serve site)

end Sys2Proof.Machine
end

