-- ==== Sys2Proof/Machine/Vector.lean ====
section
/-! DEFINITION. The results of the vector instructions as functions of their operands (07 R155 to R176). -/

namespace Sys2Proof.Machine

/-- The elements of a register, by its words: 64-bit elements are whole words, 32-bit positions are lanes (07 R155). -/
def elemAt (t : BitVec 4) (word : Nat → DWord) (e : Nat) : DWord :=
  if Ty.is64 t then word e else halfOf (word (e / 2)) e

/-- An element as its lane holds it: signed narrow integers sign-extended to 32 bits, others zero above (07 R155). -/
def laneForm (t : BitVec 4) (x : DWord) : DWord :=
  match t.toNat with
  | 0 => ((x.setWidth 8).signExtend 32).setWidth 64
  | 1 => ((x.setWidth 16).signExtend 32).setWidth 64
  | 3 => x
  | 7 => x
  | 11 => x
  | _ => lowBits (if tyWidth t < 32 then tyWidth t else 32) x

/-- Words of a register from its positions: none leaves a position as it is (07 R157).  n is the number of words. -/
def vecWords (is64 : Bool) (n : Nat) (f : Nat → Option DWord) : List (DWord × DWord) :=
  (List.range n).map (fun j =>
    if is64 then
      match f j with
      | some x => (x, 0)
      | none => (0, 0xFFFFFFFFFFFFFFFF)
    else
      let lo := f (2 * j)
      let hi := f (2 * j + 1)
      ((lo.getD 0 &&& 0xFFFFFFFF) ||| (hi.getD 0 <<< 32),
        (if lo.isSome then 0 else 0xFFFFFFFF) ||| (if hi.isSome then 0 else 0xFFFFFFFF00000000)))

/-- What an inactive position is written with: zero, or nothing (07 R157). -/
def inactive (mz : Bool) : Option DWord := if mz then some 0 else none

/-- A function of a position under the mask (07 R157). -/
def masked (act : Nat → Bool) (mz : Bool) (f : Nat → DWord) (e : Nat) : Option DWord :=
  if act e then some (f e) else inactive mz

/-- Lane results without flags: VALU, VPERM, the sign operations. -/
def bodyLanes (t : BitVec 4) (mz : Bool) (mk : MReg) (d : VReg) (lat : Nat) (f : Core → Nat → DWord) (c : Core) :
    CoreRes :=
  .done (c.wv .D d (vecWords (Ty.is64 t) 16 (masked (c.govern mk) mz (f c))) lat)

/-- The active positions below n with the flags of each. -/
def activeFlags (act : Nat → Bool) (n : Nat) (fl : Nat → Flags) : List (Nat × Flags) :=
  ((List.range n).filter act).map (fun e => (e, fl e))

/-- Lane results with flags: all of them, or FP_TRAP and none (07 R160, 04 R104, R105). -/
def bodyFpLanes (t : BitVec 4) (n : Nat) (mz : Bool) (mk : MReg) (d : VReg) (lat : Nat) (f : Core → Nat → FRes)
    (c : Core) : CoreRes :=
  match c.raiseAll lat (activeFlags (c.govern mk) n (fun e => (f c e).flags)) with
  | .error e => .trap c e.cause e.eval
  | .ok c' => .done (c'.wv .D d (vecWords (Ty.is64 t) 16 (masked (c.govern mk) mz (fun e => (f c e).bits))) lat)

/-- Element e of the vector operand of a field. -/
def Core.elem (c : Core) (t : BitVec 4) (f : Fld) (n : VReg) (e : Nat) : DWord := elemAt t (c.vword f n) e

/-- The functions of VALU on 32-bit lanes by their SUB; t = 6 compares unsigned (07 R161). -/
def valuFn (f : Nat) (t : BitVec 4) (a b : DWord) : DWord :=
  let x : BitVec 32 := a.setWidth 32
  let y : BitVec 32 := b.setWidth 32
  let sh := y.toNat % 32
  let less := if t = 6 then x.ult y else x.slt y
  let r : BitVec 32 := match f with
    | 0 => x + y
    | 1 => x - y
    | 2 => x * y
    | 3 => x &&& y
    | 4 => x ||| y
    | 5 => x ^^^ y
    | 6 => x <<< sh
    | 7 => x >>> sh
    | 8 => x.sshiftRight sh
    | 9 => if less then x else y
    | _ => if less then y else x
  r.setWidth 64

/-- The binary and unary functions of VFP by their SUB (07 R162, R163). -/
def vfpFn (f : Nat) (t : BitVec 4) (rm : RMode) (a b c : DWord) : FRes :=
  match f with
  | 0 => fpAdd t rm a b
  | 1 => fpSub t rm a b
  | 2 => fpMul t rm a b
  | 3 => fpDiv t rm a b
  | 4 => fpSqrt t rm a
  | 5 => fpFma t rm a b c
  | 6 => fpFms t rm a b c
  | 7 => fpFnma t rm a b c
  | 8 => fpMin t a b
  | 9 => fpMax t a b
  | 10 => ⟨lowBits (tyWidth t - 1) a, 0⟩
  | _ => ⟨lowBits (tyWidth t) a ^^^ (1#64 <<< (tyWidth t - 1)), 0⟩

/-- The integer compares of VCMP by their SUB (07 R164). -/
def vcmpInt (f : Nat) (t : BitVec 4) (a b : DWord) : Bool :=
  let x : BitVec 32 := a.setWidth 32
  let y : BitVec 32 := b.setWidth 32
  let less := if t = 6 then x.ult y else x.slt y
  match f with
  | 0 => x == y
  | 1 => less
  | 2 => less || x == y
  | _ => x.ult y

/-- The bits of 32 positions as a word. -/
def bitsOf (f : Nat → Bool) : DWord :=
  BitVec.ofNat 64 ((List.range 32).foldl (fun s e => s + (if f e then 2 ^ e else 0)) 0)

/-- What a mask result writes: the active positions below n (07 R157), zero elsewhere (07 R164). -/
def maskWord (n : Nat) (act f : Nat → Bool) : DWord := bitsOf (fun e => decide (e < n) && act e && f e)

/-- The positions that a mask result leaves unwritten: the inactive ones below n with MZ = 0 (07 R157). -/
def maskKeep (n : Nat) (act : Nat → Bool) (mz : Bool) : DWord := bitsOf (fun e => decide (e < n) && !act e && !mz)

/-- A mask result of an integer compare or of a mask operation. -/
def bodyMask (n : Nat) (mz : Bool) (mk d : MReg) (f : Core → Nat → Bool) (c : Core) : CoreRes :=
  .done (c.wm .D d (maskWord n (c.govern mk) (f c)) (maskKeep n (c.govern mk) mz) 2)

/-- A mask result of a floating-point compare (07 R164). -/
def bodyFpMask (k : FCmp) (t : BitVec 4) (mz : Bool) (mk d : MReg) (a b : VReg) (c : Core) : CoreRes :=
  let n := Ty.elems t
  let r := fun e => fpCmp k t (c.elem t .A a e) (c.elem t .B b e)
  match c.raiseAll 4 (activeFlags (c.govern mk) n (fun e => (r e).2)) with
  | .error e => .trap c e.cause e.eval
  | .ok c' => .done (c'.wm .D d (maskWord n (c.govern mk) (fun e => (r e).1)) (maskKeep n (c.govern mk) mz) 4)

/-- mpop and mfirst: all 32 bits, from the bits set in A and in the governing mask (07 R165). -/
def mpopFn (x : DWord) : DWord := BitVec.ofNat 64 (2 ^ popcount x - 1)
def mfirstFn (x : DWord) : DWord := if x = 0 then 0 else 1#64 <<< (ctz64 x).toNat
def bodyMaskAll (mk d a : MReg) (f : DWord → DWord) (c : Core) : CoreRes :=
  .done (c.wm .D d (f (c.maskBits .A a &&& c.maskBits .M mk)) 0 2)

/-- vcvt by position (07 R166): 64-bit and 32-lane types map position to position; from a 64-bit to a 32-lane type,
positions 16 to 31 are written zero whatever the mask. -/
def bodyVcvt (t1 t2 : BitVec 4) (rm : BitVec 3) (sat mz : Bool) (mk : MReg) (d a : VReg) (c : Core) : CoreRes :=
  let n := if Ty.is64 t1 || Ty.is64 t2 then 16 else 32
  let r := fun e => convert t1 t2 (c.rmode rm) sat (c.elem t2 .A a e)
  match c.raiseAll 4 (activeFlags (c.govern mk) n (fun e => (r e).flags)) with
  | .error e => .trap c e.cause e.eval
  | .ok c' =>
    .done (c'.wv .D d (vecWords (Ty.is64 t1) 16 (fun e =>
      if n ≤ e then some 0 else masked (c.govern mk) mz (fun e => laneForm t1 (r e).bits) e)) 4)

/-- Bits lo to lo + n - 1 of a word replaced. -/
def putBits (x : DWord) (lo n : Nat) (v : Nat) : DWord :=
  let k := ones n <<< lo
  (x &&& ~~~k) ||| ((BitVec.ofNat 64 v <<< lo) &&& k)

/-- The 128 bytes of a register as one number, lane 0 lowest. -/
def vecNat (word : Nat → DWord) : Nat := (List.range 16).foldl (fun s j => s + (word j).toNat * 2 ^ (64 * j)) 0

/-- vpack: 64 elements packed densely (07 R167).  An inactive element is code zero or left as it is; bytes that no
element occupies are zero. -/
def bodyVpack (t1 t2 : BitVec 4) (rm : BitVec 3) (sat mz : Bool) (mk : MReg) (d a b : VReg) (c : Core) : CoreRes :=
  let w := tyWidth t1
  let src := fun j => if j < 32 then halfOf (c.vword .A a (j / 2)) j else halfOf (c.vword .B b ((j - 32) / 2)) j
  let r := fun j => packConvert t1 t2 (c.rmode rm) sat (src j)
  let act := fun j => c.govern mk (j % 32)
  match c.raiseAll 4 (activeFlags act 64 (fun j => (r j).flags)) with
  | .error e => .trap c e.cause e.eval
  | .ok c' =>
    let keep := (List.range 64).foldl (fun s j => if act j || mz then s else s + (2 ^ w - 1) * 2 ^ (w * j)) 0
    let val := (List.range 64).foldl (fun s j => if act j then s + (r j).bits.toNat % 2 ^ w * 2 ^ (w * j) else s) 0
    .done (c'.wv .D d ((List.range 16).map (fun j =>
      (BitVec.ofNat 64 (val / 2 ^ (64 * j)), BitVec.ofNat 64 (keep / 2 ^ (64 * j))))) 4)

/-- vunpack: 64 packed elements into two registers (07 R168). -/
def bodyVunpack (t1 t2 : BitVec 4) (mz : Bool) (mk : MReg) (d a : VReg) (c : Core) : CoreRes :=
  let w := tyWidth t2
  let x := vecNat (c.vword .A a)
  let r := fun j => unpackConvert t1 t2 (BitVec.ofNat 64 (x / 2 ^ (w * j) % 2 ^ w))
  let act := fun j => c.govern mk (j % 32)
  match c.raiseAll 4 (activeFlags act 64 (fun j => (r j).flags)) with
  | .error e => .trap c e.cause e.eval
  | .ok c' => .done (c'.wv .D d (vecWords false 32 (masked act mz (fun j => laneForm t1 (r j).bits))) 4)

/-- One level of ReduceTree: pairs combined, an empty position passing its partner through (04 R116).  Answers the
values and the flags raised, attributed to the lowest position of the range covered (07 R169). -/
def reduceLevel (op : DWord → DWord → FRes) (span : Nat) : Nat → List (Option DWord) →
    List (Option DWord) × List (Nat × Flags)
  | i, x :: y :: t =>
    let rest := reduceLevel op span (i + 1) t
    match x, y with
    | some a, some b => (some (op a b).bits :: rest.1, (i * span, (op a b).flags) :: rest.2)
    | none, y => (y :: rest.1, rest.2)
    | x, none => (x :: rest.1, rest.2)
  | _, xs => (xs, [])

/-- ReduceTree over k levels (04 R116). -/
def reduceTree (op : DWord → DWord → FRes) : Nat → Nat → List (Option DWord) → Option DWord × List (Nat × Flags)
  | 0, _, xs => (xs.headD none, [])
  | k + 1, span, xs =>
    let l := reduceLevel op (2 * span) 0 xs
    let r := reduceTree op k (2 * span) l.1
    (r.1, l.2 ++ r.2)

/-- The result of a reduction with no active position (04 R116): +0, -infinity or +infinity. -/
def reduceEmpty (k : Nat) (t : BitVec 4) : DWord :=
  match k with
  | 0 => 0
  | 1 => infBits (fmtOf t) true
  | _ => infBits (fmtOf t) false

/-- vredadd, vredmax and vredmin (07 R169): k = 0, 1, 2. -/
def bodyReduce (k : Nat) (t : BitVec 4) (rm : BitVec 3) (mk : MReg) (d : GOp) (a : VReg) (c : Core) : CoreRes :=
  let n := Ty.elems t
  let op := fun x y => match k with
    | 0 => fpAdd t (c.rmode rm) x y
    | 1 => fpMax t x y
    | _ => fpMin t x y
  let xs := (List.range n).map (fun e => if c.govern mk e then some (fpBits t (c.elem t .A a e)) else none)
  let tree := reduceTree op (if n = 16 then 4 else 5) 1 xs
  let own := activeFlags (c.govern mk) n (fun e => nvIf (fp t (c.elem t .A a e)).isSNaN)
  let r := match tree.1 with
    | none => reduceEmpty k t
    | some x => if (fp t x).isNaN then canonNaN (fmtOf t) else x
  match c.raiseAll 4 (own ++ tree.2) with
  | .error e => .trap c e.cause e.eval
  | .ok c' => .done (c'.wg .D d r 4)

/-- vredaddi: the sum modulo 2^64 (07 R169). -/
def bodyRedAddI (t : BitVec 4) (mk : MReg) (d : GOp) (a : VReg) (c : Core) : CoreRes :=
  let ext := fun (x : DWord) =>
    if t = 0 ∨ t = 2 then sext32 x else x
  .done (c.wg .D d (((List.range (Ty.elems t)).filter (c.govern mk)).foldl (fun s e => s + ext (c.elem t .A a e)) 0) 2)

/-- The parts of one complex product with its addends, each a list of exact terms settled and rounded once
(07 R172, R173).  A term is a product, given by its factors with the sign to apply, or an addend. -/
structure Term where
  x : FV
  y : FV
  neg : Bool
  deriving DecidableEq, Repr

/-- The number 1, so that an addend is a product. -/
def fvOne : FV := .fin false 1 0

/-- The term is 0 times infinity. -/
def Term.invalid (u : Term) : Bool := (u.x.isInf && u.y.isZero) || (u.x.isZero && u.y.isInf)
/-- The sign of the term. -/
def Term.sign (u : Term) : Bool := (u.x.sign != u.y.sign) != u.neg
/-- The term is infinite. -/
def Term.isInf (u : Term) : Bool := u.x.isInf || u.y.isInf
/-- The exact value of a finite term. -/
def Term.dyadic (u : Term) : Dyadic := let p := u.x.dyadic.mul u.y.dyadic; if u.neg then p.neg else p
/-- The term is a zero. -/
def Term.isZero (u : Term) : Bool := u.x.isZero || u.y.isZero

/-- One part of a complex result, settled in the order of 07 R173. -/
def complexPart (f : Fmt) (rm : RMode) (us : List Term) : FRes :=
  let anyNaN := us.any (fun u => u.x.isNaN || u.y.isNaN)
  let anySNaN := us.any (fun u => u.x.isSNaN || u.y.isSNaN)
  let anyInvalid := us.any Term.invalid
  let pInf := us.any (fun u => u.isInf && !u.sign)
  let nInf := us.any (fun u => u.isInf && u.sign)
  if anyNaN then ⟨canonNaN f, nvIf (anySNaN || anyInvalid)⟩
  else if anyInvalid || (pInf && nInf) then ⟨canonNaN f, flagNV⟩
  else if pInf || nInf then ⟨infBits f nInf, 0⟩
  else
    let sum := us.foldl (fun s u => s.add u.dyadic) ⟨0, 0⟩
    let zneg :=
      if us.all (fun u => u.isZero && u.sign) then true
      else if us.all (fun u => u.isZero && !u.sign) then false
      else rm == 3
    roundDyadic f rm false sum zneg

/-- The kinds of complex product: A*B, A*B + C, A times the conjugate of B (07 R172). -/
inductive CKind where
  | mul | fma | mulj
  deriving DecidableEq, Repr

/-- Position p of a complex result: even p the real part of element p / 2, odd p the imaginary part (07 R172). -/
def complexLane (k : CKind) (f : Fmt) (rm : RMode) (a b c : Nat → FV) (p : Nat) : FRes :=
  let e := p / 2
  let ar := a (2 * e)
  let ai := a (2 * e + 1)
  let br := b (2 * e)
  let bi := b (2 * e + 1)
  if p % 2 = 0 then
    match k with
    | .mul => complexPart f rm [⟨ar, br, false⟩, ⟨ai, bi, true⟩]
    | .mulj => complexPart f rm [⟨ar, br, false⟩, ⟨ai, bi, false⟩]
    | .fma => complexPart f rm [⟨ar, br, false⟩, ⟨ai, bi, true⟩, ⟨c p, fvOne, false⟩]
  else
    match k with
    | .mul => complexPart f rm [⟨ar, bi, false⟩, ⟨ai, br, false⟩]
    | .mulj => complexPart f rm [⟨ai, br, false⟩, ⟨ar, bi, true⟩]
    | .fma => complexPart f rm [⟨ar, bi, false⟩, ⟨ai, br, false⟩, ⟨c p, fvOne, false⟩]

/-- A complex multiply (07 R172): the flags of both parts of an active element are attributed to the element. -/
def bodyComplex (k : CKind) (t : BitVec 4) (rm : BitVec 3) (mz : Bool) (mk : MReg) (d a b x : VReg) (c : Core) :
    CoreRes :=
  let lane := fun fld n p => fp t (halfOf (c.vword fld n (p / 2)) p)
  let r := fun p => complexLane k (fmtOf t) (c.rmode rm) (lane .A a) (lane .B b) (lane .C x) p
  match c.raiseAll 6 (activeFlags (c.govern mk) 16 (fun e => (r (2 * e)).flags ||| (r (2 * e + 1)).flags)) with
  | .error e => .trap c e.cause e.eval
  | .ok c' => .done (c'.wv .D d (vecWords false 16 (masked (fun p => c.govern mk (p / 2)) mz (fun p => (r p).bits))) 6)

/-- vcconj: bits copied, the sign of the imaginary part inverted (07 R172). -/
def bodyConj (t : BitVec 4) (mz : Bool) (mk : MReg) (d a : VReg) (c : Core) : CoreRes :=
  let w := tyWidth t
  let r := fun p =>
    let x := lowBits w (halfOf (c.vword .A a (p / 2)) p)
    if p % 2 = 0 then x else x ^^^ (1#64 <<< (w - 1))
  .done (c.wv .D d (vecWords false 16 (masked (fun p => c.govern mk (p / 2)) mz r)) 6)

/-- The element size in bytes of VLOCAL (07 R170, R174). -/
def elemBytes (t : BitVec 4) : Nat := if Ty.is64 t then 8 else 4

/-- The addresses of a vector local access (07 R174): contiguous or strided. -/
def vldlAddr (t : BitVec 4) (a b : GOp) (off : BitVec 32) (c : Core) (e : Nat) : Int :=
  let base := effAddr (c.rg .A a) off.toInt
  if b = ⟨false, 0⟩ then base + (e * elemBytes t : Nat)
  else base + (e : Int) * (c.rg .B b).toInt

/-- The addresses of a gather or scatter: unsigned 32-bit offsets (07 R174). -/
def gathAddr (a : GOp) (b : VReg) (off : BitVec 32) (c : Core) (e : Nat) : Int :=
  effAddr (c.rg .A a) off.toInt + ((halfOf (c.vword .B b (e / 2)) e).toNat : Int)

/-- The checks of 07 R175 over positions in ascending order. -/
def vlocalCheck (z : Nat) (readsWord : Bool) (addr : Nat → Int) : List Nat → Core → Core × Option Exc
  | [], c => (c, none)
  | e :: t, c =>
    match localCheck c.xbAddr (addr e) z with
    | some x => (c, some x)
    | none =>
      match c.eccWords (if readsWord then [(addr e).toNat / 8] else []) with
      | (c', some x) => (c', some x)
      | (c', none) => vlocalCheck z readsWord addr t c'

/-- A vector load (07 R175). -/
def bodyVload (t : BitVec 4) (mz : Bool) (mk : MReg) (d : VReg) (addr : Core → Nat → Int) (c : Core) : CoreRes :=
  let z := elemBytes t
  match vlocalCheck z true (addr c) ((List.range (Ty.elems t)).filter (c.govern mk)) c with
  | (c', some e) => .trap c' e.cause e.eval
  | (c', none) =>
    .done (c'.wv .D d (vecWords (Ty.is64 t) 16
      (masked (c.govern mk) mz (fun e => BitVec.ofNat 64 (memRead c'.loc (addr c e).toNat z)))) 4)

/-- Stores in ascending order of position (07 R176). -/
def storeElems (z : Nat) (addr : Nat → Int) (x : Nat → DWord) : List Nat → Core → Core
  | [], c => c
  | e :: t, c => storeElems z addr x t (c.pokeLocal (addr e).toNat z ((x e).toNat % 2 ^ (8 * z)))

/-- A vector store (07 R175, R176). -/
def bodyVstore (t : BitVec 4) (mk : MReg) (d : VReg) (addr : Core → Nat → Int) (c : Core) : CoreRes :=
  let z := elemBytes t
  let act := (List.range (Ty.elems t)).filter (c.govern mk)
  match vlocalCheck z (decide (z < 8)) (addr c) act c with
  | (c', some e) => .trap c' e.cause e.eval
  | (c', none) => .done (storeElems z (addr c) (c.elem t .D d) act c')

end Sys2Proof.Machine
end

