-- ==== Sys2Proof/Machine/VectorOps.lean ====
section
/-! DEFINITION. The meanings of the vector families (07 R155 to R177). -/

namespace Sys2Proof.Machine

/-- Vector source, vector destination and governing mask of an instruction (07 R158). -/
def vr (f : Fld) (n : VReg) : Use := ⟨f, .v n, true⟩
def vw (f : Fld) (n : VReg) : Use := ⟨f, .v n, false⟩
def gov (mk : MReg) : Use := ⟨.M, .m mk, true⟩

/-- The stride register of vldl and vstl, an operand in the strided form alone (07 R174). -/
def strideUse (b : GOp) : List Use := if b = ⟨false, 0⟩ then [] else [rd .B b]

/-- The bytes that a vector local access touches. -/
def vlocalTouch (t : BitVec 4) (mk : MReg) (addr : Core → Nat → Int) (c : Core) : List (Int × Nat) :=
  ((List.range (Ty.elems t)).filter (c.govern mk)).map (fun e => (addr c e, elemBytes t))

/-- VALU (07 R161). -/
def valu (f : Nat) (t : BitVec 4) (mz : Bool) (mk : MReg) (d a b : VReg) (s : State) : Out :=
  s.local_ { uses := [vr .A a, vr .B b, vw .D d, gov mk] } (Core.advance 12)
    (bodyLanes t mz mk d 2 (fun c e => valuFn f t (c.elem t .A a e) (c.elem t .B b e)))

/-- VFP with one, two and three sources (07 R163). -/
def vfp1 (f : Nat) (t : BitVec 4) (rm : BitVec 3) (mz : Bool) (mk : MReg) (d a : VReg) (s : State) : Out :=
  s.local_ { rm := rm, uses := [vr .A a, vw .D d, gov mk] } (Core.advance 12)
    (bodyFpLanes t (Ty.elems t) mz mk d 4 (fun c e => vfpFn f t (c.rmode rm) (c.elem t .A a e) 0 0))
def vfp2 (f : Nat) (t : BitVec 4) (rm : BitVec 3) (mz : Bool) (mk : MReg) (d a b : VReg) (s : State) : Out :=
  s.local_ { rm := rm, uses := [vr .A a, vr .B b, vw .D d, gov mk] } (Core.advance 12)
    (bodyFpLanes t (Ty.elems t) mz mk d 4 (fun c e => vfpFn f t (c.rmode rm) (c.elem t .A a e) (c.elem t .B b e) 0))
def vfp3 (f : Nat) (t : BitVec 4) (rm : BitVec 3) (mz : Bool) (mk : MReg) (d a b x : VReg) (s : State) : Out :=
  s.local_ { rm := rm, uses := [vr .A a, vr .B b, vr .C x, vw .D d, gov mk] } (Core.advance 12)
    (bodyFpLanes t (Ty.elems t) mz mk d 4
      (fun c e => vfpFn f t (c.rmode rm) (c.elem t .A a e) (c.elem t .B b e) (c.elem t .C x e)))

/-- The integer compares (07 R164). -/
def vcmp (f : Nat) (t : BitVec 4) (mz : Bool) (mk d : MReg) (a b : VReg) (s : State) : Out :=
  s.local_ { uses := [vr .A a, vr .B b, ⟨.D, .md d, false⟩, gov mk] } (Core.advance 12)
    (bodyMask 32 mz mk d (fun c e => vcmpInt f t (c.elem t .A a e) (c.elem t .B b e)))

/-- The floating-point compares (07 R164). -/
def vfcmp (k : FCmp) (t : BitVec 4) (mz : Bool) (mk d : MReg) (a b : VReg) (s : State) : Out :=
  s.local_ { uses := [vr .A a, vr .B b, ⟨.D, .md d, false⟩, gov mk] } (Core.advance 12) (bodyFpMask k t mz mk d a b)

/-- The mask operations of two masks (07 R164). -/
def maskOp (f : Bool → Bool → Bool) (mz : Bool) (mk d a b : MReg) (s : State) : Out :=
  s.local_ { uses := [⟨.A, .m a, true⟩, ⟨.B, .m b, true⟩, ⟨.D, .md d, false⟩, gov mk] } (Core.advance 12)
    (bodyMask 32 mz mk d (fun c e => f ((c.maskBits .A a).getLsbD e) ((c.maskBits .B b).getLsbD e)))

/-- mpop and mfirst (07 R165). -/
def maskAll (f : DWord → DWord) (mk d a : MReg) (s : State) : Out :=
  s.local_ { uses := [⟨.A, .m a, true⟩, ⟨.D, .md d, false⟩, gov mk] } (Core.advance 12) (bodyMaskAll mk d a f)

/-- vins: one element, and a shadow on the word that holds it (07 R158, R171). -/
def bodyVins (t : BitVec 4) (d : VReg) (a : GOp) (idx : Nat) (c : Core) : CoreRes :=
  let x := c.rg .A a
  let w := 64 + 16 * (c.vIx .D d).toNat + (if Ty.is64 t then idx else idx / 2)
  let p := if Ty.is64 t then (x, 0) else halfWrite idx x
  .done ((c.mergeWs w p.1 p.2).openShadow (c.wordIx w) 1 2)

/-- R161: Lane-wise integer add. -/
def execVadd (t1 : BitVec 4) (mz : Bool) (mk : BitVec 3) (d a b : VReg) (s : State) : Out := valu 0 t1 mz mk d a b s

/-- R161: Lane-wise integer subtract. -/
def execVsub (t1 : BitVec 4) (mz : Bool) (mk : BitVec 3) (d a b : VReg) (s : State) : Out := valu 1 t1 mz mk d a b s

/-- R161: Lane-wise integer multiply. -/
def execVmul (t1 : BitVec 4) (mz : Bool) (mk : BitVec 3) (d a b : VReg) (s : State) : Out := valu 2 t1 mz mk d a b s

/-- R161: Lane-wise and. -/
def execVand (t1 : BitVec 4) (mz : Bool) (mk : BitVec 3) (d a b : VReg) (s : State) : Out := valu 3 t1 mz mk d a b s

/-- R161: Lane-wise or. -/
def execVor (t1 : BitVec 4) (mz : Bool) (mk : BitVec 3) (d a b : VReg) (s : State) : Out := valu 4 t1 mz mk d a b s

/-- R161: Lane-wise xor. -/
def execVxor (t1 : BitVec 4) (mz : Bool) (mk : BitVec 3) (d a b : VReg) (s : State) : Out := valu 5 t1 mz mk d a b s

/-- R161: Lane-wise left shift. -/
def execVshl (t1 : BitVec 4) (mz : Bool) (mk : BitVec 3) (d a b : VReg) (s : State) : Out := valu 6 t1 mz mk d a b s

/-- R161: Lane-wise logical right shift. -/
def execVshr (t1 : BitVec 4) (mz : Bool) (mk : BitVec 3) (d a b : VReg) (s : State) : Out := valu 7 t1 mz mk d a b s

/-- R161: Lane-wise arithmetic right shift. -/
def execVsar (t1 : BitVec 4) (mz : Bool) (mk : BitVec 3) (d a b : VReg) (s : State) : Out := valu 8 t1 mz mk d a b s

/-- R161: Lane-wise minimum. -/
def execVmin (t1 : BitVec 4) (mz : Bool) (mk : BitVec 3) (d a b : VReg) (s : State) : Out := valu 9 t1 mz mk d a b s

/-- R161: Lane-wise maximum. -/
def execVmax (t1 : BitVec 4) (mz : Bool) (mk : BitVec 3) (d a b : VReg) (s : State) : Out := valu 10 t1 mz mk d a b s

/-- R163: Vector floating-point add. -/
def execVfadd (t1 : BitVec 4) (rm : BitVec 3) (mz : Bool) (mk : BitVec 3) (d a b : VReg) (s : State) : Out := vfp2 0 t1 rm mz mk d a b s

/-- R163: Vector floating-point subtract. -/
def execVfsub (t1 : BitVec 4) (rm : BitVec 3) (mz : Bool) (mk : BitVec 3) (d a b : VReg) (s : State) : Out := vfp2 1 t1 rm mz mk d a b s

/-- R163: Vector floating-point multiply. -/
def execVfmul (t1 : BitVec 4) (rm : BitVec 3) (mz : Bool) (mk : BitVec 3) (d a b : VReg) (s : State) : Out := vfp2 2 t1 rm mz mk d a b s

/-- R163: Vector floating-point divide. -/
def execVfdiv (t1 : BitVec 4) (rm : BitVec 3) (mz : Bool) (mk : BitVec 3) (d a b : VReg) (s : State) : Out := vfp2 3 t1 rm mz mk d a b s

/-- R163: Vector square root. -/
def execVfsqrt (t1 : BitVec 4) (rm : BitVec 3) (mz : Bool) (mk : BitVec 3) (d a : VReg) (s : State) : Out := vfp1 4 t1 rm mz mk d a s

/-- R163: Vector fused multiply-add. -/
def execVfma (t1 : BitVec 4) (rm : BitVec 3) (mz : Bool) (mk : BitVec 3) (d a b c : VReg) (s : State) : Out := vfp3 5 t1 rm mz mk d a b c s

/-- R163: Vector fused multiply-subtract. -/
def execVfms (t1 : BitVec 4) (rm : BitVec 3) (mz : Bool) (mk : BitVec 3) (d a b c : VReg) (s : State) : Out := vfp3 6 t1 rm mz mk d a b c s

/-- R163: Vector negated fused multiply-add. -/
def execVfnma (t1 : BitVec 4) (rm : BitVec 3) (mz : Bool) (mk : BitVec 3) (d a b c : VReg) (s : State) : Out := vfp3 7 t1 rm mz mk d a b c s

/-- R163: Vector minimumNumber. -/
def execVfmin (t1 : BitVec 4) (mz : Bool) (mk : BitVec 3) (d a b : VReg) (s : State) : Out := vfp2 8 t1 0 mz mk d a b s

/-- R163: Vector maximumNumber. -/
def execVfmax (t1 : BitVec 4) (mz : Bool) (mk : BitVec 3) (d a b : VReg) (s : State) : Out := vfp2 9 t1 0 mz mk d a b s

/-- R163: Clears each element's sign bit. -/
def execVfabs (t1 : BitVec 4) (mz : Bool) (mk : BitVec 3) (d a : VReg) (s : State) : Out := vfp1 10 t1 0 mz mk d a s

/-- R163: Inverts each element's sign bit. -/
def execVfneg (t1 : BitVec 4) (mz : Bool) (mk : BitVec 3) (d a : VReg) (s : State) : Out := vfp1 11 t1 0 mz mk d a s

/-- R164: Integer equality into a mask. -/
def execVceq (t1 : BitVec 4) (mz : Bool) (mk : BitVec 3) (d : MReg) (a b : VReg) (s : State) : Out := vcmp 0 t1 mz mk d a b s

/-- R164: Integer less-than into a mask. -/
def execVclt (t1 : BitVec 4) (mz : Bool) (mk : BitVec 3) (d : MReg) (a b : VReg) (s : State) : Out := vcmp 1 t1 mz mk d a b s

/-- R164: Integer less-or-equal into a mask. -/
def execVcle (t1 : BitVec 4) (mz : Bool) (mk : BitVec 3) (d : MReg) (a b : VReg) (s : State) : Out := vcmp 2 t1 mz mk d a b s

/-- R164: Unsigned less-than into a mask. -/
def execVcltn (t1 : BitVec 4) (mz : Bool) (mk : BitVec 3) (d : MReg) (a b : VReg) (s : State) : Out := vcmp 3 t1 mz mk d a b s

/-- R164: Floating-point equality into a mask. -/
def execVfeq (t1 : BitVec 4) (mz : Bool) (mk : BitVec 3) (d : MReg) (a b : VReg) (s : State) : Out := vfcmp .eq t1 mz mk d a b s

/-- R164: Floating-point less-than into a mask. -/
def execVflt (t1 : BitVec 4) (mz : Bool) (mk : BitVec 3) (d : MReg) (a b : VReg) (s : State) : Out := vfcmp .lt t1 mz mk d a b s

/-- R164: Floating-point less-or-equal into a mask. -/
def execVfle (t1 : BitVec 4) (mz : Bool) (mk : BitVec 3) (d : MReg) (a b : VReg) (s : State) : Out := vfcmp .le t1 mz mk d a b s

/-- R164: Unordered test into a mask. -/
def execVfun (t1 : BitVec 4) (mz : Bool) (mk : BitVec 3) (d : MReg) (a b : VReg) (s : State) : Out := vfcmp .un t1 mz mk d a b s

/-- R164: Mask and. -/
def execMand (mz : Bool) (mk : BitVec 3) (d a b : MReg) (s : State) : Out := maskOp (fun x y => x && y) mz mk d a b s

/-- R164: Mask or. -/
def execMor (mz : Bool) (mk : BitVec 3) (d a b : MReg) (s : State) : Out := maskOp (fun x y => x || y) mz mk d a b s

/-- R164: Mask xor. -/
def execMxor (mz : Bool) (mk : BitVec 3) (d a b : MReg) (s : State) : Out := maskOp (fun x y => x != y) mz mk d a b s

/-- R164: Mask not. -/
def execMnot (mz : Bool) (mk : BitVec 3) (d a : MReg) (s : State) : Out := s.local_ { uses := [⟨.A, .m a, true⟩, ⟨.D, .md d, false⟩, ⟨.M, .m mk, true⟩] } (Core.advance 12)
    (bodyMask 32 mz mk d (fun c e => !(c.maskBits .A a).getLsbD e))

/-- R165: Writes a mask of the k lowest bits, k the selected count. -/
def execMpop (mk : BitVec 3) (d a : MReg) (s : State) : Out := maskAll mpopFn mk d a s

/-- R165: Writes the lowest selected bit alone. -/
def execMfirst (mk : BitVec 3) (d a : MReg) (s : State) : Out := maskAll mfirstFn mk d a s

/-- R166: Converts elements between types. -/
def execVcvt (t1 t2 : BitVec 4) (rm : BitVec 3) (sat mz : Bool) (mk : BitVec 3) (d a : VReg) (s : State) : Out := s.local_ { rm := rm, uses := [vr .A a, vw .D d, gov mk] } (Core.advance 12) (bodyVcvt t1 t2 rm sat mz mk d a)

/-- R167: Converts 64 elements and packs them densely. -/
def execVpack (t1 t2 : BitVec 4) (rm : BitVec 3) (sat mz : Bool) (mk : BitVec 3) (d a b : VReg) (s : State) : Out := s.local_ { rm := rm, uses := [vr .A a, vr .B b, vw .D d, gov mk] } (Core.advance 12)
    (bodyVpack t1 t2 rm sat mz mk d a b)

/-- R168: Unpacks 64 packed elements into two registers. -/
def execVunpack (t1 t2 : BitVec 4) (mz : Bool) (mk : BitVec 3) (d a : VReg) (s : State) : Out := s.local_ { uses := [vr .A a, ⟨.D, .vv d, false⟩, gov mk] } (Core.advance 12) (bodyVunpack t1 t2 mz mk d a)

/-- R169: Floating-point tree sum into gD. -/
def execVredadd (t1 : BitVec 4) (rm mk : BitVec 3) (d : GOp) (a : VReg) (s : State) : Out := s.local_ { rm := rm, uses := [vr .A a, wr .D d, gov mk] } (Core.advance 12) (bodyReduce 0 t1 rm mk d a)

/-- R169: Tree maximum into gD. -/
def execVredmax (t1 : BitVec 4) (mk : BitVec 3) (d : GOp) (a : VReg) (s : State) : Out := s.local_ { uses := [vr .A a, wr .D d, gov mk] } (Core.advance 12) (bodyReduce 1 t1 0 mk d a)

/-- R169: Tree minimum into gD. -/
def execVredmin (t1 : BitVec 4) (mk : BitVec 3) (d : GOp) (a : VReg) (s : State) : Out := s.local_ { uses := [vr .A a, wr .D d, gov mk] } (Core.advance 12) (bodyReduce 2 t1 0 mk d a)

/-- R169: Integer sum modulo 2^64 into gD. -/
def execVredaddi (t1 : BitVec 4) (mk : BitVec 3) (d : GOp) (a : VReg) (s : State) : Out := s.local_ { uses := [vr .A a, wr .D d, gov mk] } (Core.advance 12) (bodyRedAddI t1 mk d a)

/-- R171: Permutes elements by indices. -/
def execVperm (t1 : BitVec 4) (mz : Bool) (mk : BitVec 3) (d a b : VReg) (s : State) : Out := s.local_ { uses := [vr .A a, vr .B b, vw .D d, gov mk] } (Core.advance 12)
    (bodyLanes t1 mz mk d 2 (fun c e => c.elem t1 .A a ((c.elem t1 .B b e).toNat % Ty.elems t1)))

/-- R171: Broadcasts a g register. -/
def execVbcast (t1 : BitVec 4) (mz : Bool) (mk : BitVec 3) (d : VReg) (a : GOp) (s : State) : Out := s.local_ { uses := [rd .A a, vw .D d, gov mk] } (Core.advance 12)
    (bodyLanes t1 mz mk d 2 (fun c _ => c.rg .A a))

/-- R171: Extracts one element to gD. -/
def execVext (t1 : BitVec 4) (d : GOp) (a : VReg) (idx : BitVec 6) (s : State) : Out := s.local_ { uses := [vr .A a, wr .D d] } (Core.advance 12)
    (bodyWrite d 2 (fun c => c.elem t1 .A a idx.toNat))

/-- R171: Inserts gA as one element. -/
def execVins (t1 : BitVec 4) (d : VReg) (a : GOp) (idx : BitVec 6) (s : State) : Out := s.local_ { uses := [rd .A a, vw .D d] } (Core.advance 12) (bodyVins t1 d a idx.toNat)

/-- R171: Butterfly exchange by e xor d. -/
def execVbfly (t1 : BitVec 4) (mz : Bool) (mk : BitVec 3) (d a : VReg) (x : BitVec 6) (s : State) : Out := s.local_ { uses := [vr .A a, vw .D d, gov mk] } (Core.advance 12)
    (bodyLanes t1 mz mk d 2 (fun c e => c.elem t1 .A a (e ^^^ x.toNat)))

/-- R171: Slides elements across two registers. -/
def execVslide (t1 : BitVec 4) (mz : Bool) (mk : BitVec 3) (d a b : VReg) (sh : BitVec 6) (s : State) : Out := s.local_ { uses := [vr .A a, vr .B b, vw .D d, gov mk] } (Core.advance 12)
    (bodyLanes t1 mz mk d 2 (fun c e =>
      if e + sh.toNat < Ty.elems t1 then c.elem t1 .A a (e + sh.toNat) else c.elem t1 .B b (e + sh.toNat - Ty.elems t1)))

/-- R172: Complex multiply, one rounding per part. -/
def execVcmul (t1 : BitVec 4) (rm : BitVec 3) (mz : Bool) (mk : BitVec 3) (d a b : VReg) (s : State) : Out := s.local_ { rm := rm, uses := [vr .A a, vr .B b, vw .D d, gov mk] } (Core.advance 12)
    (bodyComplex .mul t1 rm mz mk d a b b)

/-- R172: Complex fused multiply-add. -/
def execVcfma (t1 : BitVec 4) (rm : BitVec 3) (mz : Bool) (mk : BitVec 3) (d a b c : VReg) (s : State) : Out := s.local_ { rm := rm, uses := [vr .A a, vr .B b, vr .C c, vw .D d, gov mk] } (Core.advance 12)
    (bodyComplex .fma t1 rm mz mk d a b c)

/-- R172: Complex conjugate. -/
def execVcconj (t1 : BitVec 4) (mz : Bool) (mk : BitVec 3) (d a : VReg) (s : State) : Out := s.local_ { uses := [vr .A a, vw .D d, gov mk] } (Core.advance 12) (bodyConj t1 mz mk d a)

/-- R172: Multiply by the conjugate. -/
def execVcmulj (t1 : BitVec 4) (rm : BitVec 3) (mz : Bool) (mk : BitVec 3) (d a b : VReg) (s : State) : Out := s.local_ { rm := rm, uses := [vr .A a, vr .B b, vw .D d, gov mk] } (Core.advance 12)
    (bodyComplex .mulj t1 rm mz mk d a b b)

/-- R175: Contiguous or strided local vector load. -/
def execVldl (t1 : BitVec 4) (mz : Bool) (mk : BitVec 3) (d : VReg) (a b : GOp) (off : BitVec 32) (s : State) : Out := s.localAt { uses := [rd .A a] ++ strideUse b ++ [vw .D d, gov mk] } (Core.advance 12)
    (vlocalTouch t1 mk (vldlAddr t1 a b off)) (bodyVload t1 mz mk d (vldlAddr t1 a b off))

/-- R175: Contiguous or strided local vector store. -/
def execVstl (t1 : BitVec 4) (mk : BitVec 3) (d : VReg) (a b : GOp) (off : BitVec 32) (s : State) : Out := s.localAt { uses := [rd .A a] ++ strideUse b ++ [vr .D d, gov mk] } (Core.advance 12)
    (vlocalTouch t1 mk (vldlAddr t1 a b off)) (bodyVstore t1 mk d (vldlAddr t1 a b off))

/-- R175: Local gather by lane offsets. -/
def execVgath (t1 : BitVec 4) (mz : Bool) (mk : BitVec 3) (d : VReg) (a : GOp) (b : VReg) (off : BitVec 32) (s : State) : Out := s.localAt { uses := [rd .A a, vr .B b, vw .D d, gov mk] } (Core.advance 12)
    (vlocalTouch t1 mk (gathAddr a b off)) (bodyVload t1 mz mk d (gathAddr a b off))

/-- R175: Local scatter by lane offsets. -/
def execVscat (t1 : BitVec 4) (mk : BitVec 3) (d : VReg) (a : GOp) (b : VReg) (off : BitVec 32) (s : State) : Out := s.localAt { uses := [rd .A a, vr .B b, vr .D d, gov mk] } (Core.advance 12)
    (vlocalTouch t1 mk (gathAddr a b off)) (bodyVstore t1 mk d (gathAddr a b off))

end Sys2Proof.Machine
end

