-- ==== Sys2Proof/Machine/Dispatch.lean ====
section
/-! DEFINITION. The meaning of every instruction and event: one arm each, in the order of the table of operations and
events. -/

namespace Sys2Proof.Machine

open Sys2Proof

/-- What an instruction or an event does. -/
def exec (i : Instr) (s : State) : Host.Outcome State Fault Refusal :=
  match i with
  | .add d a b => Sys2Proof.Machine.execAdd d a b s
  | .sub d a b => Sys2Proof.Machine.execSub d a b s
  | .addW d a b => Sys2Proof.Machine.execAddW d a b s
  | .subW d a b => Sys2Proof.Machine.execSubW d a b s
  | .and d a b => Sys2Proof.Machine.execAnd d a b s
  | .or d a b => Sys2Proof.Machine.execOr d a b s
  | .xor d a b => Sys2Proof.Machine.execXor d a b s
  | .andn d a b => Sys2Proof.Machine.execAndn d a b s
  | .shl d a b => Sys2Proof.Machine.execShl d a b s
  | .shr d a b => Sys2Proof.Machine.execShr d a b s
  | .sar d a b => Sys2Proof.Machine.execSar d a b s
  | .shlW d a b => Sys2Proof.Machine.execShlW d a b s
  | .shrW d a b => Sys2Proof.Machine.execShrW d a b s
  | .sarW d a b => Sys2Proof.Machine.execSarW d a b s
  | .slt d a b => Sys2Proof.Machine.execSlt d a b s
  | .sltn d a b => Sys2Proof.Machine.execSltn d a b s
  | .min d a b => Sys2Proof.Machine.execMin d a b s
  | .max d a b => Sys2Proof.Machine.execMax d a b s
  | .minn d a b => Sys2Proof.Machine.execMinn d a b s
  | .maxn d a b => Sys2Proof.Machine.execMaxn d a b s
  | .clz d a => Sys2Proof.Machine.execClz d a s
  | .ctz d a => Sys2Proof.Machine.execCtz d a s
  | .popc d a => Sys2Proof.Machine.execPopc d a s
  | .rev d a => Sys2Proof.Machine.execRev d a s
  | .sextB d a => Sys2Proof.Machine.execSextB d a s
  | .sextH d a => Sys2Proof.Machine.execSextH d a s
  | .sextW d a => Sys2Proof.Machine.execSextW d a s
  | .zextB d a => Sys2Proof.Machine.execZextB d a s
  | .zextH d a => Sys2Proof.Machine.execZextH d a s
  | .zextW d a => Sys2Proof.Machine.execZextW d a s
  | .rol d a b => Sys2Proof.Machine.execRol d a b s
  | .ror d a b => Sys2Proof.Machine.execRor d a b s
  | .addLit d a lit => Sys2Proof.Machine.execAddLit d a lit s
  | .subLit d a lit => Sys2Proof.Machine.execSubLit d a lit s
  | .addWLit d a lit => Sys2Proof.Machine.execAddWLit d a lit s
  | .subWLit d a lit => Sys2Proof.Machine.execSubWLit d a lit s
  | .andLit d a lit => Sys2Proof.Machine.execAndLit d a lit s
  | .orLit d a lit => Sys2Proof.Machine.execOrLit d a lit s
  | .xorLit d a lit => Sys2Proof.Machine.execXorLit d a lit s
  | .andnLit d a lit => Sys2Proof.Machine.execAndnLit d a lit s
  | .shlLit d a lit => Sys2Proof.Machine.execShlLit d a lit s
  | .shrLit d a lit => Sys2Proof.Machine.execShrLit d a lit s
  | .sarLit d a lit => Sys2Proof.Machine.execSarLit d a lit s
  | .shlWLit d a lit => Sys2Proof.Machine.execShlWLit d a lit s
  | .shrWLit d a lit => Sys2Proof.Machine.execShrWLit d a lit s
  | .sarWLit d a lit => Sys2Proof.Machine.execSarWLit d a lit s
  | .sltLit d a lit => Sys2Proof.Machine.execSltLit d a lit s
  | .sltnLit d a lit => Sys2Proof.Machine.execSltnLit d a lit s
  | .minLit d a lit => Sys2Proof.Machine.execMinLit d a lit s
  | .maxLit d a lit => Sys2Proof.Machine.execMaxLit d a lit s
  | .minnLit d a lit => Sys2Proof.Machine.execMinnLit d a lit s
  | .maxnLit d a lit => Sys2Proof.Machine.execMaxnLit d a lit s
  | .rolLit d a lit => Sys2Proof.Machine.execRolLit d a lit s
  | .rorLit d a lit => Sys2Proof.Machine.execRorLit d a lit s
  | .mul d a b => Sys2Proof.Machine.execMul d a b s
  | .mulh d a b => Sys2Proof.Machine.execMulh d a b s
  | .mulhn d a b => Sys2Proof.Machine.execMulhn d a b s
  | .mulW d a b => Sys2Proof.Machine.execMulW d a b s
  | .div d a b => Sys2Proof.Machine.execDiv d a b s
  | .divn d a b => Sys2Proof.Machine.execDivn d a b s
  | .rem d a b => Sys2Proof.Machine.execRem d a b s
  | .remn d a b => Sys2Proof.Machine.execRemn d a b s
  | .divW d a b => Sys2Proof.Machine.execDivW d a b s
  | .divnW d a b => Sys2Proof.Machine.execDivnW d a b s
  | .remW d a b => Sys2Proof.Machine.execRemW d a b s
  | .remnW d a b => Sys2Proof.Machine.execRemnW d a b s
  | .mulLit d a lit => Sys2Proof.Machine.execMulLit d a lit s
  | .mulhLit d a lit => Sys2Proof.Machine.execMulhLit d a lit s
  | .mulhnLit d a lit => Sys2Proof.Machine.execMulhnLit d a lit s
  | .mulWLit d a lit => Sys2Proof.Machine.execMulWLit d a lit s
  | .divLit d a lit => Sys2Proof.Machine.execDivLit d a lit s
  | .divnLit d a lit => Sys2Proof.Machine.execDivnLit d a lit s
  | .remLit d a lit => Sys2Proof.Machine.execRemLit d a lit s
  | .remnLit d a lit => Sys2Proof.Machine.execRemnLit d a lit s
  | .divWLit d a lit => Sys2Proof.Machine.execDivWLit d a lit s
  | .divnWLit d a lit => Sys2Proof.Machine.execDivnWLit d a lit s
  | .remWLit d a lit => Sys2Proof.Machine.execRemWLit d a lit s
  | .remnWLit d a lit => Sys2Proof.Machine.execRemnWLit d a lit s
  | .addi d a imm => Sys2Proof.Machine.execAddi d a imm s
  | .addiW d a imm => Sys2Proof.Machine.execAddiW d a imm s
  | .andi d a imm => Sys2Proof.Machine.execAndi d a imm s
  | .ori d a imm => Sys2Proof.Machine.execOri d a imm s
  | .xori d a imm => Sys2Proof.Machine.execXori d a imm s
  | .slti d a imm => Sys2Proof.Machine.execSlti d a imm s
  | .sltni d a imm => Sys2Proof.Machine.execSltni d a imm s
  | .li d imm => Sys2Proof.Machine.execLi d imm s
  | .addiLit d a lit => Sys2Proof.Machine.execAddiLit d a lit s
  | .addiWLit d a lit => Sys2Proof.Machine.execAddiWLit d a lit s
  | .andiLit d a lit => Sys2Proof.Machine.execAndiLit d a lit s
  | .oriLit d a lit => Sys2Proof.Machine.execOriLit d a lit s
  | .xoriLit d a lit => Sys2Proof.Machine.execXoriLit d a lit s
  | .sltiLit d a lit => Sys2Proof.Machine.execSltiLit d a lit s
  | .sltniLit d a lit => Sys2Proof.Machine.execSltniLit d a lit s
  | .liLit d lit => Sys2Proof.Machine.execLiLit d lit s
  | .shli d a amt => Sys2Proof.Machine.execShli d a amt s
  | .shri d a amt => Sys2Proof.Machine.execShri d a amt s
  | .sari d a amt => Sys2Proof.Machine.execSari d a amt s
  | .shliW d a amt => Sys2Proof.Machine.execShliW d a amt s
  | .shriW d a amt => Sys2Proof.Machine.execShriW d a amt s
  | .sariW d a amt => Sys2Proof.Machine.execSariW d a amt s
  | .bfx d a p l => Sys2Proof.Machine.execBfx d a p l s
  | .bfi d a p l => Sys2Proof.Machine.execBfi d a p l s
  | .beq a1 a2 off => Sys2Proof.Machine.execBeq a1 a2 off s
  | .bne a1 a2 off => Sys2Proof.Machine.execBne a1 a2 off s
  | .blt a1 a2 off => Sys2Proof.Machine.execBlt a1 a2 off s
  | .bge a1 a2 off => Sys2Proof.Machine.execBge a1 a2 off s
  | .bltn a1 a2 off => Sys2Proof.Machine.execBltn a1 a2 off s
  | .bgen a1 a2 off => Sys2Proof.Machine.execBgen a1 a2 off s
  | .j off => Sys2Proof.Machine.execJ off s
  | .jal off => Sys2Proof.Machine.execJal off s
  | .jr a => Sys2Proof.Machine.execJr a s
  | .jlr a => Sys2Proof.Machine.execJlr a s
  | .align count => Sys2Proof.Machine.execAlign count s
  | .ldlB d a imm => Sys2Proof.Machine.execLdlB d a imm s
  | .ldlH d a imm => Sys2Proof.Machine.execLdlH d a imm s
  | .ldlW d a imm => Sys2Proof.Machine.execLdlW d a imm s
  | .ldlD d a imm => Sys2Proof.Machine.execLdlD d a imm s
  | .ldlBz d a imm => Sys2Proof.Machine.execLdlBz d a imm s
  | .ldlHz d a imm => Sys2Proof.Machine.execLdlHz d a imm s
  | .ldlWz d a imm => Sys2Proof.Machine.execLdlWz d a imm s
  | .stlB d a imm => Sys2Proof.Machine.execStlB d a imm s
  | .stlH d a imm => Sys2Proof.Machine.execStlH d a imm s
  | .stlW d a imm => Sys2Proof.Machine.execStlW d a imm s
  | .stlD d a imm => Sys2Proof.Machine.execStlD d a imm s
  | .rds d num => Sys2Proof.Machine.execRds d num s
  | .wrs a num => Sys2Proof.Machine.execWrs a num s
  | .ldB d a imm => Sys2Proof.Machine.execLdB d a imm s
  | .ldH d a imm => Sys2Proof.Machine.execLdH d a imm s
  | .ldW d a imm => Sys2Proof.Machine.execLdW d a imm s
  | .ldD d a imm => Sys2Proof.Machine.execLdD d a imm s
  | .ldBz d a imm => Sys2Proof.Machine.execLdBz d a imm s
  | .ldHz d a imm => Sys2Proof.Machine.execLdHz d a imm s
  | .ldWz d a imm => Sys2Proof.Machine.execLdWz d a imm s
  | .stB d a imm => Sys2Proof.Machine.execStB d a imm s
  | .stH d a imm => Sys2Proof.Machine.execStH d a imm s
  | .stW d a imm => Sys2Proof.Machine.execStW d a imm s
  | .stD d a imm => Sys2Proof.Machine.execStD d a imm s
  | .amoswap d a b => Sys2Proof.Machine.execAmoswap d a b s
  | .amoadd d a b => Sys2Proof.Machine.execAmoadd d a b s
  | .amoand d a b => Sys2Proof.Machine.execAmoand d a b s
  | .amoor d a b => Sys2Proof.Machine.execAmoor d a b s
  | .amoxor d a b => Sys2Proof.Machine.execAmoxor d a b s
  | .amomin d a b => Sys2Proof.Machine.execAmomin d a b s
  | .amomax d a b => Sys2Proof.Machine.execAmomax d a b s
  | .amominn d a b => Sys2Proof.Machine.execAmominn d a b s
  | .amomaxn d a b => Sys2Proof.Machine.execAmomaxn d a b s
  | .amoswapW d a b => Sys2Proof.Machine.execAmoswapW d a b s
  | .amoaddW d a b => Sys2Proof.Machine.execAmoaddW d a b s
  | .amoandW d a b => Sys2Proof.Machine.execAmoandW d a b s
  | .amoorW d a b => Sys2Proof.Machine.execAmoorW d a b s
  | .amoxorW d a b => Sys2Proof.Machine.execAmoxorW d a b s
  | .amominW d a b => Sys2Proof.Machine.execAmominW d a b s
  | .amomaxW d a b => Sys2Proof.Machine.execAmomaxW d a b s
  | .amominnW d a b => Sys2Proof.Machine.execAmominnW d a b s
  | .amomaxnW d a b => Sys2Proof.Machine.execAmomaxnW d a b s
  | .fence kind scope => Sys2Proof.Machine.execFence kind scope s
  | .fadd ty d a b => Sys2Proof.Machine.execFadd ty d a b s
  | .fsub ty d a b => Sys2Proof.Machine.execFsub ty d a b s
  | .fmul ty d a b => Sys2Proof.Machine.execFmul ty d a b s
  | .fdiv ty d a b => Sys2Proof.Machine.execFdiv ty d a b s
  | .fsqrt ty d a => Sys2Proof.Machine.execFsqrt ty d a s
  | .fmin ty d a b => Sys2Proof.Machine.execFmin ty d a b s
  | .fmax ty d a b => Sys2Proof.Machine.execFmax ty d a b s
  | .fsgn ty d a b => Sys2Proof.Machine.execFsgn ty d a b s
  | .fsgnn ty d a b => Sys2Proof.Machine.execFsgnn ty d a b s
  | .fsgnx ty d a b => Sys2Proof.Machine.execFsgnx ty d a b s
  | .feq ty d a b => Sys2Proof.Machine.execFeq ty d a b s
  | .flt ty d a b => Sys2Proof.Machine.execFlt ty d a b s
  | .fle ty d a b => Sys2Proof.Machine.execFle ty d a b s
  | .fclass ty d a => Sys2Proof.Machine.execFclass ty d a s
  | .fcun ty d a b => Sys2Proof.Machine.execFcun ty d a b s
  | .faddLit ty d a lit => Sys2Proof.Machine.execFaddLit ty d a lit s
  | .fsubLit ty d a lit => Sys2Proof.Machine.execFsubLit ty d a lit s
  | .fmulLit ty d a lit => Sys2Proof.Machine.execFmulLit ty d a lit s
  | .fdivLit ty d a lit => Sys2Proof.Machine.execFdivLit ty d a lit s
  | .fminLit ty d a lit => Sys2Proof.Machine.execFminLit ty d a lit s
  | .fmaxLit ty d a lit => Sys2Proof.Machine.execFmaxLit ty d a lit s
  | .fsgnLit ty d a lit => Sys2Proof.Machine.execFsgnLit ty d a lit s
  | .fsgnnLit ty d a lit => Sys2Proof.Machine.execFsgnnLit ty d a lit s
  | .fsgnxLit ty d a lit => Sys2Proof.Machine.execFsgnxLit ty d a lit s
  | .feqLit ty d a lit => Sys2Proof.Machine.execFeqLit ty d a lit s
  | .fltLit ty d a lit => Sys2Proof.Machine.execFltLit ty d a lit s
  | .fleLit ty d a lit => Sys2Proof.Machine.execFleLit ty d a lit s
  | .fcunLit ty d a lit => Sys2Proof.Machine.execFcunLit ty d a lit s
  | .trap code => Sys2Proof.Machine.execTrap code s
  | .sys code => Sys2Proof.Machine.execSys code s
  | .eret => Sys2Proof.Machine.execEret s
  | .wfi => Sys2Proof.Machine.execWfi s
  | .rdtime d => Sys2Proof.Machine.execRdtime d s
  | .rdcnt d code => Sys2Proof.Machine.execRdcnt d code s
  | .brk code => Sys2Proof.Machine.execBrk code s
  | .intx fn d a b => Sys2Proof.Machine.execIntx fn d a b s
  | .intxLit fn d a lit => Sys2Proof.Machine.execIntxLit fn d a lit s
  | .fma t1 rm d a b c => Sys2Proof.Machine.execFma t1 rm d a b c s
  | .fms t1 rm d a b c => Sys2Proof.Machine.execFms t1 rm d a b c s
  | .fnma t1 rm d a b c => Sys2Proof.Machine.execFnma t1 rm d a b c s
  | .fnms t1 rm d a b c => Sys2Proof.Machine.execFnms t1 rm d a b c s
  | .fcvt t1 t2 rm sat d a => Sys2Proof.Machine.execFcvt t1 t2 rm sat d a s
  | .sel d a b c => Sys2Proof.Machine.execSel d a b c s
  | .fround t1 rm d a => Sys2Proof.Machine.execFround t1 rm d a s
  | .rep cr a nc len sd sa sb sc => Sys2Proof.Machine.execRep cr a nc len sd sa sb sc s
  | .vadd t1 mz mk d a b => Sys2Proof.Machine.execVadd t1 mz mk d a b s
  | .vsub t1 mz mk d a b => Sys2Proof.Machine.execVsub t1 mz mk d a b s
  | .vmul t1 mz mk d a b => Sys2Proof.Machine.execVmul t1 mz mk d a b s
  | .vand t1 mz mk d a b => Sys2Proof.Machine.execVand t1 mz mk d a b s
  | .vor t1 mz mk d a b => Sys2Proof.Machine.execVor t1 mz mk d a b s
  | .vxor t1 mz mk d a b => Sys2Proof.Machine.execVxor t1 mz mk d a b s
  | .vshl t1 mz mk d a b => Sys2Proof.Machine.execVshl t1 mz mk d a b s
  | .vshr t1 mz mk d a b => Sys2Proof.Machine.execVshr t1 mz mk d a b s
  | .vsar t1 mz mk d a b => Sys2Proof.Machine.execVsar t1 mz mk d a b s
  | .vmin t1 mz mk d a b => Sys2Proof.Machine.execVmin t1 mz mk d a b s
  | .vmax t1 mz mk d a b => Sys2Proof.Machine.execVmax t1 mz mk d a b s
  | .vfadd t1 rm mz mk d a b => Sys2Proof.Machine.execVfadd t1 rm mz mk d a b s
  | .vfsub t1 rm mz mk d a b => Sys2Proof.Machine.execVfsub t1 rm mz mk d a b s
  | .vfmul t1 rm mz mk d a b => Sys2Proof.Machine.execVfmul t1 rm mz mk d a b s
  | .vfdiv t1 rm mz mk d a b => Sys2Proof.Machine.execVfdiv t1 rm mz mk d a b s
  | .vfsqrt t1 rm mz mk d a => Sys2Proof.Machine.execVfsqrt t1 rm mz mk d a s
  | .vfma t1 rm mz mk d a b c => Sys2Proof.Machine.execVfma t1 rm mz mk d a b c s
  | .vfms t1 rm mz mk d a b c => Sys2Proof.Machine.execVfms t1 rm mz mk d a b c s
  | .vfnma t1 rm mz mk d a b c => Sys2Proof.Machine.execVfnma t1 rm mz mk d a b c s
  | .vfmin t1 mz mk d a b => Sys2Proof.Machine.execVfmin t1 mz mk d a b s
  | .vfmax t1 mz mk d a b => Sys2Proof.Machine.execVfmax t1 mz mk d a b s
  | .vfabs t1 mz mk d a => Sys2Proof.Machine.execVfabs t1 mz mk d a s
  | .vfneg t1 mz mk d a => Sys2Proof.Machine.execVfneg t1 mz mk d a s
  | .vceq t1 mz mk d a b => Sys2Proof.Machine.execVceq t1 mz mk d a b s
  | .vclt t1 mz mk d a b => Sys2Proof.Machine.execVclt t1 mz mk d a b s
  | .vcle t1 mz mk d a b => Sys2Proof.Machine.execVcle t1 mz mk d a b s
  | .vcltn t1 mz mk d a b => Sys2Proof.Machine.execVcltn t1 mz mk d a b s
  | .vfeq t1 mz mk d a b => Sys2Proof.Machine.execVfeq t1 mz mk d a b s
  | .vflt t1 mz mk d a b => Sys2Proof.Machine.execVflt t1 mz mk d a b s
  | .vfle t1 mz mk d a b => Sys2Proof.Machine.execVfle t1 mz mk d a b s
  | .vfun t1 mz mk d a b => Sys2Proof.Machine.execVfun t1 mz mk d a b s
  | .mand mz mk d a b => Sys2Proof.Machine.execMand mz mk d a b s
  | .mor mz mk d a b => Sys2Proof.Machine.execMor mz mk d a b s
  | .mxor mz mk d a b => Sys2Proof.Machine.execMxor mz mk d a b s
  | .mnot mz mk d a => Sys2Proof.Machine.execMnot mz mk d a s
  | .mpop mk d a => Sys2Proof.Machine.execMpop mk d a s
  | .mfirst mk d a => Sys2Proof.Machine.execMfirst mk d a s
  | .vcvt t1 t2 rm sat mz mk d a => Sys2Proof.Machine.execVcvt t1 t2 rm sat mz mk d a s
  | .vpack t1 t2 rm sat mz mk d a b => Sys2Proof.Machine.execVpack t1 t2 rm sat mz mk d a b s
  | .vunpack t1 t2 mz mk d a => Sys2Proof.Machine.execVunpack t1 t2 mz mk d a s
  | .vredadd t1 rm mk d a => Sys2Proof.Machine.execVredadd t1 rm mk d a s
  | .vredmax t1 mk d a => Sys2Proof.Machine.execVredmax t1 mk d a s
  | .vredmin t1 mk d a => Sys2Proof.Machine.execVredmin t1 mk d a s
  | .vredaddi t1 mk d a => Sys2Proof.Machine.execVredaddi t1 mk d a s
  | .vperm t1 mz mk d a b => Sys2Proof.Machine.execVperm t1 mz mk d a b s
  | .vbcast t1 mz mk d a => Sys2Proof.Machine.execVbcast t1 mz mk d a s
  | .vext t1 d a idx => Sys2Proof.Machine.execVext t1 d a idx s
  | .vins t1 d a idx => Sys2Proof.Machine.execVins t1 d a idx s
  | .vbfly t1 mz mk d a x => Sys2Proof.Machine.execVbfly t1 mz mk d a x s
  | .vslide t1 mz mk d a b sh => Sys2Proof.Machine.execVslide t1 mz mk d a b sh s
  | .vcmul t1 rm mz mk d a b => Sys2Proof.Machine.execVcmul t1 rm mz mk d a b s
  | .vcfma t1 rm mz mk d a b c => Sys2Proof.Machine.execVcfma t1 rm mz mk d a b c s
  | .vcconj t1 mz mk d a => Sys2Proof.Machine.execVcconj t1 mz mk d a s
  | .vcmulj t1 rm mz mk d a b => Sys2Proof.Machine.execVcmulj t1 rm mz mk d a b s
  | .vldl t1 mz mk d a b off => Sys2Proof.Machine.execVldl t1 mz mk d a b off s
  | .vstl t1 mk d a b off => Sys2Proof.Machine.execVstl t1 mk d a b off s
  | .vgath t1 mz mk d a b off => Sys2Proof.Machine.execVgath t1 mz mk d a b off s
  | .vscat t1 mk d a b off => Sys2Proof.Machine.execVscat t1 mk d a b off s
  | .spawn d a b => Sys2Proof.Machine.execSpawn d a b s
  | .endT => Sys2Proof.Machine.execEndT s
  | .yieldT => Sys2Proof.Machine.execYieldT s
  | .join d ch => Sys2Proof.Machine.execJoin d ch s
  | .leave d ch => Sys2Proof.Machine.execLeave d ch s
  | .stitch d a limit => Sys2Proof.Machine.execStitch d a limit s
  | .unstitch => Sys2Proof.Machine.execUnstitch s
  | .selfT d sel => Sys2Proof.Machine.execSelfT d sel s
  | .arrive d ch => Sys2Proof.Machine.execArrive d ch s
  | .arriveb d a ch => Sys2Proof.Machine.execArriveb d a ch s
  | .waitT a => Sys2Proof.Machine.execWaitT a s
  | .btx d a ch => Sys2Proof.Machine.execBtx d a ch s
  | .bpoll d a => Sys2Proof.Machine.execBpoll d a s
  | .chinit a b c k => Sys2Proof.Machine.execChinit a b c k s
  | .chsend d a b => Sys2Proof.Machine.execChsend d a b s
  | .chrecv d a b => Sys2Proof.Machine.execChrecv d a b s
  | .chpoll d a => Sys2Proof.Machine.execChpoll d a s
  | .sigdec d a b => Sys2Proof.Machine.execSigdec d a b s
  | .sigwait d a => Sys2Proof.Machine.execSigwait d a s
  | .seam d a => Sys2Proof.Machine.execSeam d a s
  | .xsend a b cyc ln => Sys2Proof.Machine.execXsend a b cyc ln s
  | .xrecv a b cyc ln => Sys2Proof.Machine.execXrecv a b cyc ln s
  | .xwait cyc => Sys2Proof.Machine.execXwait cyc s
  | .xend => Sys2Proof.Machine.execXend s
  | .grant d a b c rights => Sys2Proof.Machine.execGrant d a b c rights s
  | .revoke d a b c => Sys2Proof.Machine.execRevoke d a b c s
  | .rvsync => Sys2Proof.Machine.execRvsync s
  | .rchk d a b => Sys2Proof.Machine.execRchk d a b s
  | .retire d a b => Sys2Proof.Machine.execRetire d a b s
  | .ordadd t1 rm d a b => Sys2Proof.Machine.execOrdadd t1 rm d a b s
  | .ordmin t1 d a b => Sys2Proof.Machine.execOrdmin t1 d a b s
  | .ordmax t1 d a b => Sys2Proof.Machine.execOrdmax t1 d a b s
  | .ordswap t1 d a b => Sys2Proof.Machine.execOrdswap t1 d a b s
  | .ordget t1 d a => Sys2Proof.Machine.execOrdget t1 d a s
  | .cas d a b c => Sys2Proof.Machine.execCas d a b c s
  | .casW d a b c => Sys2Proof.Machine.execCasW d a b c s
  | .incw d a b => Sys2Proof.Machine.execIncw d a b s
  | .incwW d a b => Sys2Proof.Machine.execIncwW d a b s
  | .faddb d a b c st => Sys2Proof.Machine.execFaddb d a b c st s
  | .faddbW d a b c st => Sys2Proof.Machine.execFaddbW d a b c st s
  | .copyGl d a b c term he rs ch => Sys2Proof.Machine.execCopyGl d a b c term he rs ch s
  | .copyLg d a b c term he rs ch => Sys2Proof.Machine.execCopyLg d a b c term he rs ch s
  | .copyLl d a b c term he rs ch => Sys2Proof.Machine.execCopyLl d a b c term he rs ch s
  | .copyGg d a b c term he rs ch => Sys2Proof.Machine.execCopyGg d a b c term he rs ch s
  | .cpwait sel => Sys2Proof.Machine.execCpwait sel s
  | .cpstat d sel => Sys2Proof.Machine.execCpstat d sel s
  | .convE t1 t2 rm sat d a b term he rs => Sys2Proof.Machine.execConvE t1 t2 rm sat d a b term he rs s
  | .quant t1 t2 rm sat d a b term he rs => Sys2Proof.Machine.execQuant t1 t2 rm sat d a b term he rs s
  | .dequant t1 t2 rm d a b term he rs => Sys2Proof.Machine.execDequant t1 t2 rm d a b term he rs s
  | .retile t1 t2 rm sat d a b term he rs => Sys2Proof.Machine.execRetile t1 t2 rm sat d a b term he rs s
  | .evcfg a sel => Sys2Proof.Machine.execEvcfg a sel s
  | .evarm t => Sys2Proof.Machine.execEvarm t s
  | .evwait t => Sys2Proof.Machine.execEvwait t s
  | .evread d sel => Sys2Proof.Machine.execEvread d sel s
  | .mload a b tr term he rs => Sys2Proof.Machine.execMload a b tr term he rs s
  | .mstream a b row0 tr term he rs => Sys2Proof.Machine.execMstream a b row0 tr term he rs s
  | .mstore rm a b row0 j be zr term he rs => Sys2Proof.Machine.execMstore rm a b row0 j be zr term he rs s
  | .mzero row0 count term he rs => Sys2Proof.Machine.execMzero row0 count term he rs s
  | .msave a => Sys2Proof.Machine.execMsave a s
  | .mrest a => Sys2Proof.Machine.execMrest a s
  | .mstat d sel => Sys2Proof.Machine.execMstat d sel s
  | .minj row col blk p => Sys2Proof.Machine.execMinj row col blk p s
  | .bndset a j act => Sys2Proof.Machine.execBndset a j act s
  | .bndread d sel => Sys2Proof.Machine.execBndread d sel s
  | .l1wb a b => Sys2Proof.Machine.execL1wb a b s
  | .l1inv a b => Sys2Proof.Machine.execL1inv a b s
  | .tlbinv scope a b => Sys2Proof.Machine.execTlbinv scope a b s
  | .rlbinv scope a => Sys2Proof.Machine.execRlbinv scope a s
  | .snapctl d op => Sys2Proof.Machine.execSnapctl d op s
  | .errlog a b op => Sys2Proof.Machine.execErrlog a b op s
  | .doubleTrapHandling site => Sys2Proof.Machine.execDoubleTrapHandling site s
  | .preemptInterrupt site => Sys2Proof.Machine.execPreemptInterrupt site s
  | .wfiWake site => Sys2Proof.Machine.execWfiWake site s
  | .alignGather sites => Sys2Proof.Machine.execAlignGather sites s
  | .stitchForm site => Sys2Proof.Machine.execStitchForm site s
  | .stitchLimitExpiry site => Sys2Proof.Machine.execStitchLimitExpiry site s
  | .dispatch site => Sys2Proof.Machine.execDispatch site s
  | .deadlockProbe idx => Sys2Proof.Machine.execDeadlockProbe idx s
  | .barrierRelease chan site => Sys2Proof.Machine.execBarrierRelease chan site s
  | .seamComplete site => Sys2Proof.Machine.execSeamComplete site s
  | .xsendInject site => Sys2Proof.Machine.execXsendInject site s
  | .exchArrival idx => Sys2Proof.Machine.execExchArrival idx s
  | .exchHorizon site idx => Sys2Proof.Machine.execExchHorizon site idx s
  | .xendComplete site => Sys2Proof.Machine.execXendComplete site s
  | .rollback gang => Sys2Proof.Machine.execRollback gang s
  | .dividerChange islands div => Sys2Proof.Machine.execDividerChange islands div s
  | .postedStoreApply site => Sys2Proof.Machine.execPostedStoreApply site s
  | .tlbShootdownComplete id => Sys2Proof.Machine.execTlbShootdownComplete id s
  | .shutterComplete id => Sys2Proof.Machine.execShutterComplete id s
  | .rlbinvRoundComplete id => Sys2Proof.Machine.execRlbinvRoundComplete id s
  | .rvsyncComplete site => Sys2Proof.Machine.execRvsyncComplete site s
  | .fenceComplete site => Sys2Proof.Machine.execFenceComplete site s
  | .cpwaitComplete site => Sys2Proof.Machine.execCpwaitComplete site s
  | .evwaitComplete site => Sys2Proof.Machine.execEvwaitComplete site s
  | .mstatWaitComplete site => Sys2Proof.Machine.execMstatWaitComplete site s
  | .l1wbComplete site => Sys2Proof.Machine.execL1wbComplete site s
  | .transientRequest req holder => Sys2Proof.Machine.execTransientRequest req holder s
  | .transientRequestFail req => Sys2Proof.Machine.execTransientRequestFail req s
  | .persistentRequest req => Sys2Proof.Machine.execPersistentRequest req s
  | .persistentActivation sector agent => Sys2Proof.Machine.execPersistentActivation sector agent s
  | .persistentDeactivation sector => Sys2Proof.Machine.execPersistentDeactivation sector s
  | .tokenReceipt msg => Sys2Proof.Machine.execTokenReceipt msg s
  | .hintUpdate idx => Sys2Proof.Machine.execHintUpdate idx s
  | .regionMerge cluster base size => Sys2Proof.Machine.execRegionMerge cluster base size s
  | .hbmFill line => Sys2Proof.Machine.execHbmFill line s
  | .sectorReset sector => Sys2Proof.Machine.execSectorReset sector s
  | .sectorResetEnd sector => Sys2Proof.Machine.execSectorResetEnd sector s
  | .l2StatClear die => Sys2Proof.Machine.execL2StatClear die s
  | .ordWindowApply die window => Sys2Proof.Machine.execOrdWindowApply die window s
  | .ordRecordLand idx => Sys2Proof.Machine.execOrdRecordLand idx s
  | .ordReannounce idx => Sys2Proof.Machine.execOrdReannounce idx s
  | .engineCommandStart site eng => Sys2Proof.Machine.execEngineCommandStart site eng s
  | .copyElement site ch => Sys2Proof.Machine.execCopyElement site ch s
  | .convElement site => Sys2Proof.Machine.execConvElement site s
  | .engineCommandComplete site eng => Sys2Proof.Machine.execEngineCommandComplete site eng s
  | .evTimerPulse site => Sys2Proof.Machine.execEvTimerPulse site s
  | .leaveGrant quad => Sys2Proof.Machine.execLeaveGrant quad s
  | .activityPeriodStart die => Sys2Proof.Machine.execActivityPeriodStart die s
  | .mxUnitGrant cluster => Sys2Proof.Machine.execMxUnitGrant cluster s
  | .mxLoadExec site => Sys2Proof.Machine.execMxLoadExec site s
  | .mxTileExec site => Sys2Proof.Machine.execMxTileExec site s
  | .mxStoreExec site => Sys2Proof.Machine.execMxStoreExec site s
  | .mxWeightWrite quad q value => Sys2Proof.Machine.execMxWeightWrite quad q value s
  | .preemptTimeout site => Sys2Proof.Machine.execPreemptTimeout site s
  | .quiesce site reason => Sys2Proof.Machine.execQuiesce site reason s
  | .contextSave vd region => Sys2Proof.Machine.execContextSave vd region s
  | .contextRestore site => Sys2Proof.Machine.execContextRestore site s
  | .scrubSector sector => Sys2Proof.Machine.execScrubSector sector s
  | .vdEnable vd => Sys2Proof.Machine.execVdEnable vd s
  | .vdDisable vd => Sys2Proof.Machine.execVdDisable vd s
  | .reservationInstall vd slot => Sys2Proof.Machine.execReservationInstall vd slot s
  | .reservationRemove vd slot => Sys2Proof.Machine.execReservationRemove vd slot s
  | .reservationPeriodStart vd slot => Sys2Proof.Machine.execReservationPeriodStart vd slot s
  | .budgetExhausted vd slot region => Sys2Proof.Machine.execBudgetExhausted vd slot region s
  | .ringTailChange vd queue => Sys2Proof.Machine.execRingTailChange vd queue s
  | .dependencySatisfied launch dep => Sys2Proof.Machine.execDependencySatisfied launch dep s
  | .launchComplete launch => Sys2Proof.Machine.execLaunchComplete launch s
  | .launchFaultEnd launch => Sys2Proof.Machine.execLaunchFaultEnd launch s
  | .migrationStart die desc => Sys2Proof.Machine.execMigrationStart die desc s
  | .migrationRelease die desc => Sys2Proof.Machine.execMigrationRelease die desc s
  | .migrationCopy die desc => Sys2Proof.Machine.execMigrationCopy die desc s
  | .migrationSwitch die desc => Sys2Proof.Machine.execMigrationSwitch die desc s
  | .migrationMoved die desc => Sys2Proof.Machine.execMigrationMoved die desc s
  | .migStatClear die => Sys2Proof.Machine.execMigStatClear die s
  | .fabricTimeout site performed => Sys2Proof.Machine.execFabricTimeout site performed s
  | .peerAccess port op n pa v1 v2 => Sys2Proof.Machine.execPeerAccess port op n pa v1 v2 s
  | .hostRead sector => Sys2Proof.Machine.execHostRead sector s
  | .hostReadOwn sector => Sys2Proof.Machine.execHostReadOwn sector s
  | .hostWrite sector data mask => Sys2Proof.Machine.execHostWrite sector data mask s
  | .hostSnoop line excl => Sys2Proof.Machine.execHostSnoop line excl s
  | .biasToDevice gran => Sys2Proof.Machine.execBiasToDevice gran s
  | .biasToHost gran => Sys2Proof.Machine.execBiasToHost gran s
  | .biasExpose gran => Sys2Proof.Machine.execBiasExpose gran s
  | .biasWithdraw gran => Sys2Proof.Machine.execBiasWithdraw gran s
  | .biasFlipComplete gran => Sys2Proof.Machine.execBiasFlipComplete gran s
  | .hbStatClear => Sys2Proof.Machine.execHbStatClear s
  | .flitRetry link => Sys2Proof.Machine.execFlitRetry link s
  | .linkRetrain link => Sys2Proof.Machine.execLinkRetrain link s
  | .linkTrain port rate flit256 host => Sys2Proof.Machine.execLinkTrain port rate flit256 host s
  | .traceEnable die => Sys2Proof.Machine.execTraceEnable die s
  | .traceRetry die => Sys2Proof.Machine.execTraceRetry die s
  | .dieWake die => Sys2Proof.Machine.execDieWake die s
  | .coldStart => Sys2Proof.Machine.execColdStart s
  | .startStepTimeout step die => Sys2Proof.Machine.execStartStepTimeout step die s
  | .discoveryPacket src dst => Sys2Proof.Machine.execDiscoveryPacket src dst s
  | .bootImageHop site ok => Sys2Proof.Machine.execBootImageHop site ok s
  | .warmStart stateOk => Sys2Proof.Machine.execWarmStart stateOk s
  | .keySlotAssign slot => Sys2Proof.Machine.execKeySlotAssign slot s
  | .keySlotDiscard slot => Sys2Proof.Machine.execKeySlotDiscard slot s
  | .attestationSign advanced => Sys2Proof.Machine.execAttestationSign advanced s
  | .registerWrite pa value => Sys2Proof.Machine.execRegisterWrite pa value s
  | .xwaitComplete site => Sys2Proof.Machine.execXwaitComplete site s
  | .diePowerGate die => Sys2Proof.Machine.execDiePowerGate die s
  | .migrationIncomingMark mark => Sys2Proof.Machine.execMigrationIncomingMark mark s
  | .migrationIncomingRelease frame => Sys2Proof.Machine.execMigrationIncomingRelease frame s
  | .powerLoss => Sys2Proof.Machine.execPowerLoss s

end Sys2Proof.Machine
end

