-- ==== Sys2Proof/Machine/Inputs.lean ====
section
/-! DEFINITION. Inputs: what reaches the units from outside the rules that number the events (log 7, 8). -/

namespace Sys2Proof.Machine

/-- An agent other than the home evicts a sector that it does not pin: all its tokens go home (12 R286). -/
def State.evictSector (s : State) (k agent : Nat) : State :=
  let home := agentHome (homeDie (64 * k))
  let h := (s.sector k).holding home agent
  if agent = home ∨ h.count = 0 ∨ s.pinned k agent true then s else s.sendTok k agent (.unit (agentDie agent % 4)) ⟨agent, home, h.count, h.owner, h.owner⟩

/-- An entry that a cache drops; one whose parity was bad is counted as corrected (10 R247, 11 R271). -/
def State.dropped (s : State) (die unit addr : Nat) (bad : Bool) : State := if bad then s.logFixed die unit addr else s

/-- An error in a slice or a remote-data cache (16 R403): corrected; or clean data is fetched again, which is logged as corrected, and
owner data resets the sector (12 R308). -/
def State.upsetCache (s : State) (k agent : Nat) (unc : Bool) : State :=
  let h := (s.sector k).holding (agentHome (homeDie (64 * k))) agent
  let unit := if agentKind agent = 3 then 4 else 3
  if (agentKind agent ≠ 1 ∧ agentKind agent ≠ 3) ∨ h.count = 0 ∨ !h.data then s
  else if unc && h.owner then s.startReset k unit
  else s.logFixed (agentDie agent) unit (64 * k)

/-- The host stores to its own memory once its snoops have taken the lines that slices hold (18 R455). -/
def State.hostStore (s : State) (a n v : Nat) : State :=
  { s with
    hostLines := s.hostLines.filter (fun p => !(decide (128 * p.1 < a + n) && decide (a < 128 * p.1 + 128)))
    hostMem := memWrite s.hostMem a n v }

/-- The effect of an input. -/
def State.input (s : State) (x : Input) : State :=
  match x with
  | .dropTlb site i bad =>
    match (s.core site).tlb[i]? with
    | none => s
    | some e => (s.onCore site (fun c => { c with tlb := c.tlb.eraseIdx i })).dropped (siteDie site) 1 e.base bad
  | .dropClusTlb k i bad =>
    match (tabGet s.clusTlb k [])[i]? with
    | none => s
    | some e => ({ s with clusTlb := tabSet s.clusTlb k ((tabGet s.clusTlb k []).eraseIdx i) } : State).dropped (k / 128) 1 e.base bad
  | .dropWalk die i bad =>
    match (s.die die).walk[i]? with
    | none => s
    | some e => (s.putDie die { s.die die with walk := (s.die die).walk.eraseIdx i }).dropped die 1 (e.tag * 2 ^ levelSpan e.level) bad
  | .dropRlb site i bad =>
    match (s.core site).rlb[i]? with
    | none => s
    | some e => (s.onCore site (fun c => { c with rlb := c.rlb.eraseIdx i })).dropped (siteDie site) 2 e.lo bad
  | .evictSector k agent => s.evictSector k agent
  | .evictTag line => if s.evictable line then s.onL2 line (fun c => c.evict line) else s
  | .upsetWord site w mask => if w < 32768 then s.onCore site (fun c => c.flipBits (8 * w) mask) else s
  | .upsetHbm k unc => { s with hbmErr := tabSet s.hbmErr k unc }
  | .upsetCache k agent unc => s.upsetCache k agent unc
  | .upsetTokens k unc =>
    if (s.sector k).resetting then s else if unc then s.startReset k 7 else s.logFixed (homeDie (64 * k)) 7 (64 * k)
  | .upsetSwatch die i unc => s.putDie die { s.die die with l2 := (s.die die).l2.setErr i (some unc) }
  | .upsetLeaf w diff => { s with homeDiff := tabSet s.homeDiff w diff }
  | .upsetUndo site i => s.spoilUndo site i
  | .refresh die => if s.mayCharge die 1 then s.charge die 1 else s
  | .debugStop g =>
    match tabGet? s.gangs g with
    | none => s
    | some x => x.cores.foldl (fun s t => s.haltCore t cPREEMPT) s
  | .hostStore a n v => s.hostStore a n v
  | .hostModify k v =>
    if (s.sector k).host = .x then { s with hostCache := tabSet s.hostCache k (v % 2 ^ 512) } else s
  | .extStore a n v => { s with extMem := memWrite s.extMem a n v }
  | .flashImage rec_ x => { s with boot := if rec_ then { s.boot with recovery := x } else { s.boot with firmware := x } }
  | .hostAnswers a => { s with hostAns := a }
  | .extAnswers d a => { s with extAns := tabSet s.extAns d a }

end Sys2Proof.Machine
end

