-- ==== Sys2Proof/Machine/Issue.lean ====
section
/-! DEFINITION. One move of the module: a core fetches, decodes and executes its next instruction (03 R84), or an event
happens; then time passes (00 R1, 19 R461). -/

namespace Sys2Proof.Machine

/-- What is fetched, decoded and executed: steps 1 to 8 of 03 R84 here, the rest in the instruction's meaning. -/
noncomputable def State.runFetched (s : State) (ws : List Word) : Out :=
  match decode s.errInj ws with
  | .instr i => exec i s
  | .illegalOpcode => .next (s.trapAt s.cur (s.core s.cur) ⟨cILLEGAL_OPCODE, evalOfWords ws⟩)
  | .illegalLength => .next (s.trapAt s.cur (s.core s.cur) ⟨cILLEGAL_LENGTH, evalOfWords ws⟩)
  | .illegalField => .next (s.trapAt s.cur (s.core s.cur) ⟨cILLEGAL_FIELD, evalOfWords ws⟩)
  | .short => .next (s.trapAt s.cur (s.core s.cur) ⟨cILLEGAL_OPCODE, evalOfWords ws⟩)

/-- The current core fetches and executes its own next instruction. -/
noncomputable def State.issueOwn (s : State) : Out :=
  match (s.core s.cur).fetch with
  | (c, .error e) => .next (s.trapAt s.cur c e)
  | (c, .ok ws) => (s.putCore s.cur c).runFetched ws

/-- The core is a follower of a formed stitch (08 R206). -/
def State.follows (s : State) (site : Nat) : Bool := (s.core site).formed && (s.core site).stLead != siteSlot site

/-- A follower's code region as its leader's, so that it executes what the leader forwards (08 R206). -/
def Core.borrow (c lead : Core) : Core :=
  { c with loc := memCopy lead.loc 0 c.loc 0 c.xbAddr, flips := c.flips.filter (fun p => decide (c.xbAddr / 8 ≤ p.1)) }

/-- The follower's own code region back in its place. -/
def Core.giveBack (c own : Core) : Core :=
  { c with
    loc := memCopy own.loc 0 c.loc 0 own.xbAddr
    flips := own.flips.filter (fun p => decide (p.1 < own.xbAddr / 8)) ++ c.flips.filter (fun p => decide (own.xbAddr / 8 ≤ p.1)) }

/-- The leader of the formed stitch of a core. -/
def State.leaderOf (s : State) (site : Nat) : Core := s.core (clusterSite (sitePkgCluster site) (s.core site).stLead)

/-- The address of the instruction that a follower's leader has issued and the follower has not completed; or that of the
leader's next instruction, when the two stand at the same one. -/
def State.leadAddr (s : State) (site : Nat) : Option (BitVec 18) :=
  match (s.core site).trail with
  | pc :: _ => some pc
  | [] => if (s.leaderOf site).trail.isEmpty then some (s.leaderOf site).pc else none

/-- A follower leaves the stitch when its own next address is not the leader's (08 R206). -/
def State.parts (s : State) (site : Nat) : Bool :=
  match s.leadAddr site with
  | some pc => (s.core site).pc != pc
  | none => false

/-- A follower executes what its leader has issued at the same address, or leaves the stitch when its own next address
is another (08 R206). -/
noncomputable def State.issueFollower (s : State) : Out :=
  let c := s.core s.cur
  if s.parts s.cur then (s.unstitch s.cur).issueOwn
  else if c.trail.isEmpty then .next s
  else
      match (s.putCore s.cur (c.borrow (s.leaderOf s.cur))).issueOwn with
      | .next t => .next (t.onCore s.cur (fun x => x.giveBack c))
      | r => r

/-- The current core may issue: it works, its die has power, it runs, and no stop holds its issue (16 R402, 19 R461). -/
def State.mayIssue (s : State) : Bool :=
  s.works s.cur && (s.die (siteDie s.cur)).gated.isNone && (s.core s.cur).run == .running && !(s.core s.cur).haltsIssue

/-- A stall of any member of a stitch stalls every member (08 R206): a leader issues no new instruction while a follower has not
completed the last one. -/
def State.awaitsFollower (s : State) (site : Nat) : Bool :=
  let c := s.core site
  c.formed && c.stLead == siteSlot site && c.trail.isEmpty
    && (maskSites site c.stMask).any (fun m => m != site && (s.core m).formed && !(s.core m).trail.isEmpty)

/-- The current core issues, or takes its interrupt (02 R52). -/
noncomputable def State.issue (s : State) : Out :=
  if !s.mayIssue then .next s
  else if (s.core s.cur).mayInterrupt then .next (s.takeInterrupt s.cur)
  else if s.awaitsFollower s.cur then .next s
  else if s.follows s.cur then s.issueFollower
  else s.issueOwn

/-- One move: an event of the agenda, a core named by it, an input, or the current core. -/
noncomputable def State.move (s : State) : Out :=
  match s.agenda with
  | [] => s.issue
  | .issue n :: rest => { s with agenda := rest, cur := n }.issue
  | .event e :: rest =>
    let s' : State := { s with agenda := rest }
    if e.isEvent then exec e s' else .next s'
  | .input x :: rest => .next (({ s with agenda := rest } : State).input x)

/-- The core completed an instruction in a move. -/
def State.completed (s t : State) (site : Nat) : Bool := tabGet (s.core site).cnt 1 0 != tabGet (t.core site).cnt 1 0

/-- The followers of a leader are given the address of an instruction that it has issued. -/
def State.handOn (t : State) (site : Nat) (pc : BitVec 18) : State :=
  (maskSites site (t.core site).stMask).foldl (fun u m =>
    if m = site || !(u.core m).formed then u else u.onCore m (fun x => { x with trail := x.trail ++ [pc] })) t

/-- A stitch after a move from s (08 R206): an instruction that a leader has issued goes to its followers once, when it completes or
begins to wait in place; what a follower completed is behind it. -/
def State.forward (t s : State) : State :=
  t.cores.foldl (fun u p =>
    let c := u.core p.1
    let pc := (s.core p.1).pc
    if !c.formed || !(s.core p.1).formed then u
    else if c.stLead = siteSlot p.1 then
      if s.completed t p.1 then
        (if (s.core p.1).trail.isEmpty then u.handOn p.1 pc else u).onCore p.1 (fun x => { x with trail := [] })
      else if c.wait != .none && c.trail.isEmpty then (u.handOn p.1 pc).onCore p.1 (fun x => { x with trail := [pc] })
      else u
    else if s.completed t p.1 then u.onCore p.1 (fun x => { x with trail := x.trail.drop 1 })
    else u) t

/-- The moves that undo logging never delays: what happens at fixed cycles of a gang, and the rollback itself. -/
def inLockstep : Move → Bool
  | .issue _ => false
  | .event (.exchArrival _) => true
  | .event (.exchHorizon _ _) => true
  | .event (.seamComplete _) => true
  | .event (.rollback _) => true
  | .event _ => false
  | .input _ => true

/-- What a move writes in protected gangs is logged first (09 R235); a move that needs it without budget waits, and does nothing
yet (14 R362).  An upset is no write. -/
def State.undone (t s : State) : State :=
  match s.agenda.head? with
  | some (.input _) => t
  | m => if t.undoStalls s && !m.any inLockstep then { s with agenda := t.agenda, cur := t.cur } else t.logUndo s

/-- What follows a move from s at once: undo logs, stitches, traps of launches without a handler, and what lost threads are owed. -/
def State.after (t s : State) : State := (((t.undone s).forward s).endHandlerless s).oweAll

/-- The performance counter that counts the cycles of a wait (19 R463). -/
def Wait.counter : Wait → Option Nat
  | .stall => some 3
  | .join => some 3
  | .retry => some 5
  | .wfi => some 6
  | .cpwait _ => some 6
  | .evwait _ => some 6
  | .mstat _ _ => some 6
  | .fence _ _ => some 6
  | .barrier _ _ => some 13
  | .arrive _ => some 13
  | .seam _ _ _ => some 13
  | .final _ _ => some 13
  | _ => Option.none

/-- n cycles pass for a core: its counters and its event timer (19 R463, 14 R358); what its move wrote is behind it. -/
def Core.pass (n bank : Nat) (held : Bool) (c : Core) : Core :=
  let c1 := match c.waiting.counter with
    | some k => c.count k n
    | none => c
  let c2 := if held then c1.count 4 n else c1
  let c3 := if bank = 0 then c2 else c2.count 2 bank
  { c3.elapse n with wrote := [] }

/-- The entries that a core has for its die's log are written (16 R405). -/
def State.flushLogs (s : State) : State :=
  s.cores.foldl (fun s p =>
    (p.2.logs.foldl (fun s e => s.logFor (siteDie p.1) p.1 e) s).onCore p.1 (fun c => { c with logs := [] }))
    s

/-- Whether a core waits for leave (14 R361). -/
def State.awaitsLeave (s : State) (site : Nat) : Bool := (s.gov (siteQuad site)).fifo.any (fun r => r.site == site)

/-- The cycles that pass in an island in a step: the open number, up to the next cycle at which an exchange must happen in it
(09 R225, R226). -/
def State.cyclesIn (s : State) (q : Nat) : Nat :=
  match s.exchNext q with
  | some l => min (Config.freeCycles s.free q) (l - tabGet s.cyc q 0)
  | none => Config.freeCycles s.free q

/-- Cycles pass in every island, for cores and governors. -/
def State.passCycles (s : State) : State :=
  let n (q : Nat) : Nat := s.cyclesIn q
  { s with
    cyc := (List.range 22).foldl (fun t q => tabSet t q (tabGet t q 0 + n q)) s.cyc
    cores := s.cores.map (fun p => (p.1, p.2.pass (n (siteQuad p.1)) (Config.freeBank s.free) (s.awaitsLeave p.1)))
    governors := s.governors.map (fun p => (p.1, { p.2 with wait := (p.2.wait + n p.1 * p.2.fifo.length) % 2 ^ 64 })) }

/-- What follows every move: records are written and time passes. -/
def State.tick (s : State) : State :=
  let dt := Config.freeTicks s.free
  let s1 := (s.flushLogs.traceAll.chargeRegions dt).reapTags.noteTails.passCycles
  { s1 with free := s.free + 1, time := (s.time + dt) % 2 ^ 64 }

end Sys2Proof.Machine
end

