-- ==== Sys2Proof/Machine/Step.lean ====
section
/-! DEFINITION. The step of the module, and placing an instruction where the current core fetches. -/

namespace Sys2Proof.Machine

/-- One step: one move, then the passage of time. -/
noncomputable def step (s : State) : Host.Outcome State Fault Refusal :=
  match s.move with
  | .next s' => .next (s'.after s).tick
  | .fault r => .fault r
  | .refused r => .refused r

/-- The instruction whose bits are w, nbits of them given and the others 0, stored where the current core fetches: its
words in memory from s.pc, little-endian, with nothing before it on the agenda. -/
def State.withFetchWord (s : State) (nbits w : Nat) : State :=
  let c := s.core s.cur
  let c' : Core :=
    { c with
      run := .running
      rep := none
      loc := memWrite c.loc c.pc.toNat 20 (w % 2 ^ nbits)
      flips := c.flips.filter (fun p => decide (p.1 < c.pc.toNat / 8) || decide (c.pc.toNat / 8 + 3 < p.1)) }
  { s.putCore s.cur c' with agenda := [] }

end Sys2Proof.Machine
end

