-- ==== Sys2Proof/Safety/Arithmetic.lean ====
section
/-! DEFINITION. What 04 R88 to R102 say of the values of the formats and of rounding to them, over the rationals and without the
functions of the model. -/

namespace Sys2Proof.Machine

/-- A power of two. -/
def pow2 (k : Int) : Rat := if 0 ≤ k then ((2 ^ k.toNat : Nat) : Rat) else 1 / ((2 ^ (-k).toNat : Nat) : Rat)

/-- A format as 04 R88 lists it: the widths of its exponent and fraction, its bias, its largest finite value and its special codes; and
its canonical NaN (04 R90), where it has one. -/
structure Format where
  ebits : Nat
  mbits : Nat
  bias : Int
  largest : Rat
  specials : Specials
  canonical : Nat

/-- The formats by type code (04 R88, R90). -/
def formats : List (BitVec 4 × Format) :=
  [(11, ⟨11, 52, 1023, (2 - pow2 (-52)) * pow2 1023, .ieee, 0x7FF8000000000000⟩),
   (10, ⟨8, 23, 127, (2 - pow2 (-23)) * pow2 127, .ieee, 0x7FC00000⟩),
   (8, ⟨5, 10, 15, 65504, .ieee, 0x7E00⟩),
   (9, ⟨8, 7, 127, (2 - pow2 (-7)) * pow2 127, .ieee, 0x7FC0⟩),
   (12, ⟨4, 3, 7, 448, .nanTop, 0x7F⟩),
   (13, ⟨5, 2, 15, 57344, .ieee, 0x7E⟩),
   (14, ⟨3, 2, 3, 28, .none, 0⟩),
   (15, ⟨2, 3, 1, 15 / 2, .none, 0⟩)]

/-- The sign, the exponent field and the fraction of a code (04 R88). -/
def Format.neg (F : Format) (x : Nat) : Bool := x / 2 ^ (F.ebits + F.mbits) % 2 == 1
def Format.expo (F : Format) (x : Nat) : Nat := x / 2 ^ F.mbits % 2 ^ F.ebits
def Format.frac (F : Format) (x : Nat) : Nat := x % 2 ^ F.mbits

/-- A code is an infinity, a NaN, or a signalling NaN (04 R88, R90). -/
def Format.isInf (F : Format) (x : Nat) : Bool := F.specials == .ieee && F.expo x == 2 ^ F.ebits - 1 && F.frac x == 0
def Format.isNaN (F : Format) (x : Nat) : Bool :=
  F.expo x == 2 ^ F.ebits - 1 && (F.specials == .ieee && F.frac x != 0 || F.specials == .nanTop && F.frac x == 2 ^ F.mbits - 1)
def Format.isSNaN (F : Format) (x : Nat) : Bool := F.isNaN x && F.specials == .ieee && decide (F.frac x < 2 ^ (F.mbits - 1))
def Format.finite (F : Format) (x : Nat) : Bool := !F.isInf x && !F.isNaN x

/-- The value of a finite code (04 R88). -/
def Format.value (F : Format) (x : Nat) : Rat :=
  (if F.neg x then -1 else 1) *
    (if F.expo x = 0 then (F.frac x : Rat) * pow2 (1 - F.bias - F.mbits)
     else ((2 ^ F.mbits + F.frac x : Nat) : Rat) * pow2 (F.expo x - F.bias - F.mbits))

/-- The code of a zero and of an infinity with a sign (04 R88). -/
def Format.zero (F : Format) (neg : Bool) : Nat := if neg then 2 ^ (F.ebits + F.mbits) else 0
def Format.inf (F : Format) (neg : Bool) : Nat := F.zero neg + (2 ^ F.ebits - 1) * 2 ^ F.mbits

/-- How a rational from 0 up compares with a real magnitude: with a rational, and with the square root of one. -/
abbrev Cut := Rat → Ordering
def ratCut (y : Rat) : Cut := fun q => if q < y then .lt else if q = y then .eq else .gt
def rootCut (v : Rat) : Cut := fun q => ratCut v (q * q)

/-- n * u is the magnitude rounded to a multiple of u, for a value of a sign (04 R93): l * u and its neighbour enclose it. -/
def Rounded (rm : BitVec 3) (neg : Bool) (c : Cut) (u : Rat) (n : Nat) : Prop :=
  ∃ l : Nat, c (l * u) ≠ .gt ∧ c ((l + 1) * u) = .gt ∧
    let half := c ((l + 1 / 2) * u)
    n = if c (l * u) = .eq then l
        else match rm.toNat with
          | 0 => if half = .lt ∨ (half = .eq ∧ l % 2 = 1) then l + 1 else l
          | 1 => l
          | 2 => if neg then l else l + 1
          | 3 => if neg then l + 1 else l
          | _ => if half = .gt then l else l + 1

/-- An overflow is delivered as the largest finite value (04 R94). -/
def Format.clamps (F : Format) (rm : BitVec 3) (sat neg : Bool) : Bool :=
  F.specials != .ieee || sat || rm == 1 || (rm == 2 && neg) || (rm == 3 && !neg)

/-- The result of rounding a nonzero value to a format (04 R93 to R95): k is its binade, u the spacing there, at least that of the
subnormals, and n' * w what it rounds to without them. -/
def Format.Rounds (F : Format) (rm : BitVec 3) (sat neg : Bool) (c : Cut) (r : FRes) : Prop :=
  ∀ k : Int, c (pow2 k) ≠ .gt → c (pow2 (k + 1)) = .gt →
    ∃ n n' : Nat,
      let u := pow2 (max (k - F.mbits) (1 - F.bias - F.mbits))
      let w := pow2 (k - F.mbits)
      let x := r.bits.toNat
      Rounded rm neg c u n ∧ Rounded rm neg c w n' ∧ x < 2 ^ (1 + F.ebits + F.mbits) ∧ F.neg x = neg ∧
      (F.largest < n * u → r.flags = 0b00101 ∧
        (if F.clamps rm sat neg then F.finite x ∧ F.value x = (if neg then -F.largest else F.largest) else x = F.inf neg)) ∧
      (n * u ≤ F.largest → F.finite x ∧ F.value x = (if neg then -(n * u) else n * u) ∧
        r.flags = if c (n * u) = .eq then 0 else if n' * w < pow2 (1 - F.bias) then 0b00011 else 0b00001)

/-- The result that an exact value gives, with the sign that an exact zero takes (04 R93 to R97). -/
def Format.Delivers (F : Format) (rm : BitVec 3) (sat : Bool) (y : Rat) (zeroNeg : Bool) (r : FRes) : Prop :=
  (y = 0 → r.bits.toNat = F.zero zeroNeg ∧ r.flags = 0) ∧
  (0 < y → F.Rounds rm sat false (ratCut y) r) ∧ (y < 0 → F.Rounds rm sat true (ratCut (-y)) r)

/-- A code comes before another in the order of 04 R99, neither being a NaN. -/
def Format.before (F : Format) (x y : Nat) : Prop :=
  if F.isInf x then F.neg x = true ∧ ¬ (F.isInf y = true ∧ F.neg y = true)
  else if F.isInf y then F.neg y = false
  else F.value x < F.value y ∨ (F.value x = 0 ∧ F.value y = 0 ∧ F.neg x = true ∧ F.neg y = false)

/-- The least and the largest number of an integer type, by its code (04 R92). -/
def intRange (t : BitVec 4) : Int × Int :=
  let w : Nat := 8 * 2 ^ (t.toNat % 4)
  if t.toNat < 4 then (-(2 ^ (w - 1) : Nat), (2 ^ (w - 1) : Nat) - 1) else (0, (2 ^ w : Nat) - 1)

/-- The number v of an integer type whose two's complement the low bits of an operand are (04 R92). -/
def intOf (t : BitVec 4) (x : DWord) (v : Int) : Prop :=
  (intRange t).1 ≤ v ∧ v ≤ (intRange t).2 ∧ ((2 ^ (8 * 2 ^ (t.toNat % 4)) : Nat) : Int) ∣ v - x.toNat

/-- What a value rounded to an integer delivers in an integer type (04 R101). -/
def Saturates (t : BitVec 4) (i : Int) (exact : Bool) (r : FRes) : Prop :=
  let lo := (intRange t).1
  let hi := (intRange t).2
  if i < lo then r = ⟨BitVec.ofInt 64 lo, 16⟩
  else if hi < i then r = ⟨BitVec.ofInt 64 hi, 16⟩
  else r = ⟨BitVec.ofInt 64 i, if exact then 0 else 1⟩

end Sys2Proof.Machine
end

