-- ==== Sys2Proof/Safety.lean ====
section
/-! DEFINITION. The terms in which claims are stated: a step that goes on, an instruction whose operands are clear, a core
after an instruction, and what stays the same. -/

namespace Sys2Proof

/-- A step is safe when it answers a next state. -/
def Safe (s : Machine.State) : Prop := ∃ t, Machine.step s = .next t

namespace Machine

/-- Nothing in the order of 03 R84 stands against the instruction before its own causes: its rounding mode is a code (step 8),
it is not a control instruction in a delay slot (step 9), the mode suffices (step 10), every operand names a word in its
bounds (step 11), and no word that it reads is in the shadow of a write (step 12) or has a flipped bit (02 R43). -/
structure Core.Clear (r : Req) (c : Core) : Prop where
  rounding : c.badRM r.rm = false
  slot : r.ctl = true → c.ds = .none
  mode : r.mode ≤ c.mode
  bound : ∀ u ∈ r.uses, c.boundOf u = none
  shadow : ∀ w ∈ c.readWords r.uses, c.inShadow w = false
  whole : ∀ w ∈ c.readWords r.uses, tabGet? c.flips w = none

/-- A core once an instruction of it has completed: one more instruction is counted (19 R463), and it waits for nothing. -/
def Core.closed (c : Core) : Core := { c.count 1 1 with wait := .none }

/-- A core once an instruction of len bytes that does not direct fetch has completed. -/
def Core.finish (len : Nat) (c : Core) : Core := (Core.advance len c).closed

/-- The machine once the core at a site has completed an instruction of len bytes that left it as c. -/
def State.finishAt (s : State) (site len : Nat) (c : Core) : State := s.putCore site (c.finish len)

/-- The byte at a local address. -/
def Core.byte (c : Core) (a : Nat) : Byte := memGet c.loc a

/-- The local byte addresses of workspace word w. -/
def Core.inWord (c : Core) (w a : Nat) : Prop := c.wpAddr + 8 * w ≤ a ∧ a < c.wpAddr + 8 * w + 8

/-- What no instruction that concerns its own core alone touches: everything but the core's scratchpad, its check bits, its
special registers, the state of its fetch, its shadows and its counters. -/
def Core.sameElse (c d : Core) : Prop :=
  { d with
    loc := c.loc, flips := c.flips, wrote := c.wrote, sp := c.sp, pc := c.pc, ds := c.ds, rep := c.rep, shadows := c.shadows, late := c.late, held := c.held
    cnt := c.cnt, wait := c.wait, logs := c.logs } = c

/-- The machine as the body of an instruction of the current core finds it: one slot has passed for the core's shadows (02 R49). -/
def State.begun (s : State) : State := s.putCore s.cur (s.core s.cur).tickShadows

/-- The machine once the core at a site has completed an instruction of len bytes that concerned more than its core and left
the machine as u. -/
def State.ended (u : State) (site len : Nat) : State :=
  u.putCore site (Core.count 1 1 (Core.advance len { u.core site with wait := .none, moved := (u.core site).othersMoves }))

/-- The machine once the core at a site waits in place in u, its shadows as they were in s (02 R49, R51). -/
def State.held_ (u s : State) (site : Nat) (w : Wait) : State :=
  u.putCore site { u.core site with shadows := (s.core site).shadows, late := (s.core site).late, wait := w }

/-- The machine once an instruction of the core at a site has trapped in u, its shadows as they were in s. -/
def State.trapped (u s : State) (site : Nat) (e : Exc) : State :=
  u.trapAt site { u.core site with shadows := (s.core site).shadows, late := (s.core site).late } e

/-- The machine but for one core. -/
def State.sameBut (s t : State) (site : Nat) : Prop :=
  { t with cores := s.cores } = s ∧ ∀ n, n ≠ site → t.core n = s.core n

end Machine

end Sys2Proof
end

