-- ==== Sys2Proof/Safety/Scalar.lean ====
section
/-! DEFINITION. The results that 05 R120 to R124, R130, R138 and R141 and 06 R146 give to the scalar integer instructions,
in whole-number arithmetic. -/

namespace Sys2Proof.Machine

/-- One scalar instruction as its rule states it: its length, what it reads, where it writes, what it writes and the slots
after which the result is readable. -/
structure Scalar where
  len : Nat
  reads : List Use
  dst : GOp
  val : DWord
  lat : Nat
  deriving DecidableEq, Repr

/-- What the rules ask of the operands. -/
def Scalar.req (x : Scalar) : Req := { uses := x.reads ++ [wr .D x.dst] }

namespace Says

/-- The low 32 bits as a number, unsigned and signed. -/
def lo (x : DWord) : Nat := x.toNat % 2 ^ 32
def loS (x : DWord) : Int := (x.setWidth 32).toInt

/-- A 32-bit result, sign-extended (05 R117). -/
def w32 (n : Int) : DWord := (BitVec.ofInt 32 n).signExtend 64
def i64 (n : Int) : DWord := BitVec.ofInt 64 n
def n64 (n : Nat) : DWord := BitVec.ofNat 64 n
def truth (p : Prop) [Decidable p] : DWord := if p then 1 else 0

def add (x y : DWord) : DWord := i64 (x.toInt + y.toInt)
def sub (x y : DWord) : DWord := i64 (x.toInt - y.toInt)
def addW (x y : DWord) : DWord := w32 (loS x + loS y)
def subW (x y : DWord) : DWord := w32 (loS x - loS y)
def andn (x y : DWord) : DWord := x &&& ~~~y
def shl (x y : DWord) : DWord := n64 (x.toNat * 2 ^ (y.toNat % 64))
def shr (x y : DWord) : DWord := n64 (x.toNat / 2 ^ (y.toNat % 64))
def sar (x y : DWord) : DWord := i64 (x.toInt / 2 ^ (y.toNat % 64))
def shlW (x y : DWord) : DWord := w32 (lo x * 2 ^ (y.toNat % 32))
def shrW (x y : DWord) : DWord := w32 ((lo x / 2 ^ (y.toNat % 32) : Nat) : Int)
def sarW (x y : DWord) : DWord := w32 (loS x / 2 ^ (y.toNat % 32))
def slt (x y : DWord) : DWord := truth (x.toInt < y.toInt)
def sltn (x y : DWord) : DWord := truth (x.toNat < y.toNat)
def min (x y : DWord) : DWord := i64 (Min.min x.toInt y.toInt)
def max (x y : DWord) : DWord := i64 (Max.max x.toInt y.toInt)
def minn (x y : DWord) : DWord := n64 (Min.min x.toNat y.toNat)
def maxn (x y : DWord) : DWord := n64 (Max.max x.toNat y.toNat)
/-- The zeros above the highest 1 and below the lowest 1, 64 for zero; the ones. -/
def clz (x : DWord) : DWord := n64 (((List.range 64).takeWhile (fun i => !x.getLsbD (63 - i))).length)
def ctz (x : DWord) : DWord := n64 (((List.range 64).takeWhile (fun i => !x.getLsbD i)).length)
def popc (x : DWord) : DWord := n64 ((List.range 64).countP (fun i => x.getLsbD i))
/-- Bit i of the result is bit 63 - i of the operand. -/
def rev (x : DWord) : DWord := n64 (((List.range 64).map (fun i => if x.getLsbD (63 - i) then 2 ^ i else 0)).sum)
def sext (n : Nat) (x : DWord) : DWord := i64 (x.setWidth n).toInt
def zext (n : Nat) (x : DWord) : DWord := n64 (x.toNat % 2 ^ n)
def rol (x y : DWord) : DWord := n64 (x.toNat * 2 ^ (y.toNat % 64) % 2 ^ 64 + x.toNat * 2 ^ (y.toNat % 64) / 2 ^ 64)
def ror (x y : DWord) : DWord :=
  n64 (x.toNat / 2 ^ (y.toNat % 64) + x.toNat % 2 ^ (y.toNat % 64) * 2 ^ (64 - y.toNat % 64))

def mul (x y : DWord) : DWord := i64 (x.toInt * y.toInt)
def mulh (x y : DWord) : DWord := i64 (x.toInt * y.toInt / 2 ^ 64)
def mulhn (x y : DWord) : DWord := n64 (x.toNat * y.toNat / 2 ^ 64)
def mulW (x y : DWord) : DWord := w32 (loS x * loS y)
/-- Division truncates; by zero it gives all ones and the dividend, and the most negative number by -1 gives itself and 0. -/
def quo (w : Nat) (x y : Int) : Int := if y = 0 then -1 else if x = -2 ^ (w - 1) ∧ y = -1 then x else x.tdiv y
def rest (w : Nat) (x y : Int) : Int := if y = 0 then x else if x = -2 ^ (w - 1) ∧ y = -1 then 0 else x.tmod y
def quoN (w x y : Nat) : Nat := if y = 0 then 2 ^ w - 1 else x / y
def div (x y : DWord) : DWord := i64 (quo 64 x.toInt y.toInt)
def divn (x y : DWord) : DWord := n64 (quoN 64 x.toNat y.toNat)
def rem (x y : DWord) : DWord := i64 (rest 64 x.toInt y.toInt)
def remn (x y : DWord) : DWord := n64 (x.toNat % y.toNat)
def divW (x y : DWord) : DWord := w32 (quo 32 (loS x) (loS y))
def divnW (x y : DWord) : DWord := w32 ((quoN 32 (lo x) (lo y) : Nat) : Int)
def remW (x y : DWord) : DWord := w32 (rest 32 (loS x) (loS y))
def remnW (x y : DWord) : DWord := w32 ((lo x % lo y : Nat) : Int)

/-- A field of n = L bits, 64 for 0, from bit P (05 R124). -/
def fieldN (l : BitVec 6) : Nat := if l.toNat = 0 then 64 else l.toNat
def bfx (p l : BitVec 6) (x : DWord) : DWord := n64 (x.toNat / 2 ^ p.toNat % 2 ^ fieldN l)
/-- Bit i of the old destination, or bit i - P of the source inside the field. -/
def bfi (p l : BitVec 6) (old x : DWord) : DWord :=
  n64 (((List.range 64).map (fun i =>
    if (if p.toNat ≤ i ∧ i < p.toNat + fieldN l then x.getLsbD (i - p.toNat) else old.getLsbD i) then 2 ^ i else 0)).sum)

/-- The INT and MULDIV functions by their code (03 R77, R81), as INTX names them. -/
def intFns : List (DWord → DWord → DWord) :=
  [add, sub, addW, subW, fun x y => x &&& y, fun x y => x ||| y, fun x y => x ^^^ y, andn, shl, shr, sar, shlW, shrW, sarW,
   slt, sltn, min, max, minn, maxn]
  ++ [fun x _ => clz x, fun x _ => ctz x, fun x _ => popc x, fun x _ => rev x, fun x _ => sext 8 x, fun x _ => sext 16 x,
      fun x _ => sext 32 x, fun x _ => zext 8 x, fun x _ => zext 16 x, fun x _ => zext 32 x, rol, ror]
def mulFns : List (DWord → DWord → DWord) := [mul, mulh, mulhn, mulW, div, divn, rem, remn, divW, divnW, remW, remnW]

/-- 3 slots for a multiply, 20 for a division (02 R48). -/
def mdLat (f : Nat) : Nat := if f < 4 then 3 else 20

/-- The forms: two registers, one register, a register and a constant, a constant. -/
def two (c : Core) (len lat : Nat) (d a b : GOp) (f : DWord → DWord → DWord) : Option Scalar :=
  some ⟨len, [rd .A a, rd .B b], d, f (c.rg .A a) (c.rg .B b), lat⟩
def one (c : Core) (len : Nat) (d a : GOp) (f : DWord → DWord) : Option Scalar :=
  some ⟨len, [rd .A a], d, f (c.rg .A a), 1⟩
def con (c : Core) (len lat : Nat) (d a : GOp) (k : DWord) (f : DWord → DWord → DWord) : Option Scalar :=
  some ⟨len, [rd .A a], d, f (c.rg .A a) k, lat⟩
def all (len : Nat) (d : GOp) (x : DWord) : Option Scalar := some ⟨len, [], d, x, 1⟩

end Says

open Says in
/-- The scalar instructions that write one register, each as its rule states it; none for an instruction of another kind. -/
def scalarRule (s : State) (i : Instr) : Option Scalar :=
  let c := s.core s.cur
  match i with
  | .add d a b => two c 4 1 (fix d) (fix a) (fix b) Says.add
  | .sub d a b => two c 4 1 (fix d) (fix a) (fix b) Says.sub
  | .addW d a b => two c 4 1 (fix d) (fix a) (fix b) Says.addW
  | .subW d a b => two c 4 1 (fix d) (fix a) (fix b) Says.subW
  | .and d a b => two c 4 1 (fix d) (fix a) (fix b) (fun x y => x &&& y)
  | .or d a b => two c 4 1 (fix d) (fix a) (fix b) (fun x y => x ||| y)
  | .xor d a b => two c 4 1 (fix d) (fix a) (fix b) (fun x y => x ^^^ y)
  | .andn d a b => two c 4 1 (fix d) (fix a) (fix b) Says.andn
  | .shl d a b => two c 4 1 (fix d) (fix a) (fix b) Says.shl
  | .shr d a b => two c 4 1 (fix d) (fix a) (fix b) Says.shr
  | .sar d a b => two c 4 1 (fix d) (fix a) (fix b) Says.sar
  | .shlW d a b => two c 4 1 (fix d) (fix a) (fix b) Says.shlW
  | .shrW d a b => two c 4 1 (fix d) (fix a) (fix b) Says.shrW
  | .sarW d a b => two c 4 1 (fix d) (fix a) (fix b) Says.sarW
  | .slt d a b => two c 4 1 (fix d) (fix a) (fix b) Says.slt
  | .sltn d a b => two c 4 1 (fix d) (fix a) (fix b) Says.sltn
  | .min d a b => two c 4 1 (fix d) (fix a) (fix b) Says.min
  | .max d a b => two c 4 1 (fix d) (fix a) (fix b) Says.max
  | .minn d a b => two c 4 1 (fix d) (fix a) (fix b) Says.minn
  | .maxn d a b => two c 4 1 (fix d) (fix a) (fix b) Says.maxn
  | .rol d a b => two c 4 1 (fix d) (fix a) (fix b) Says.rol
  | .ror d a b => two c 4 1 (fix d) (fix a) (fix b) Says.ror
  | .clz d a => one c 4 (fix d) (fix a) Says.clz
  | .ctz d a => one c 4 (fix d) (fix a) Says.ctz
  | .popc d a => one c 4 (fix d) (fix a) Says.popc
  | .rev d a => one c 4 (fix d) (fix a) Says.rev
  | .sextB d a => one c 4 (fix d) (fix a) (sext 8)
  | .sextH d a => one c 4 (fix d) (fix a) (sext 16)
  | .sextW d a => one c 4 (fix d) (fix a) (sext 32)
  | .zextB d a => one c 4 (fix d) (fix a) (zext 8)
  | .zextH d a => one c 4 (fix d) (fix a) (zext 16)
  | .zextW d a => one c 4 (fix d) (fix a) (zext 32)
  | .addLit d a lit => con c 12 1 (fix d) (fix a) lit Says.add
  | .subLit d a lit => con c 12 1 (fix d) (fix a) lit Says.sub
  | .addWLit d a lit => con c 12 1 (fix d) (fix a) lit Says.addW
  | .subWLit d a lit => con c 12 1 (fix d) (fix a) lit Says.subW
  | .andLit d a lit => con c 12 1 (fix d) (fix a) lit (fun x y => x &&& y)
  | .orLit d a lit => con c 12 1 (fix d) (fix a) lit (fun x y => x ||| y)
  | .xorLit d a lit => con c 12 1 (fix d) (fix a) lit (fun x y => x ^^^ y)
  | .andnLit d a lit => con c 12 1 (fix d) (fix a) lit Says.andn
  | .shlLit d a lit => con c 12 1 (fix d) (fix a) lit Says.shl
  | .shrLit d a lit => con c 12 1 (fix d) (fix a) lit Says.shr
  | .sarLit d a lit => con c 12 1 (fix d) (fix a) lit Says.sar
  | .shlWLit d a lit => con c 12 1 (fix d) (fix a) lit Says.shlW
  | .shrWLit d a lit => con c 12 1 (fix d) (fix a) lit Says.shrW
  | .sarWLit d a lit => con c 12 1 (fix d) (fix a) lit Says.sarW
  | .sltLit d a lit => con c 12 1 (fix d) (fix a) lit Says.slt
  | .sltnLit d a lit => con c 12 1 (fix d) (fix a) lit Says.sltn
  | .minLit d a lit => con c 12 1 (fix d) (fix a) lit Says.min
  | .maxLit d a lit => con c 12 1 (fix d) (fix a) lit Says.max
  | .minnLit d a lit => con c 12 1 (fix d) (fix a) lit Says.minn
  | .maxnLit d a lit => con c 12 1 (fix d) (fix a) lit Says.maxn
  | .rolLit d a lit => con c 12 1 (fix d) (fix a) lit Says.rol
  | .rorLit d a lit => con c 12 1 (fix d) (fix a) lit Says.ror
  | .mul d a b => two c 4 3 (fix d) (fix a) (fix b) Says.mul
  | .mulh d a b => two c 4 3 (fix d) (fix a) (fix b) Says.mulh
  | .mulhn d a b => two c 4 3 (fix d) (fix a) (fix b) Says.mulhn
  | .mulW d a b => two c 4 3 (fix d) (fix a) (fix b) Says.mulW
  | .div d a b => two c 4 20 (fix d) (fix a) (fix b) Says.div
  | .divn d a b => two c 4 20 (fix d) (fix a) (fix b) Says.divn
  | .rem d a b => two c 4 20 (fix d) (fix a) (fix b) Says.rem
  | .remn d a b => two c 4 20 (fix d) (fix a) (fix b) Says.remn
  | .divW d a b => two c 4 20 (fix d) (fix a) (fix b) Says.divW
  | .divnW d a b => two c 4 20 (fix d) (fix a) (fix b) Says.divnW
  | .remW d a b => two c 4 20 (fix d) (fix a) (fix b) Says.remW
  | .remnW d a b => two c 4 20 (fix d) (fix a) (fix b) Says.remnW
  | .mulLit d a lit => con c 12 3 (fix d) (fix a) lit Says.mul
  | .mulhLit d a lit => con c 12 3 (fix d) (fix a) lit Says.mulh
  | .mulhnLit d a lit => con c 12 3 (fix d) (fix a) lit Says.mulhn
  | .mulWLit d a lit => con c 12 3 (fix d) (fix a) lit Says.mulW
  | .divLit d a lit => con c 12 20 (fix d) (fix a) lit Says.div
  | .divnLit d a lit => con c 12 20 (fix d) (fix a) lit Says.divn
  | .remLit d a lit => con c 12 20 (fix d) (fix a) lit Says.rem
  | .remnLit d a lit => con c 12 20 (fix d) (fix a) lit Says.remn
  | .divWLit d a lit => con c 12 20 (fix d) (fix a) lit Says.divW
  | .divnWLit d a lit => con c 12 20 (fix d) (fix a) lit Says.divnW
  | .remWLit d a lit => con c 12 20 (fix d) (fix a) lit Says.remW
  | .remnWLit d a lit => con c 12 20 (fix d) (fix a) lit Says.remnW
  | .addi d a imm => con c 4 1 (fix d) (fix a) (sext 12 (imm.setWidth 64)) Says.add
  | .addiLit d a lit => con c 12 1 (fix d) (fix a) lit Says.add
  | .addiW d a imm => con c 4 1 (fix d) (fix a) (sext 12 (imm.setWidth 64)) Says.addW
  | .addiWLit d a lit => con c 12 1 (fix d) (fix a) lit Says.addW
  | .andi d a imm => con c 4 1 (fix d) (fix a) (sext 12 (imm.setWidth 64)) (fun x y => x &&& y)
  | .andiLit d a lit => con c 12 1 (fix d) (fix a) lit (fun x y => x &&& y)
  | .ori d a imm => con c 4 1 (fix d) (fix a) (sext 12 (imm.setWidth 64)) (fun x y => x ||| y)
  | .oriLit d a lit => con c 12 1 (fix d) (fix a) lit (fun x y => x ||| y)
  | .xori d a imm => con c 4 1 (fix d) (fix a) (sext 12 (imm.setWidth 64)) (fun x y => x ^^^ y)
  | .xoriLit d a lit => con c 12 1 (fix d) (fix a) lit (fun x y => x ^^^ y)
  | .slti d a imm => con c 4 1 (fix d) (fix a) (sext 12 (imm.setWidth 64)) Says.slt
  | .sltiLit d a lit => con c 12 1 (fix d) (fix a) lit Says.slt
  | .sltni d a imm => con c 4 1 (fix d) (fix a) (sext 12 (imm.setWidth 64)) Says.sltn
  | .sltniLit d a lit => con c 12 1 (fix d) (fix a) lit Says.sltn
  | .li d imm => all 4 (fix d) (sext 12 (imm.setWidth 64))
  | .liLit d lit => all 12 (fix d) lit
  | .shli d a amt => con c 4 1 (fix d) (fix a) (n64 amt.toNat) Says.shl
  | .shri d a amt => con c 4 1 (fix d) (fix a) (n64 amt.toNat) Says.shr
  | .sari d a amt => con c 4 1 (fix d) (fix a) (n64 amt.toNat) Says.sar
  | .shliW d a amt => con c 4 1 (fix d) (fix a) (n64 amt.toNat) Says.shlW
  | .shriW d a amt => con c 4 1 (fix d) (fix a) (n64 amt.toNat) Says.shrW
  | .sariW d a amt => con c 4 1 (fix d) (fix a) (n64 amt.toNat) Says.sarW
  | .bfx d a p l => one c 4 (fix d) (fix a) (bfx p l)
  | .bfi d a p l => some ⟨4, [rd .A (fix a), rd .D (fix d)], fix d, bfi p l (c.rg .D (fix d)) (c.rg .A (fix a)), 1⟩
  | .intx fn d a b =>
    if 64 ≤ fn.toNat then (mulFns[fn.toNat - 64]?).bind (two c 12 (mdLat (fn.toNat - 64)) d a b)
    else if 20 ≤ fn.toNat ∧ fn.toNat ≤ 29 then (intFns[fn.toNat]?).bind (fun f => one c 12 d a (fun x => f x 0))
    else (intFns[fn.toNat]?).bind (two c 12 1 d a b)
  | .intxLit fn d a lit =>
    if 64 ≤ fn.toNat then (mulFns[fn.toNat - 64]?).bind (con c 20 (mdLat (fn.toNat - 64)) d a lit)
    else if 20 ≤ fn.toNat ∧ fn.toNat ≤ 29 then none
    else (intFns[fn.toNat]?).bind (con c 20 1 d a lit)
  | .sel d a b x =>
    some ⟨12, [rd .A a, rd .B b, rd .C x], d, if c.rg .C x = 0 then c.rg .B b else c.rg .A a, 1⟩
  | .rdtime d => all 4 (fix d) (n64 s.time)
  | .rdcnt d code =>
    all 4 (fix d) (n64 (if code.toNat = 0 then s.cycOf s.cur else if code.toNat ≤ 15 then tabGet c.cnt code.toNat 0 else 0))
  | _ => none

end Sys2Proof.Machine
end

