-- ==== Sys2Proof/Safety/Fp.lean ====
section
/-! DEFINITION. The results that 05 R131 to R138 give to the scalar floating-point instructions: bits and flags. -/

namespace Sys2Proof.Machine

/-- One scalar floating-point instruction as its rule states it: its length, its rounding code, what it reads, where it writes,
the bits and the flags of its result, and the slots after which the result is readable. -/
structure ScalarFp where
  len : Nat
  rm : BitVec 3
  reads : List Use
  dst : GOp
  res : FRes
  lat : Nat
  deriving DecidableEq, Repr

/-- What the rules ask of the operands. -/
def ScalarFp.req (x : ScalarFp) : Req := { rm := x.rm, uses := x.reads ++ [wr .D x.dst] }

namespace Says

/-- A result with no flag. -/
def exact (x : DWord) : FRes := ⟨x, 0⟩

/-- The magnitude of a number of width w under a sign bit (05 R132). -/
def signed (w : Nat) (neg : Bool) (a : DWord) : FRes := exact (n64 (a.toNat % 2 ^ (w - 1) + if neg then 2 ^ (w - 1) else 0))
def sgnBit (w : Nat) (x : DWord) : Bool := x.toNat / 2 ^ (w - 1) % 2 == 1

/-- The comparisons of 05 R133: 1 when the relation holds between two values that are not NaNs; NV on an unordered pair
when sig is clear, else on a signalling NaN. -/
def compare (sig : Bool) (t : BitVec 4) (rel : FV → FV → Bool) (x y : DWord) : FRes :=
  let p := fp t x
  let q := fp t y
  ⟨truth ((!p.isNaN && !q.isNaN && rel p q) = true),
    if (if sig then p.isSNaN || q.isSNaN else p.isNaN || q.isNaN) then flagNV else 0⟩
def unordered (t : BitVec 4) (x y : DWord) : FRes :=
  let p := fp t x
  let q := fp t y
  ⟨truth ((p.isNaN || q.isNaN) = true), if p.isSNaN || q.isSNaN then flagNV else 0⟩

/-- The functions of FP by their mnemonic's place in 03 R78, with the format t, in the mode 0, RNE. -/
def fpFns : List (BitVec 4 → DWord → DWord → FRes) :=
  [fun t => fpAdd t 0, fun t => fpSub t 0, fun t => fpMul t 0, fun t => fpDiv t 0, fun t x _ => fpSqrt t 0 x, fpMin, fpMax,
   fun t x y => signed (tyWidth t) (sgnBit (tyWidth t) y) x,
   fun t x y => signed (tyWidth t) (!sgnBit (tyWidth t) y) x,
   fun t x y => signed (tyWidth t) (sgnBit (tyWidth t) x != sgnBit (tyWidth t) y) x,
   fun t => compare true t FV.eq, fun t => compare false t FV.lt, fun t => compare false t (fun p q => p.lt q || p.eq q),
   fun t x _ => exact (fpClass t x), unordered]

/-- The format of a type field of FP: f32, f64, f16, bf16 (03 R78). -/
def fpFormat (ty : BitVec 2) : BitVec 4 := if ty = 0 then 10 else if ty = 1 then 11 else if ty = 2 then 8 else 9

/-- The forms: two registers, a register and a literal, one register. -/
def fp2 (c : Core) (k lat : Nat) (ty : BitVec 2) (d a b : Reg) : Option ScalarFp :=
  (fpFns[k]?).map (fun f =>
    ⟨4, 0, [rd .A (fix a), rd .B (fix b)], fix d, f (fpFormat ty) (c.rg .A (fix a)) (c.rg .B (fix b)), lat⟩)
def fpL (c : Core) (k lat : Nat) (ty : BitVec 2) (d a : Reg) (lit : DWord) : Option ScalarFp :=
  (fpFns[k]?).map (fun f => ⟨12, 0, [rd .A (fix a)], fix d, f (fpFormat ty) (c.rg .A (fix a)) lit, lat⟩)
def fp1 (c : Core) (k lat : Nat) (ty : BitVec 2) (d a : Reg) : Option ScalarFp :=
  (fpFns[k]?).map (fun f => ⟨4, 0, [rd .A (fix a)], fix d, f (fpFormat ty) (c.rg .A (fix a)) 0, lat⟩)

/-- A product and an addend with their signs, rounded once in the mode of the instruction (05 R136). -/
def fused3 (c : Core) (t1 : BitVec 4) (rm : BitVec 3) (d a b x : GOp) (np nz : Bool) : Option ScalarFp :=
  let p := fp t1 (c.rg .A a)
  let z := fp t1 (c.rg .C x)
  some ⟨12, rm, [rd .A a, rd .B b, rd .C x], d,
    fpFmaV (fmtOf t1) (c.rmode rm) (if np then p.negate else p) (fp t1 (c.rg .B b)) (if nz then z.negate else z), 3⟩

end Says

open Says in
/-- The scalar floating-point instructions, each as its rule states it; none for an instruction of another kind. -/
def scalarFpRule (s : State) (i : Instr) : Option ScalarFp :=
  let c := s.core s.cur
  match i with
  | .fadd ty d a b => fp2 c 0 3 ty d a b
  | .faddLit ty d a lit => fpL c 0 3 ty d a lit
  | .fsub ty d a b => fp2 c 1 3 ty d a b
  | .fsubLit ty d a lit => fpL c 1 3 ty d a lit
  | .fmul ty d a b => fp2 c 2 3 ty d a b
  | .fmulLit ty d a lit => fpL c 2 3 ty d a lit
  | .fdiv ty d a b => fp2 c 3 12 ty d a b
  | .fdivLit ty d a lit => fpL c 3 12 ty d a lit
  | .fsqrt ty d a => fp1 c 4 12 ty d a
  | .fmin ty d a b => fp2 c 5 1 ty d a b
  | .fminLit ty d a lit => fpL c 5 1 ty d a lit
  | .fmax ty d a b => fp2 c 6 1 ty d a b
  | .fmaxLit ty d a lit => fpL c 6 1 ty d a lit
  | .fsgn ty d a b => fp2 c 7 1 ty d a b
  | .fsgnLit ty d a lit => fpL c 7 1 ty d a lit
  | .fsgnn ty d a b => fp2 c 8 1 ty d a b
  | .fsgnnLit ty d a lit => fpL c 8 1 ty d a lit
  | .fsgnx ty d a b => fp2 c 9 1 ty d a b
  | .fsgnxLit ty d a lit => fpL c 9 1 ty d a lit
  | .feq ty d a b => fp2 c 10 1 ty d a b
  | .feqLit ty d a lit => fpL c 10 1 ty d a lit
  | .flt ty d a b => fp2 c 11 1 ty d a b
  | .fltLit ty d a lit => fpL c 11 1 ty d a lit
  | .fle ty d a b => fp2 c 12 1 ty d a b
  | .fleLit ty d a lit => fpL c 12 1 ty d a lit
  | .fclass ty d a => fp1 c 13 1 ty d a
  | .fcun ty d a b => fp2 c 14 1 ty d a b
  | .fcunLit ty d a lit => fpL c 14 1 ty d a lit
  | .fma t1 rm d a b x => fused3 c t1 rm d a b x false false
  | .fms t1 rm d a b x => fused3 c t1 rm d a b x false true
  | .fnma t1 rm d a b x => fused3 c t1 rm d a b x true true
  | .fnms t1 rm d a b x => fused3 c t1 rm d a b x true false
  | .fcvt t1 t2 rm sat d a => some ⟨12, rm, [rd .A a], d, convert t1 t2 (c.rmode rm) sat (c.rg .A a), 3⟩
  | .fround t1 rm d a => some ⟨12, rm, [rd .A a], d, fpRoundInt t1 (c.rmode rm) (c.rg .A a), 3⟩
  | _ => none

end Sys2Proof.Machine
end

