-- ==== Sys2Proof/Safety/Lanes.lean ====
section
/-! DEFINITION. The results that 07 R155 to R177 and 04 R116 give to the vector instructions, position by position. -/

namespace Sys2Proof.Machine

/-- Position p of the register whose first workspace word is w: a word when wide, else a half of one (07 R155). -/
def Core.lane (c : Core) (wide : Bool) (w p : Nat) : DWord := if wide then c.ws (w + p) else halfOf (c.ws (w + p / 2)) p

/-- One vector instruction as its rule states it: its rounding code, what it reads, its destination with the first word and the
number of words, whether its positions are words, which positions are active, what it does with the others, the positions that
are zero whatever the mask, the local bytes that it loads, the value at each position, the flags of each element with the
elements that are active, the words put in shadow, and the slots after which the result is readable. -/
structure LaneOp where
  rm : BitVec 3 := 0
  reads : List Use
  dst : Use
  word : Nat
  words : Nat := 16
  wide : Bool := false
  active : Nat → Bool
  mz : Bool := false
  zeroFrom : Nat := 64
  touch : List (Int × Nat) := []
  val : Nat → DWord
  flags : Nat → Flags := fun _ => 0
  elems : List Nat := []
  shadow : Nat × Nat
  lat : Nat

def LaneOp.req (x : LaneOp) : Req := { rm := x.rm, uses := x.reads ++ [x.dst] }

/-- The number of positions of the destination. -/
def LaneOp.positions (x : LaneOp) : Nat := if x.wide then x.words else 2 * x.words

/-- Position p after the instruction, of which old is the value before (07 R157). -/
def LaneOp.at_ (x : LaneOp) (old : Nat → DWord) (p : Nat) : DWord :=
  if x.zeroFrom ≤ p then 0
  else if x.active p then (if x.wide then x.val p else n64l (x.val p))
  else if x.mz then 0 else old p
where
  /-- The low 32 bits. -/
  n64l (v : DWord) : DWord := BitVec.ofNat 64 (v.toNat % 2 ^ 32)

/-- The flags that the active elements raise (04 R104). -/
def raisedBy (flags : Nat → Flags) (elems : List Nat) : Flags := elems.foldl (fun f e => f ||| flags e) 0
def LaneOp.raised (x : LaneOp) : Flags := raisedBy x.flags x.elems

/-- The local bytes that the instruction loads can be accessed: in range, aligned, not execute-only (02 R42), whole (02 R43),
and not waiting for a record or a capture (09 R227, 13 R319). -/
def Core.Loadable (c : Core) (touch : List (Int × Nat)) : Prop :=
  ∀ p ∈ touch, localCheck c.xbAddr p.1 p.2 = none ∧ tabGet? c.flips (p.1.toNat / 8) = none ∧ c.localBusy p.1 p.2 = false

/-- One instruction that writes a mask, bit by bit (07 R164, R165). -/
structure MaskOp where
  reads : List Use
  dst : MReg
  active : Nat → Bool
  mz : Bool := false
  zeroFrom : Nat := 32
  val : Nat → Bool
  flags : Nat → Flags := fun _ => 0
  elems : List Nat := []
  lat : Nat := 2

def MaskOp.req (x : MaskOp) : Req := { uses := x.reads ++ [⟨.D, .md x.dst, false⟩] }
def MaskOp.raised (x : MaskOp) : Flags := raisedBy x.flags x.elems

/-- Bit e of the mask after the instruction. -/
def MaskOp.at_ (x : MaskOp) (old : Nat → Bool) (e : Nat) : Bool :=
  if x.zeroFrom ≤ e then false else if x.active e then x.val e else if x.mz then false else old e

/-- Mask k of the workspace as 32 bits, as stored. -/
def Core.maskAt (c : Core) (k e : Nat) : Bool := (halfOf (c.ws (320 + k / 2)) k).getLsbD e

namespace Says

/-- The first word of the vector register of a field, and the mask register of the destination (02 R31, 06 R151). -/
def vBase (c : Core) (f : Fld) (n : VReg) : Nat := 64 + 16 * (c.vIx f n).toNat

/-- Element e of a source of type t: 64-bit types are words, the others lanes (07 R155). -/
def el (c : Core) (t : BitVec 4) (f : Fld) (n : VReg) (e : Nat) : DWord := c.lane (Ty.is64 t) (vBase c f n) e

/-- The active positions below n. -/
def actives (act : Nat → Bool) (n : Nat) : List Nat := (List.range n).filter act

/-- The functions of VALU on lanes (07 R161); code 6 compares unsigned. -/
def lane32 (x : DWord) : BitVec 32 := x.setWidth 32
def valuFns (t : BitVec 4) : List (BitVec 32 → BitVec 32 → Nat) :=
  let less (x y : BitVec 32) : Bool := if t = 6 then decide (x.toNat < y.toNat) else decide (x.toInt < y.toInt)
  [fun x y => (x.toNat + y.toNat) % 2 ^ 32, fun x y => (x.toNat + (2 ^ 32 - y.toNat)) % 2 ^ 32,
   fun x y => x.toNat * y.toNat % 2 ^ 32, fun x y => (x &&& y).toNat, fun x y => (x ||| y).toNat, fun x y => (x ^^^ y).toNat,
   fun x y => x.toNat * 2 ^ (y.toNat % 32) % 2 ^ 32, fun x y => x.toNat / 2 ^ (y.toNat % 32),
   fun x y => (BitVec.ofInt 32 (x.toInt / 2 ^ (y.toNat % 32))).toNat,
   fun x y => if less x y then x.toNat else y.toNat, fun x y => if less x y then y.toNat else x.toNat]

/-- VALU: 32 lanes, readable 2 slots later. -/
def valuOp (c : Core) (k : Nat) (t : BitVec 4) (mz : Bool) (mk : MReg) (d a b : VReg) : Option LaneOp :=
  (valuFns t)[k]?.map (fun f =>
    { reads := [vr .A a, vr .B b, gov mk], dst := vw .D d, word := vBase c .D d, active := c.govern mk, mz := mz
      val := fun e => n64 (f (lane32 (el c t .A a e)) (lane32 (el c t .B b e)))
      shadow := (vBase c .D d, 16), lat := 2 })

/-- VFP: n elements in the mode of the instruction, readable 4 slots later (07 R162, R163). -/
def vfpOp (c : Core) (reads : List Use) (t : BitVec 4) (rm : BitVec 3) (mz : Bool) (mk : MReg) (d : VReg) (f : Nat → FRes) :
    Option LaneOp :=
  some
    { rm := rm, reads := reads ++ [gov mk], dst := vw .D d, word := vBase c .D d, wide := Ty.is64 t, active := c.govern mk
      mz := mz, val := fun e => (f e).bits, flags := fun e => (f e).flags, elems := actives (c.govern mk) (Ty.elems t)
      shadow := (vBase c .D d, 16), lat := 4 }
def vfp2Op (c : Core) (f : BitVec 4 → RMode → DWord → DWord → FRes) (t : BitVec 4) (rm : BitVec 3) (mz : Bool) (mk : MReg)
    (d a b : VReg) : Option LaneOp :=
  vfpOp c [vr .A a, vr .B b] t rm mz mk d (fun e => f t (c.rmode rm) (el c t .A a e) (el c t .B b e))
def vfp3Op (c : Core) (t : BitVec 4) (rm : BitVec 3) (mz : Bool) (mk : MReg) (d a b x : VReg) (np nz : Bool) : Option LaneOp :=
  vfpOp c [vr .A a, vr .B b, vr .C x] t rm mz mk d (fun e =>
    let p := fp t (el c t .A a e)
    let z := fp t (el c t .C x e)
    fpFmaV (fmtOf t) (c.rmode rm) (if np then p.negate else p) (fp t (el c t .B b e)) (if nz then z.negate else z))

/-- VPERM under the mask, readable 2 slots later (07 R170, R171). -/
def permOp (c : Core) (reads : List Use) (t : BitVec 4) (mz : Bool) (mk : MReg) (d : VReg) (f : Nat → DWord) : Option LaneOp :=
  some
    { reads := reads ++ [gov mk], dst := vw .D d, word := vBase c .D d, wide := Ty.is64 t, active := c.govern mk, mz := mz
      val := f, shadow := (vBase c .D d, 16), lat := 2 }

/-- A complex operation: lane 2e and lane 2e + 1 are the parts of element e, readable 6 slots later (07 R172). -/
def cplxOp (c : Core) (reads : List Use) (rm : BitVec 3) (mz : Bool) (mk : MReg) (d : VReg) (f : Nat → FRes) : Option LaneOp :=
  some
    { rm := rm, reads := reads ++ [gov mk], dst := vw .D d, word := vBase c .D d, active := fun p => c.govern mk (p / 2)
      mz := mz, val := fun p => (f p).bits, flags := fun e => (f (2 * e)).flags ||| (f (2 * e + 1)).flags
      elems := actives (c.govern mk) 16, shadow := (vBase c .D d, 16), lat := 6 }

/-- The products of a complex multiply, re and im of a source by lanes (07 R172). -/
def part (c : Core) (t : BitVec 4) (f : Fld) (n : VReg) (p : Nat) : FV := fp t (c.lane false (vBase c f n) p)

def cmulLane (c : Core) (t : BitVec 4) (rm : BitVec 3) (a b : VReg) (conj : Bool) (add : Nat → List Term) (p : Nat) : FRes :=
  let e := p / 2
  let re (f : Fld) (n : VReg) := part c t f n (2 * e)
  let im (f : Fld) (n : VReg) := part c t f n (2 * e + 1)
  complexPart (fmtOf t) (c.rmode rm)
    ((if p % 2 = 0 then [⟨re .A a, re .B b, false⟩, ⟨im .A a, im .B b, !conj⟩]
      else if conj then [⟨im .A a, re .B b, false⟩, ⟨re .A a, im .B b, true⟩]
      else [⟨re .A a, im .B b, false⟩, ⟨im .A a, re .B b, false⟩]) ++ add p)

/-- The addresses of a vector access (07 R174). -/
def vAddr (c : Core) (t : BitVec 4) (a b : GOp) (off : BitVec 32) (e : Nat) : Int :=
  (c.rg .A a).toInt + off.toInt
    + (if b.rel = false ∧ b.n = 0 then (e : Int) * elemBytes t else (e : Int) * (c.rg .B b).toInt)
def gAddr (c : Core) (a : GOp) (b : VReg) (off : BitVec 32) (e : Nat) : Int :=
  (c.rg .A a).toInt + off.toInt + ((c.lane false (vBase c .B b) e).toNat : Int)

/-- The register that holds the stride, in the strided form alone (07 R174). -/
def strided (b : GOp) : List Use := if b.rel = false ∧ b.n = 0 then [] else [rd .B b]

/-- A vector load, readable 4 slots later (07 R175). -/
def loadOp (c : Core) (reads : List Use) (t : BitVec 4) (mz : Bool) (mk : MReg) (d : VReg) (addr : Nat → Int) : Option LaneOp :=
  some
    { reads := reads ++ [gov mk], dst := vw .D d, word := vBase c .D d, wide := Ty.is64 t, active := c.govern mk, mz := mz
      touch := (actives (c.govern mk) (Ty.elems t)).map (fun e => (addr e, elemBytes t))
      val := fun e => n64 (memRead c.loc (addr e).toNat (elemBytes t)), shadow := (vBase c .D d, 16), lat := 4 }

/-- A mask result of a compare of n elements (07 R164). -/
def cmpOp (c : Core) (n : Nat) (reads : List Use) (mz : Bool) (mk d : MReg) (lat : Nat) (f : Nat → Bool)
    (fl : Nat → Flags) : Option MaskOp :=
  some
    { reads := reads ++ [gov mk], dst := d, active := c.govern mk, mz := mz, zeroFrom := n, val := f, flags := fl
      elems := actives (c.govern mk) n, lat := lat }

/-- An integer compare, and a floating-point compare as the scalar one (05 R133). -/
def intCmp (c : Core) (t : BitVec 4) (mz : Bool) (mk d : MReg) (a b : VReg) (f : BitVec 32 → BitVec 32 → Bool) : Option MaskOp :=
  cmpOp c 32 [vr .A a, vr .B b] mz mk d 2 (fun e => f (lane32 (el c t .A a e)) (lane32 (el c t .B b e))) (fun _ => 0)
def fpCmpOp (c : Core) (t : BitVec 4) (mz : Bool) (mk d : MReg) (a b : VReg) (f : BitVec 4 → DWord → DWord → FRes) :
    Option MaskOp :=
  cmpOp c (Ty.elems t) [vr .A a, vr .B b] mz mk d 4 (fun e => (f t (el c t .A a e) (el c t .B b e)).bits == 1)
    (fun e => (f t (el c t .A a e) (el c t .B b e)).flags)
def lessBy (t : BitVec 4) (x y : BitVec 32) : Bool :=
  if t = 6 then decide (x.toNat < y.toNat) else decide (x.toInt < y.toInt)

/-- A mask operation, and the two that write all 32 bits (07 R164, R165). -/
def mOp (c : Core) (reads : List Use) (mz : Bool) (mk d : MReg) (f : Nat → Bool) : Option MaskOp :=
  cmpOp c 32 reads mz mk d 2 f (fun _ => 0)
def mBit (c : Core) (f : Fld) (n : MReg) (e : Nat) : Bool := (c.maskBits f n).getLsbD e
def mWhole (c : Core) (mk d a : MReg) (f : (Nat → Bool) → Nat → Bool) : Option MaskOp :=
  some
    { reads := [⟨.A, .m a, true⟩, gov mk], dst := d, active := fun _ => true
      val := f (fun e => mBit c .A a e && c.govern mk e) }

/-- ReduceTree by halves: the lower half of the positions first, an empty one passing its partner through (04 R116); the
flags of every combination. -/
def halves (op : DWord → DWord → FRes) : Nat → (Nat → Option DWord) → Option DWord × Flags
  | 0, x => (x 0, 0)
  | k + 1, x =>
    let l := halves op k x
    let r := halves op k (fun i => x (2 ^ k + i))
    match l.1, r.1 with
    | some p, some q => (some (op p q).bits, l.2 ||| r.2 ||| (op p q).flags)
    | some p, none => (some p, l.2 ||| r.2)
    | none, q => (q, l.2 ||| r.2)

/-- A reduction of n elements settled (07 R169). -/
def reduceOp (c : Core) (t : BitVec 4) (rm : BitVec 3) (mk : MReg) (d : GOp) (a : VReg) (op : DWord → DWord → FRes)
    (empty : DWord) : Option ScalarFp :=
  let n := Ty.elems t
  let x (e : Nat) : Option DWord := if c.govern mk e then some (fpBits t (el c t .A a e)) else none
  let h := halves op (if n = 16 then 4 else 5) x
  let sig := (actives (c.govern mk) n).any (fun e => (fp t (el c t .A a e)).isSNaN)
  some
    { len := 12, rm := rm, reads := [vr .A a, gov mk], dst := d, lat := 4
      res :=
        { bits := match h.1 with
            | none => empty
            | some v => if (fp t v).isNaN then canonNaN (fmtOf t) else v
          flags := h.2 ||| (if sig then flagNV else 0) } }

/-- The flags of the combination of the 2 ^ L positions from lo with the 2 ^ L that follow them (04 R116). -/
def joinFlags (op : DWord → DWord → FRes) (x : Nat → Option DWord) (L lo : Nat) : Flags :=
  match (halves op L (fun i => x (lo + i))).1, (halves op L (fun i => x (lo + 2 ^ L + i))).1 with
  | some p, some q => (op p q).flags
  | _, _ => 0

/-- The flags attributed to position p of a reduction (07 R169): of the combinations whose range begins there, and of a signalling NaN
there that no combination meets, since it alone is active. -/
def blame (c : Core) (t : BitVec 4) (mk : MReg) (a : VReg) (op : DWord → DWord → FRes) (p : Nat) : Flags :=
  let n := Ty.elems t
  let x (e : Nat) : Option DWord := if c.govern mk e then some (fpBits t (el c t .A a e)) else none
  let levels := (List.range (if n = 16 then 4 else 5)).filter (fun L => p % 2 ^ (L + 1) == 0 && decide (p < n))
  (levels.map (joinFlags op x · p)).foldl (· ||| ·)
    (if actives (c.govern mk) n = [p] ∧ (fp t (el c t .A a p)).isSNaN then flagNV else 0)

end Says

open Says in
/-- The vector instructions that write vector registers, each as its rule states it. -/
def laneRule (s : State) (i : Instr) : Option LaneOp :=
  let c := s.core s.cur
  match i with
  | .vadd t mz mk d a b => valuOp c 0 t mz mk d a b
  | .vsub t mz mk d a b => valuOp c 1 t mz mk d a b
  | .vmul t mz mk d a b => valuOp c 2 t mz mk d a b
  | .vand t mz mk d a b => valuOp c 3 t mz mk d a b
  | .vor t mz mk d a b => valuOp c 4 t mz mk d a b
  | .vxor t mz mk d a b => valuOp c 5 t mz mk d a b
  | .vshl t mz mk d a b => valuOp c 6 t mz mk d a b
  | .vshr t mz mk d a b => valuOp c 7 t mz mk d a b
  | .vsar t mz mk d a b => valuOp c 8 t mz mk d a b
  | .vmin t mz mk d a b => valuOp c 9 t mz mk d a b
  | .vmax t mz mk d a b => valuOp c 10 t mz mk d a b
  | .vfadd t rm mz mk d a b => vfp2Op c fpAdd t rm mz mk d a b
  | .vfsub t rm mz mk d a b => vfp2Op c fpSub t rm mz mk d a b
  | .vfmul t rm mz mk d a b => vfp2Op c fpMul t rm mz mk d a b
  | .vfdiv t rm mz mk d a b => vfp2Op c fpDiv t rm mz mk d a b
  | .vfsqrt t rm mz mk d a => vfpOp c [vr .A a] t rm mz mk d (fun e => fpSqrt t (c.rmode rm) (el c t .A a e))
  | .vfma t rm mz mk d a b x => vfp3Op c t rm mz mk d a b x false false
  | .vfms t rm mz mk d a b x => vfp3Op c t rm mz mk d a b x false true
  | .vfnma t rm mz mk d a b x => vfp3Op c t rm mz mk d a b x true true
  | .vfmin t mz mk d a b => vfp2Op c (fun t _ => fpMin t) t 0 mz mk d a b
  | .vfmax t mz mk d a b => vfp2Op c (fun t _ => fpMax t) t 0 mz mk d a b
  | .vfabs t mz mk d a => vfpOp c [vr .A a] t 0 mz mk d (fun e => signed (tyWidth t) false (el c t .A a e))
  | .vfneg t mz mk d a =>
    vfpOp c [vr .A a] t 0 mz mk d (fun e => signed (tyWidth t) (!sgnBit (tyWidth t) (el c t .A a e)) (el c t .A a e))
  | .vperm t mz mk d a b =>
    permOp c [vr .A a, vr .B b] t mz mk d (fun e => el c t .A a ((el c t .B b e).toNat % Ty.elems t))
  | .vbcast t mz mk d a => permOp c [rd .A a] t mz mk d (fun _ => c.rg .A a)
  | .vbfly t mz mk d a x => permOp c [vr .A a] t mz mk d (fun e => el c t .A a (Nat.xor e x.toNat))
  | .vslide t mz mk d a b sh =>
    permOp c [vr .A a, vr .B b] t mz mk d (fun e =>
      if e + sh.toNat < Ty.elems t then el c t .A a (e + sh.toNat) else el c t .B b (e + sh.toNat - Ty.elems t))
  | .vins t d a idx =>
    some
      { reads := [rd .A a], dst := vw .D d, word := vBase c .D d, wide := Ty.is64 t, active := fun e => e == idx.toNat
        val := fun _ => c.rg .A a
        shadow := (vBase c .D d + (if Ty.is64 t then idx.toNat else idx.toNat / 2), 1), lat := 2 }
  | .vcvt t1 t2 rm sat mz mk d a =>
    let n := if Ty.is64 t1 || Ty.is64 t2 then 16 else 32
    let r (e : Nat) : FRes := convert t1 t2 (c.rmode rm) sat (el c t2 .A a e)
    some
      { rm := rm, reads := [vr .A a, gov mk], dst := vw .D d, word := vBase c .D d, wide := Ty.is64 t1
        active := c.govern mk, mz := mz, zeroFrom := n, val := fun e => laneForm t1 (r e).bits, flags := fun e => (r e).flags
        elems := actives (c.govern mk) n, shadow := (vBase c .D d, 16), lat := 4 }
  | .vunpack t1 t2 mz mk d a =>
    let w := tyWidth t2
    let r (j : Nat) : FRes :=
      unpackConvert t1 t2 (n64 (((List.range 16).map (fun k => (c.ws (vBase c .A a + k)).toNat * 2 ^ (64 * k))).sum / 2 ^ (w * j) % 2 ^ w))
    some
      { reads := [vr .A a, gov mk], dst := ⟨.D, .vv d, false⟩, word := vBase c .D d, words := 32
        active := fun j => c.govern mk (j % 32), mz := mz, val := fun j => laneForm t1 (r j).bits
        flags := fun j => (r j).flags, elems := actives (fun j => c.govern mk (j % 32)) 64
        shadow := (vBase c .D d, 32), lat := 4 }
  | .vcmul t rm mz mk d a b => cplxOp c [vr .A a, vr .B b] rm mz mk d (cmulLane c t rm a b false (fun _ => []))
  | .vcmulj t rm mz mk d a b => cplxOp c [vr .A a, vr .B b] rm mz mk d (cmulLane c t rm a b true (fun _ => []))
  | .vcfma t rm mz mk d a b x =>
    cplxOp c [vr .A a, vr .B b, vr .C x] rm mz mk d
      (cmulLane c t rm a b false (fun p => [⟨part c t .C x p, .fin false 1 0, false⟩]))
  | .vcconj t mz mk d a =>
    cplxOp c [vr .A a] 0 mz mk d (fun p =>
      let v := c.lane false (vBase c .A a) p
      signed (tyWidth t) (sgnBit (tyWidth t) v != (p % 2 == 1)) v)
  | .vldl t mz mk d a b off => loadOp c ([rd .A a] ++ strided b) t mz mk d (vAddr c t a b off)
  | .vgath t mz mk d a b off => loadOp c [rd .A a, vr .B b] t mz mk d (gAddr c a b off)
  | _ => none

open Says in
/-- The instructions that write a mask register, each as its rule states it. -/
def maskRule (s : State) (i : Instr) : Option MaskOp :=
  let c := s.core s.cur
  match i with
  | .vceq t mz mk d a b => intCmp c t mz mk d a b (fun x y => decide (x.toNat = y.toNat))
  | .vclt t mz mk d a b => intCmp c t mz mk d a b (lessBy t)
  | .vcle t mz mk d a b => intCmp c t mz mk d a b (fun x y => !lessBy t y x)
  | .vcltn t mz mk d a b => intCmp c t mz mk d a b (fun x y => decide (x.toNat < y.toNat))
  | .vfeq t mz mk d a b => fpCmpOp c t mz mk d a b (fun t => compare true t FV.eq)
  | .vflt t mz mk d a b => fpCmpOp c t mz mk d a b (fun t => compare false t FV.lt)
  | .vfle t mz mk d a b => fpCmpOp c t mz mk d a b (fun t => compare false t (fun p q => p.lt q || p.eq q))
  | .vfun t mz mk d a b => fpCmpOp c t mz mk d a b unordered
  | .mand mz mk d a b => mOp c [⟨.A, .m a, true⟩, ⟨.B, .m b, true⟩] mz mk d (fun e => mBit c .A a e && mBit c .B b e)
  | .mor mz mk d a b => mOp c [⟨.A, .m a, true⟩, ⟨.B, .m b, true⟩] mz mk d (fun e => mBit c .A a e || mBit c .B b e)
  | .mxor mz mk d a b => mOp c [⟨.A, .m a, true⟩, ⟨.B, .m b, true⟩] mz mk d (fun e => mBit c .A a e != mBit c .B b e)
  | .mnot mz mk d a => mOp c [⟨.A, .m a, true⟩] mz mk d (fun e => !mBit c .A a e)
  | .mpop mk d a => mWhole c mk d a (fun x e => decide (e < (List.range 32).countP (fun i => x i)))
  | .mfirst mk d a => mWhole c mk d a (fun x e => x e && (List.range e).all (fun i => !x i))
  | _ => none

open Says in
/-- The vector instructions that write one scalar register, each as its rule states it. -/
def reduceRule (s : State) (i : Instr) : Option ScalarFp :=
  let c := s.core s.cur
  match i with
  | .vredadd t rm mk d a => reduceOp c t rm mk d a (fpAdd t (c.rmode rm)) 0
  | .vredmax t mk d a => reduceOp c t 0 mk d a (fpMax t) (infBits (fmtOf t) true)
  | .vredmin t mk d a => reduceOp c t 0 mk d a (fpMin t) (infBits (fmtOf t) false)
  | .vredaddi t mk d a =>
    some
      { len := 12, rm := 0, reads := [vr .A a, gov mk], dst := d, lat := 2
        res := exact (i64 (((actives (c.govern mk) (Ty.elems t)).map (fun e =>
          let v := el c t .A a e
          if t.toNat < 4 then (if Ty.is64 t then v.toInt else (lane32 v).toInt) else (v.toNat : Int))).sum)) }
  | .vext t d a idx =>
    some { len := 12, rm := 0, reads := [vr .A a], dst := d, lat := 2, res := exact (el c t .A a idx.toNat) }
  | _ => none

open Says in
/-- The flags that a reduction attributes to a position (07 R169). -/
def reduceBlame (s : State) (i : Instr) (p : Nat) : Flags :=
  let c := s.core s.cur
  match i with
  | .vredadd t rm mk _ a => blame c t mk a (fpAdd t (c.rmode rm)) p
  | .vredmax t mk _ a => blame c t mk a (fpMax t) p
  | .vredmin t mk _ a => blame c t mk a (fpMin t) p
  | _ => 0

end Sys2Proof.Machine
end

