-- ==== Sys2Proof/Certificates/Slice0/Obligations.lean ====
section
/-! DEFINITION. What is claimed of the model: one statement each, with the rules of the manual that it formalises.  A statement in several
parts is the conjunction of claims, each a definition of its own. -/

open Sys2Proof Sys2Proof.Machine

/-- Every scalar integer instruction that writes one register, in every form (registers, literal, immediate, relative), whose operands are clear, completes: exactly the destination register holds the value that its rule gives in whole-number arithmetic, under the latency of its family, and g0 discards it. (R117, R118, R119, R120, R121, R122, R123, R124, R138, R141) -/
def Obligations.ScalarIntegerResult : Prop :=
  ∀ (i : Instr) (s : State) (x : Scalar), scalarRule s i = some x → i.wf = true → (s.core s.cur).Clear x.req →
    exec i s = .next (s.finishAt s.cur x.len ((s.core s.cur).tickShadows.wg .D x.dst x.val x.lat))

/-- When a scalar integer instruction completes, every byte of the scratchpad outside the destination word, every other core, every special register, the saved state of traps and everything else of the machine are as before; the destination word holds the result, and with destination g0 no byte changes. (R31, R32, R34, R117) -/
def Sys2Proof.Machine.claimScalarIntegerFrame : Prop :=
  ∀ (i : Instr) (s : State) (x : Scalar), scalarRule s i = some x → i.wf = true → (s.core s.cur).Clear x.req →
    (s.core s.cur).loc.wf = true →
    ∃ t, exec i s = .next t ∧ s.sameBut t s.cur ∧
      let c := s.core s.cur
      let d := t.core s.cur
      let w := (c.gIx .D x.dst).toNat
      c.sameElse d ∧ d.sp = c.sp ∧ d.held = c.held ∧ d.logs = c.logs ∧ d.wait = .none ∧
      d.cnt = tabSet c.cnt 1 ((tabGet c.cnt 1 0 + 1) % 2 ^ 64) ∧
      (w ≠ 0 → d.ws w = x.val) ∧
      ∀ a, w = 0 ∨ ¬ c.inWord w a → d.byte a = c.byte a

/-- A scalar integer instruction that writes a register other than g0 with a latency of n slots leaves its word in shadow for the n - 1 instructions that follow; with latency 1 the word is readable at once unless an earlier write still covers it, and every earlier shadow has one slot less. (R48, R49, R50, R119) -/
def Obligations.ResultShadow : Prop :=
  ∀ (i : Instr) (s : State) (x : Scalar), scalarRule s i = some x → i.wf = true → (s.core s.cur).Clear x.req →
    ∃ t, exec i s = .next t ∧
      let c := s.core s.cur
      let d := t.core s.cur
      let w := (c.gIx .D x.dst).toNat
      (w ≠ 0 → 1 < x.lat →
        d.inShadow (c.wordIx w) = true ∧ d.shadows = ⟨c.wordIx w, 1, 0, 0, x.lat - 1⟩ :: c.tickShadows.shadows) ∧
      (w = 0 ∨ x.lat ≤ 1 → d.shadows = c.tickShadows.shadows) ∧
      ∀ h ∈ c.shadows, 1 < h.slots → { h with slots := h.slots - 1 } ∈ d.shadows

/-- Every scalar floating-point instruction whose operands are clear and whose result raises no enabled flag completes: the destination holds the bits of the result, and the flags are ORed into s.fcsr. (R96, R104, R131, R132, R133, R134, R135, R136, R137, R138) -/
def Obligations.ScalarFloatResult : Prop :=
  ∀ (i : Instr) (s : State) (x : ScalarFp), scalarFpRule s i = some x → i.wf = true → (s.core s.cur).Clear x.req →
    x.res.flags &&& (s.core s.cur).flagEnables = 0 →
    exec i s =
      .next (s.finishAt s.cur x.len (((s.core s.cur).tickShadows.orFlags x.res.flags x.lat).wg .D x.dst x.res.bits x.lat))

/-- When a scalar floating-point instruction completes, s.fcsr gains the flags and no other special register changes, every byte of the scratchpad outside the destination word, every other core and everything else of the machine are as before, and the destination word holds the bits of the result. (R33, R103, R104) -/
def Sys2Proof.Machine.claimScalarFloatFrame : Prop :=
  ∀ (i : Instr) (s : State) (x : ScalarFp), scalarFpRule s i = some x → i.wf = true → (s.core s.cur).Clear x.req →
    x.res.flags &&& (s.core s.cur).flagEnables = 0 → (s.core s.cur).loc.wf = true →
    ∃ t, exec i s = .next t ∧ s.sameBut t s.cur ∧
      let c := s.core s.cur
      let d := t.core s.cur
      let w := (c.gIx .D x.dst).toNat
      c.sameElse d ∧ d.sp = { c.sp with fcsr := c.sp.fcsr ||| x.res.flags.setWidth 64 } ∧ d.held = c.held ∧
      d.logs = c.logs ∧ (w ≠ 0 → d.ws w = x.res.bits) ∧
      ∀ a, w = 0 ∨ ¬ c.inWord w a → d.byte a = c.byte a

/-- Scalar instructions change nothing but their destination, their flags and what every instruction counts. (R31, R32, R33, R34, R103, R104, R117) -/
def Obligations.ScalarFrames : Prop :=
  claimScalarIntegerFrame ∧ claimScalarFloatFrame

/-- A scalar floating-point instruction whose result raises an enabled flag raises FP_TRAP with every flag in bits 4:0 and position 0 in bits 13:8 of s.eval, from the core as it stood: no destination and no flag changes, and no slot is counted for the shadows. (R105, R30, R49) -/
def Sys2Proof.Machine.claimFloatTrapWritesNothing : Prop :=
  ∀ (i : Instr) (s : State) (x : ScalarFp), scalarFpRule s i = some x → i.wf = true → (s.core s.cur).Clear x.req →
    x.res.flags &&& (s.core s.cur).flagEnables ≠ 0 →
    exec i s = .next (s.trapAt s.cur (s.core s.cur) ⟨cFP_TRAP, x.res.flags.setWidth 64⟩)

/-- Every instruction that writes vector registers (integer, floating-point, conversion, unpack, permute, complex, load and gather), whose operands are clear, whose active addresses can be loaded and whose active elements raise no enabled flag, completes: each position holds zero where the rule says so, the value of the rule where it is active, zero or its old value where it is not; the flags of the active elements are ORed into s.fcsr; no byte outside the register changes, and nothing else of the machine. (R155, R157, R158, R161, R163, R166, R168, R171, R172, R173, R174, R175) -/
def Obligations.VectorLaneResult : Prop :=
  ∀ (i : Instr) (s : State) (x : LaneOp), laneRule s i = some x → i.wf = true → (s.core s.cur).Clear x.req →
    (s.core s.cur).Loadable x.touch → (s.core s.cur).loc.wf = true → x.raised &&& (s.core s.cur).flagEnables = 0 →
    ∃ t, exec i s = .next t ∧ s.sameBut t s.cur ∧
      let c := s.core s.cur
      let d := t.core s.cur
      (∀ p < x.positions, d.lane x.wide x.word p = x.at_ (c.lane x.wide x.word) p) ∧
      (∀ a, a < c.wpAddr + 8 * x.word ∨ c.wpAddr + 8 * (x.word + x.words) ≤ a → d.byte a = c.byte a) ∧
      d.sp = { c.sp with fcsr := c.sp.fcsr ||| x.raised.setWidth 64 } ∧
      d.shadows = ⟨c.wordIx x.shadow.1, x.shadow.2, 0, 0, x.lat - 1⟩ :: c.tickShadows.shadows ∧
      d.held = c.held ∧ d.logs = c.logs ∧ c.sameElse d ∧ d.pc = (Core.advance 12 c).pc

/-- Every vector compare and mask operation whose operands are clear and whose active elements raise no enabled flag completes: each bit of the destination mask is the one of its rule, the other mask of the pair and every byte outside their word are unchanged, the flags are ORed into s.fcsr, and the shared word is in shadow. (R157, R158, R164, R165) -/
def Sys2Proof.Machine.claimMaskResult : Prop :=
  ∀ (i : Instr) (s : State) (x : MaskOp), maskRule s i = some x → i.wf = true → (s.core s.cur).Clear x.req →
    (s.core s.cur).loc.wf = true → x.raised &&& (s.core s.cur).flagEnables = 0 →
    ∃ t, exec i s = .next t ∧ s.sameBut t s.cur ∧
      let c := s.core s.cur
      let d := t.core s.cur
      let k := (c.mIx .D x.dst).toNat
      let w := 320 + k / 2
      (∀ e < 32, d.maskAt k e = x.at_ (c.maskAt k) e) ∧
      (∀ e < 32, d.maskAt (k ^^^ 1) e = c.maskAt (k ^^^ 1) e) ∧
      (∀ a, ¬ c.inWord w a → d.byte a = c.byte a) ∧
      d.sp = { c.sp with fcsr := c.sp.fcsr ||| x.raised.setWidth 64 } ∧
      d.shadows = ⟨c.wordIx w, 1, 0, 0, x.lat - 1⟩ :: c.tickShadows.shadows ∧
      d.held = c.held ∧ d.logs = c.logs ∧ c.sameElse d ∧ d.pc = (Core.advance 12 c).pc

/-- Every reduction, and vext, whose operands are clear and whose flags are not enabled completes: the destination holds the pairwise tree of the active elements, settled for NaNs, or the integer sum, or the element, and the flags are ORed into s.fcsr; with an enabled flag it raises FP_TRAP with every flag in bits 4:0 and in bits 13:8 the lowest position to which an enabled flag is attributed, of a combination the first of its range and of a signalling NaN that none meets its own, and writes nothing. (R116, R169, R171, R105) -/
def Sys2Proof.Machine.claimReductionResult : Prop :=
  ∀ (i : Instr) (s : State) (x : ScalarFp), reduceRule s i = some x → i.wf = true → (s.core s.cur).Clear x.req →
    (x.res.flags &&& (s.core s.cur).flagEnables = 0 →
      exec i s =
        .next (s.finishAt s.cur x.len (((s.core s.cur).tickShadows.orFlags x.res.flags x.lat).wg .D x.dst x.res.bits x.lat))) ∧
    (x.res.flags &&& (s.core s.cur).flagEnables ≠ 0 →
      ∃ p < 32, reduceBlame s i p &&& (s.core s.cur).flagEnables ≠ 0 ∧
        (∀ q < p, reduceBlame s i q &&& (s.core s.cur).flagEnables = 0) ∧ exec i s =
        .next (s.trapAt s.cur (s.core s.cur) ⟨cFP_TRAP, x.res.flags.setWidth 64 ||| BitVec.ofNat 64 (p * 256)⟩))

/-- A vector instruction of lanes or masks whose active elements raise an enabled flag raises FP_TRAP from the core as it stood, with the OR of the flags in bits 4:0 of s.eval and the lowest element whose flags include an enabled one in bits 13:8. (R105, R160, R30) -/
def Sys2Proof.Machine.claimVectorTrapWritesNothing : Prop :=
  ∀ (i : Instr) (s : State) (p : Nat) (raised : Flags) (flags : Nat → Flags) (elems : List Nat) (r : Req),
    ((∃ x : LaneOp, laneRule s i = some x ∧ r = x.req ∧ flags = x.flags ∧ elems = x.elems ∧ raised = x.raised) ∨
     (∃ x : MaskOp, maskRule s i = some x ∧ r = x.req ∧ flags = x.flags ∧ elems = x.elems ∧ raised = x.raised)) →
    i.wf = true → (s.core s.cur).Clear r → p ∈ elems → flags p &&& (s.core s.cur).flagEnables ≠ 0 →
    (∀ q ∈ elems, q < p → flags q &&& (s.core s.cur).flagEnables = 0) →
    exec i s =
      .next (s.trapAt s.cur (s.core s.cur) ⟨cFP_TRAP, raised.setWidth 64 ||| BitVec.ofNat 64 (p * 256)⟩)

/-- A floating-point or vector instruction that traps writes nothing and enters the trap. (R30, R49, R105, R160) -/
def Obligations.TrapsWriteNothing : Prop :=
  claimFloatTrapWritesNothing ∧ claimVectorTrapWritesNothing

/-- The 128 bytes of a vector register as one number (07 R167). -/
def Sys2Proof.Machine.packed (c : Core) (w : Nat) : Nat := ((List.range 16).map (fun k => (c.ws (w + k)).toNat * 2 ^ (64 * k))).sum

/-- vpack whose operands are clear and whose active elements raise no enabled flag completes: element j occupies w bits from bit w*j, converted from lane j of A or lane j - 32 of B where bit j mod 32 of the mask is set, else zero or unchanged; the bytes that no element occupies are zero; the flags are ORed into s.fcsr; no byte outside the register changes. An enabled flag traps at the lowest such element and writes nothing. (R167, R105, R157) -/
def Sys2Proof.Machine.claimPackResult : Prop :=
  ∀ (s : State) (t1 t2 : BitVec 4) (rm : BitVec 3) (sat mz : Bool) (mk : MReg) (d a b : VReg),
    let i : Instr := .vpack t1 t2 rm sat mz mk d a b
    let c := s.core s.cur
    let v := Says.vBase c .D d
    let src (j : Nat) : DWord :=
      if j < 32 then c.lane false (Says.vBase c .A a) j else c.lane false (Says.vBase c .B b) (j - 32)
    let r (j : Nat) : FRes := packConvert t1 t2 (c.rmode rm) sat (src j)
    let elems := Says.actives (fun j => c.govern mk (j % 32)) 64
    let raised := raisedBy (fun j => (r j).flags) elems
    i.wf = true → c.Clear { rm := rm, uses := [vr .A a, vr .B b, vw .D d, gov mk] } → c.loc.wf = true →
    (raised &&& c.flagEnables = 0 →
      ∃ t, exec i s = .next t ∧ s.sameBut t s.cur ∧
        let e := t.core s.cur
        (∀ j < 64, packed e v / 2 ^ (tyWidth t1 * j) % 2 ^ tyWidth t1 =
          if c.govern mk (j % 32) then (r j).bits.toNat % 2 ^ tyWidth t1
          else if mz then 0 else packed c v / 2 ^ (tyWidth t1 * j) % 2 ^ tyWidth t1) ∧
        packed e v / 2 ^ (tyWidth t1 * 64) = 0 ∧
        (∀ x, x < c.wpAddr + 8 * v ∨ c.wpAddr + 8 * (v + 16) ≤ x → e.byte x = c.byte x) ∧
        e.sp = { c.sp with fcsr := c.sp.fcsr ||| raised.setWidth 64 } ∧
        e.shadows = ⟨c.wordIx v, 16, 0, 0, 3⟩ :: c.tickShadows.shadows ∧ e.held = c.held ∧ c.sameElse e) ∧
    (∀ p ∈ elems, (r p).flags &&& c.flagEnables ≠ 0 → (∀ q ∈ elems, q < p → (r q).flags &&& c.flagEnables = 0) →
      exec i s = .next (s.trapAt s.cur c ⟨cFP_TRAP, raised.setWidth 64 ||| BitVec.ofNat 64 (p * 256)⟩))

/-- Mask, reduction, extraction and pack instructions write the bits of their rules and nothing else. (R105, R116, R157, R158, R164, R165, R167, R169, R171) -/
def Obligations.MaskReductionAndPackResult : Prop :=
  claimMaskResult ∧ claimReductionResult ∧ claimPackResult

/-- The active positions and the addresses of a vector store, and its operands (07 R174, R175). -/
def Sys2Proof.Machine.storeForm (c : Core) : Instr → Option (BitVec 4 × MReg × VReg × (Nat → Int) × List Use)
  | .vstl t mk d a b off => some (t, mk, d, Says.vAddr c t a b off, [rd .A a] ++ Says.strided b ++ [vr .D d, gov mk])
  | .vscat t mk d a b off => some (t, mk, d, Says.gAddr c a b off, [rd .A a, vr .B b, vr .D d, gov mk])
  | _ => none

/-- A vector store whose operands are clear and whose active addresses can be accessed completes: each byte of the scratchpad is the byte of the highest active element that covers it, and every byte that no active element covers is unchanged, as are the special registers, the other cores and everything else. (R174, R175, R176) -/
def Sys2Proof.Machine.claimVectorStoreResult : Prop :=
  ∀ (i : Instr) (s : State) (t1 : BitVec 4) (mk : MReg) (d : VReg) (addr : Nat → Int) (us : List Use),
    storeForm (s.core s.cur) i = some (t1, mk, d, addr, us) → i.wf = true →
    let c := s.core s.cur
    let z := elemBytes t1
    let elems := Says.actives (c.govern mk) (Ty.elems t1)
    let covers (e a : Nat) : Prop := (addr e).toNat ≤ a ∧ a < (addr e).toNat + z
    c.Clear { uses := us } → c.Loadable (elems.map (fun e => (addr e, z))) → c.loc.wf = true →
    ∃ t, exec i s = .next t ∧ s.sameBut t s.cur ∧
      let k := t.core s.cur
      (∀ a, ∀ e ∈ elems, covers e a → (∀ f ∈ elems, e < f → ¬ covers f a) →
        k.byte a = BitVec.ofNat 8 ((Says.el c t1 .D d e).toNat / 256 ^ (a - (addr e).toNat))) ∧
      (∀ a, (∀ e ∈ elems, ¬ covers e a) → k.byte a = c.byte a) ∧
      k.sp = c.sp ∧ k.shadows = c.tickShadows.shadows ∧ k.held = c.held ∧ c.sameElse k ∧ k.pc = (Core.advance 12 c).pc

/-- When an active position of a vector load, gather, store or scatter fails a check of its address and every active position before it passes, the instruction traps with the cause of that position and its address in s.eval, from the core as it stood, and no element is loaded or stored. (R175, R42, R160) -/
def Sys2Proof.Machine.claimVectorAccessFault : Prop :=
  ∀ (i : Instr) (s : State) (elems : List Nat) (addr : Nat → Int) (z e : Nat) (r : Req) (x : Exc),
    let c := s.core s.cur
    ((∃ l : LaneOp, laneRule s i = some l ∧ r = l.req ∧ (∃ t1 mk, elems = Says.actives (c.govern mk) (Ty.elems t1) ∧
        z = elemBytes t1) ∧ l.touch = elems.map (fun e => (addr e, z))) ∨
     (∃ t1 mk d us, storeForm c i = some (t1, mk, d, addr, us) ∧ r = { uses := us } ∧
        elems = Says.actives (c.govern mk) (Ty.elems t1) ∧ z = elemBytes t1)) →
    i.wf = true → c.Clear r → c.flips = [] → (∀ f ∈ elems, c.localBusy (addr f) z = false) →
    e ∈ elems → (∀ f ∈ elems, f < e → localCheck c.xbAddr (addr f) z = none) → localCheck c.xbAddr (addr e) z = some x →
    exec i s = .next (s.trapAt s.cur c x)

/-- Vector stores write the bytes of their lanes, and a bad lane address traps before any is written. (R42, R160, R174, R175, R176) -/
def Obligations.VectorStores : Prop :=
  claimVectorStoreResult ∧ claimVectorAccessFault

/-- A compare-branch: its sources, its offset and its condition (05 R125). -/
def Sys2Proof.Machine.branchRule : Instr → Option (Reg × Reg × BitVec 12 × (DWord → DWord → Prop))
  | .beq a b off => some (a, b, off, fun x y => x.toNat = y.toNat)
  | .bne a b off => some (a, b, off, fun x y => x.toNat ≠ y.toNat)
  | .blt a b off => some (a, b, off, fun x y => x.toInt < y.toInt)
  | .bge a b off => some (a, b, off, fun x y => y.toInt ≤ x.toInt)
  | .bltn a b off => some (a, b, off, fun x y => x.toNat < y.toNat)
  | .bgen a b off => some (a, b, off, fun x y => y.toNat ≤ x.toNat)
  | _ => none

/-- A compare-branch whose operands are clear and that stands in no delay slot completes: the next instruction is the one at the next address, in its delay slot, after which fetch continues at PC + 4 * off12 when the condition holds and at the address after the slot when it does not; no register, byte or special register changes. (R53, R125) -/
def Sys2Proof.Machine.claimCompareBranchResult : Prop :=
  ∀ (i : Instr) (s : State) (a1 a2 : Reg) (off : BitVec 12) (cond : DWord → DWord → Prop),
    branchRule i = some (a1, a2, off, cond) →
    let c := s.core s.cur
    c.Clear { ctl := true, uses := [rd .A (fix a1), rd .B (fix a2)] } →
    (cond (c.rg .A (fix a1)) (c.rg .B (fix a2)) →
      exec i s = .next (s.putCore s.cur (Core.closed
        { c.tickShadows with pc := addPc c.pc 4, ds := .taken (BitVec.ofInt 18 (c.pc.toNat + 4 * off.toInt)) }))) ∧
    (¬ cond (c.rg .A (fix a1)) (c.rg .B (fix a2)) →
      exec i s = .next (s.putCore s.cur (Core.closed { c.tickShadows with pc := addPc c.pc 4, ds := .fallThrough })))

/-- A jump: what it reads, whether it links, and its target (05 R126). -/
def Sys2Proof.Machine.jumpRule (c : Core) : Instr → Option (List Use × Bool × BitVec 18)
  | .j off => some ([], false, BitVec.ofInt 18 (c.pc.toNat + 4 * off.toInt))
  | .jal off => some ([], true, BitVec.ofInt 18 (c.pc.toNat + 4 * off.toInt))
  | .jr a => some ([rd .A (fix a)], false, BitVec.ofNat 18 (c.rg .A (fix a)).toNat)
  | .jlr a => some ([rd .A (fix a)], true, BitVec.ofNat 18 (c.rg .A (fix a)).toNat)
  | _ => none

/-- A jump whose operand is clear and that stands in no delay slot completes: the next instruction is in its delay slot, fetch then continues at the target, which is the value read before the link is written, and jal and jlr write PC + 8 to g1. (R53, R126) -/
def Sys2Proof.Machine.claimJumpResult : Prop :=
  ∀ (i : Instr) (s : State) (us : List Use) (link : Bool) (target : BitVec 18),
    let c := s.core s.cur
    jumpRule c i = some (us, link, target) → c.Clear { ctl := true, uses := us } → c.rep = none →
    exec i s = .next (s.putCore s.cur (Core.closed
      { (if link then c.tickShadows.wg .D ⟨false, 1⟩ (BitVec.ofNat 64 ((c.pc.toNat + 8) % 2 ^ 18)) 1 else c.tickShadows) with
        pc := addPc c.pc 4, ds := .taken target }))

/-- When a scalar integer instruction completes in the delay slot of a taken branch, the next instruction is at the branch's target and stands in no delay slot; after a branch not taken, and outside a delay slot, it is at the next address. (R53) -/
def Sys2Proof.Machine.claimDelaySlotContinues : Prop :=
  ∀ (i : Instr) (s : State) (x : Scalar), scalarRule s i = some x → i.wf = true → (s.core s.cur).Clear x.req →
    (s.core s.cur).rep = none →
    ∃ t, exec i s = .next t ∧
      let c := s.core s.cur
      let d := t.core s.cur
      d.ds = .none ∧ (∀ a, c.ds = .taken a → d.pc = a) ∧ (c.ds = .fallThrough ∨ c.ds = .none → d.pc = addPc c.pc x.len)

/-- Branches and jumps go where their rules say, after the delay slot. (R53, R125, R126) -/
def Obligations.BranchesAndJumps : Prop :=
  claimCompareBranchResult ∧ claimJumpResult ∧ claimDelaySlotContinues

/-- The control instructions that concern one core, with the lowest mode that may issue them (02 R54, R57). -/
def Sys2Proof.Machine.controlForm : Instr → Option Req
  | .beq a b _ => some { ctl := true, uses := [rd .A (fix a), rd .B (fix b)] }
  | .bne a b _ => some { ctl := true, uses := [rd .A (fix a), rd .B (fix b)] }
  | .blt a b _ => some { ctl := true, uses := [rd .A (fix a), rd .B (fix b)] }
  | .bge a b _ => some { ctl := true, uses := [rd .A (fix a), rd .B (fix b)] }
  | .bltn a b _ => some { ctl := true, uses := [rd .A (fix a), rd .B (fix b)] }
  | .bgen a b _ => some { ctl := true, uses := [rd .A (fix a), rd .B (fix b)] }
  | .j _ => some { ctl := true, uses := [] }
  | .jal _ => some { ctl := true, uses := [] }
  | .jr a => some { ctl := true, uses := [rd .A (fix a)] }
  | .jlr a => some { ctl := true, uses := [rd .A (fix a)] }
  | .eret => some { ctl := true, mode := 1, uses := [] }
  | .rep cr a _ _ _ _ _ _ => some { ctl := true, uses := if cr then [rd .A a] else [] }
  | .endT => some { ctl := true, uses := [] }
  | .yieldT => some { ctl := true, uses := [] }
  | _ => none

/-- A branch, jump, rep, eret, end or yield that stands in a delay slot traps with DS_CONTROL and s.eval 0, raised by that instruction from the core as it stood, whatever its mode and its operands. (R54) -/
def Obligations.ControlInDelaySlotTraps : Prop :=
  ∀ (i : Instr) (s : State) (r : Req), controlForm i = some r → (s.core s.cur).ds ≠ .none →
    exec i s = .next (s.trapAt s.cur (s.core s.cur) ⟨cDS_CONTROL, 0⟩)

/-- When a core that is in no stitch traps and the trap is neither a double trap nor the loss of a protected gang's core, it saves s.psw with DS, s.epc, s.ewp, the cause and its value, and s.ebr only for a delay slot (where the slot of a branch not taken cannot be fetched: log 62); s.wp becomes s.twp; IE is clear; the mode becomes 3 at the firmware vector when the trap is delegated, else 1 at s.ovl for an enabled OVERLAY or at s.tvec; the stream's shadows and repetition are held, beside at most two streams held before; one more trap is counted; scratchpad, other cores and the rest of the machine are unchanged. (R45, R49, R55, R56, R389) -/
def Sys2Proof.Machine.claimTrapEntry : Prop :=
  ∀ (s : State) (site : Nat) (e : Exc),
    let c := s.core site
    c.formed = false → (c.sp.psw.getLsbD 6 && consumes e.cause) = false → c.sp.wp ≠ c.sp.twp → c.held.length < 3 →
    let t := s.trapAt site c e
    let d := t.core site
    let die := s.die (siteDie site)
    let toM := c.mode = 3 ∨ die.deleg.getLsbD (e.cause / 32) = true ∨ (e.cause = cSYSCALL ∧ c.mode ≠ 0)
    s.sameBut t site ∧ c.sameElse { d with moved := c.moved } ∧ d.loc = c.loc ∧ d.flips = c.flips ∧
    d.sp.epc = BitVec.ofNat 64 c.pc.toNat ∧ d.sp.cause = BitVec.ofNat 64 e.cause ∧ d.sp.eval = e.eval ∧
    d.sp.ewp = c.sp.wp ∧ d.sp.wp = c.sp.twp ∧
    (∀ k, d.sp.epsw.getLsbD k = if k = 3 then decide (c.ds ≠ .none) else c.sp.psw.getLsbD k) ∧
    (c.ds = .none → d.sp.ebr = c.sp.ebr) ∧ (∀ a, c.ds = .taken a → d.sp.ebr = BitVec.ofNat 64 a.toNat) ∧
    (c.ds = .fallThrough →
      d.sp.ebr = BitVec.ofNat 64 ((c.pc.toNat + 4 * lengthOf (c.codeWord c.pc.toNat)) % 2 ^ 18)) ∧
    (toM → d.mode = 3 ∧ d.pc.toNat = die.mvec.toNat % 2 ^ 18 / 4 * 4) ∧
    (¬ toM → d.mode = 1 ∧ d.pc.toNat =
      (if e.cause = cOVERLAY ∧ c.sp.ovl.getLsbD 0 = true then c.sp.ovl else c.sp.tvec).toNat % 2 ^ 18 / 4 * 4) ∧
    d.sp.psw.getLsbD 2 = false ∧ (∀ k, 3 ≤ k → d.sp.psw.getLsbD k = c.sp.psw.getLsbD k) ∧
    d.ds = .none ∧ d.rep = none ∧ d.shadows = [] ∧ d.held = ⟨c.shadows, c.rep⟩ :: c.held ∧ d.wait = .none ∧
    d.sp.wsz = c.sp.wsz ∧ d.sp.ix = c.sp.ix ∧ d.sp.xb = c.sp.xb ∧ d.sp.fcsr = c.sp.fcsr ∧ d.sp.tvec = c.sp.tvec ∧
    d.sp.twp = c.sp.twp ∧ d.sp.ovl = c.sp.ovl ∧ d.sp.own = c.sp.own ∧ d.sp.vd = c.sp.vd ∧ d.sp.thr = c.sp.thr ∧
    d.sp.stch = c.sp.stch ∧ d.sp.ss = c.sp.ss ∧ d.sp.gang = c.sp.gang ∧
    d.cnt = tabSet c.cnt 7 ((tabGet c.cnt 7 0 + 1) % 2 ^ 64)

/-- A trap raised while s.wp equals s.twp stops the core, which is to be reported to its cluster controller: no special register and no byte changes. (R58) -/
def Obligations.DoubleTrapStopsTheCore : Prop :=
  ∀ (s : State) (site : Nat) (e : Exc),
    let c := s.core site
    c.formed = false → (c.sp.psw.getLsbD 6 && consumes e.cause) = false → c.sp.wp = c.sp.twp →
    let d := (s.trapAt site c e).core site
    d.run = .stopped ∧ d.dbl = true ∧ d.sp = c.sp ∧ d.loc = c.loc ∧ d.held = c.held ∧ d.pc = c.pc ∧
      s.sameBut (s.trapAt site c e) site

/-- eret issued in S or M mode outside a delay slot, with s.epsw.mode at most the current mode and s.ewp within the workspace invariant, completes: mode and IE come from s.epsw, s.wp from s.ewp, the held shadows of the stream are open again, and fetch goes on at s.epc, as the delay slot of a taken jump to s.ebr when s.epsw.DS is set, or where the held repetition goes on; nothing else changes but the handler's own shadows, which stay open and lose a slot (log 63); with DS the held repetition is dropped (log 66). (R49, R57) -/
def Sys2Proof.Machine.claimEretReturns : Prop :=
  ∀ (s : State),
    let c := s.core s.cur
    c.ds = .none → 1 ≤ c.mode → c.sp.epsw.toNat % 4 ≤ c.mode →
    workspaceOk c.sp.ewp.toNat c.sp.twp.toNat c.sp.wsz.toNat c.sp.xb.toNat = true →
    ∃ t, exec .eret s = .next t ∧ s.sameBut t s.cur ∧
      let d := t.core s.cur
      let h : Held := c.held.headD ⟨[], none⟩
      d.mode = c.sp.epsw.toNat % 4 ∧ d.sp.psw.getLsbD 2 = c.sp.epsw.getLsbD 2 ∧
      (∀ k, 3 ≤ k → d.sp.psw.getLsbD k = c.sp.psw.getLsbD k) ∧ d.sp.wp = c.sp.ewp ∧
      d.sp = { c.sp with psw := d.sp.psw, wp := c.sp.ewp } ∧
      d.shadows = h.shadows ++ c.tickShadows.shadows ∧ d.held = c.held.tail ∧ d.loc = c.loc ∧ c.sameElse d ∧
      (c.sp.epsw.getLsbD 3 = true →
        d.ds = .taken (BitVec.ofNat 18 c.sp.ebr.toNat) ∧ d.pc = BitVec.ofNat 18 c.sp.epc.toNat ∧ d.rep = none) ∧
      (c.sp.epsw.getLsbD 3 = false → d.ds = .none ∧
        (h.rep = none → d.pc = BitVec.ofNat 18 c.sp.epc.toNat ∧ d.rep = none))

/-- eret outside a delay slot traps with PRIVILEGE and s.eval 0 in U mode, then when s.epsw.mode exceeds the current mode, then with LOCAL_RANGE and s.ewp when s.ewp breaks the workspace invariant. (R57) -/
def Sys2Proof.Machine.claimEretRefuses : Prop :=
  ∀ (s : State),
    let c := s.core s.cur
    c.ds = .none →
    (c.mode = 0 → exec .eret s = .next (s.trapAt s.cur c ⟨cPRIVILEGE, 0⟩)) ∧
    (1 ≤ c.mode → c.mode < c.sp.epsw.toNat % 4 → exec .eret s = .next (s.trapAt s.cur c ⟨cPRIVILEGE, 0⟩)) ∧
    (1 ≤ c.mode → c.sp.epsw.toNat % 4 ≤ c.mode →
      workspaceOk c.sp.ewp.toNat c.sp.twp.toNat c.sp.wsz.toNat c.sp.xb.toNat = false →
      exec .eret s = .next (s.trapAt s.cur c ⟨cLOCAL_RANGE, c.sp.ewp⟩))

/-- eret returns to the saved stream, and refuses a higher mode or a workspace outside local memory. (R49, R57) -/
def Obligations.Eret : Prop :=
  claimEretReturns ∧ claimEretRefuses

/-- In every state and mode, trap raises cause 0x1E0 + code with s.eval 0, sys raises SYSCALL (0x009) and brk raises BREAKPOINT (0x00A), each with its code in s.eval, from the core as it stands. (R139) -/
def Sys2Proof.Machine.claimSoftwareTraps : Prop :=
  ∀ (s : State),
    (∀ code : BitVec 5, exec (.trap code) s = .next (s.trapAt s.cur (s.core s.cur) ⟨0x1E0 + code.toNat, 0⟩)) ∧
    (∀ code : BitVec 6, exec (.sys code) s = .next (s.trapAt s.cur (s.core s.cur) ⟨0x009, BitVec.ofNat 64 code.toNat⟩)) ∧
    (∀ code : BitVec 6, exec (.brk code) s = .next (s.trapAt s.cur (s.core s.cur) ⟨0x00A, BitVec.ofNat 64 code.toNat⟩))

/-- Taking a trap saves the pc, the status and the workspace, and enters the vector; trap, sys and brk take theirs. (R45, R49, R55, R56, R139, R389) -/
def Obligations.TrapsTaken : Prop :=
  claimTrapEntry ∧ claimSoftwareTraps

/-- A local load: its destination, base, offset, bytes, and whether it sign-extends (05 R128). -/
def Sys2Proof.Machine.localLoadRule : Instr → Option (Reg × Reg × BitVec 12 × Nat × Bool)
  | .ldlB d a imm => some (d, a, imm, 1, true)
  | .ldlH d a imm => some (d, a, imm, 2, true)
  | .ldlW d a imm => some (d, a, imm, 4, true)
  | .ldlD d a imm => some (d, a, imm, 8, true)
  | .ldlBz d a imm => some (d, a, imm, 1, false)
  | .ldlHz d a imm => some (d, a, imm, 2, false)
  | .ldlWz d a imm => some (d, a, imm, 4, false)
  | _ => none

/-- A local store: the register stored, base, offset and bytes (05 R128). -/
def Sys2Proof.Machine.localStoreRule : Instr → Option (Reg × Reg × BitVec 12 × Nat)
  | .stlB d a imm => some (d, a, imm, 1)
  | .stlH d a imm => some (d, a, imm, 2)
  | .stlW d a imm => some (d, a, imm, 4)
  | .stlD d a imm => some (d, a, imm, 8)
  | _ => none

/-- The full sum of base and offset (05 R128). -/
def Sys2Proof.Machine.localAddr (c : Core) (a : Reg) (imm : BitVec 12) : Int := (c.rg .A (fix a)).toInt + imm.toInt

/-- A local access of n bytes that every check of 02 R42 lets through. -/
def Sys2Proof.Machine.inBounds (c : Core) (a : Int) (n : Nat) : Prop :=
  0 ≤ a ∧ a + n ≤ 262144 ∧ a % n = 0 ∧ (c.sp.xb.toNat : Int) ≤ a

/-- A local load whose operands are clear, whose address is in range, aligned and not execute-only, whose word has no flipped bit and for which nothing is pending completes: the destination holds the n bytes, little-endian, sign- or zero-extended, readable 3 slots later; the scratchpad outside the destination word and everything else is unchanged. (R2, R42, R128, R119) -/
def Sys2Proof.Machine.claimLocalLoadResult : Prop :=
  ∀ (i : Instr) (s : State) (d a : Reg) (imm : BitVec 12) (n : Nat) (sgn : Bool),
    localLoadRule i = some (d, a, imm, n, sgn) →
    let c := s.core s.cur
    let x := localAddr c a imm
    let v := memRead c.loc x.toNat n
    c.Clear { uses := [rd .A (fix a), wr .D (fix d)] } → inBounds c x n → tabGet? c.flips (x.toNat / 8) = none →
    c.localBusy x n = false →
    exec i s = .next (s.finishAt s.cur 4 (c.tickShadows.wg .D (fix d)
      (if sgn && decide (2 ^ (8 * n - 1) ≤ v) then BitVec.ofInt 64 ((v : Int) - 2 ^ (8 * n)) else BitVec.ofNat 64 v) 3))

/-- A local store whose operands are clear, whose address is in range, aligned and not execute-only, whose word has no flipped bit and for which nothing is pending completes: the n bytes from the address hold the low bytes of the register, little-endian; every other byte, every special register, the other cores and everything else are unchanged. (R2, R42, R128) -/
def Sys2Proof.Machine.claimLocalStoreResult : Prop :=
  ∀ (i : Instr) (s : State) (d a : Reg) (imm : BitVec 12) (n : Nat),
    localStoreRule i = some (d, a, imm, n) →
    let c := s.core s.cur
    let x := localAddr c a imm
    c.Clear { uses := [rd .A (fix a), rd .D (fix d)] } → inBounds c x n → tabGet? c.flips (x.toNat / 8) = none →
    c.localBusy x n = false → c.loc.wf = true →
    ∃ t, exec i s = .next t ∧ s.sameBut t s.cur ∧
      let e := t.core s.cur
      (∀ k < n, e.byte (x.toNat + k) = BitVec.ofNat 8 ((c.rg .D (fix d)).toNat / 256 ^ k)) ∧
      (∀ y, y < x.toNat ∨ x.toNat + n ≤ y → e.byte y = c.byte y) ∧
      e.sp = c.sp ∧ e.flips = c.flips ∧ e.shadows = c.tickShadows.shadows ∧ e.held = c.held ∧ c.sameElse e ∧
      e.pc = (Core.advance 4 c).pc

/-- Local loads and stores read and write the bytes of their width, little-endian, and nothing else. (R2, R42, R119, R128) -/
def Obligations.LocalLoadsAndStores : Prop :=
  claimLocalLoadResult ∧ claimLocalStoreResult

/-- A local load or store whose operands are clear and for which nothing is pending traps, from the core as it stood and with the address in s.eval: LOCAL_RANGE when the address is negative or the access ends past 262,144, else LOCAL_ALIGN when the address is no multiple of its size, else EXEC_ONLY when it lies below s.xb. (R42, R128) -/
def Sys2Proof.Machine.claimLocalAccessChecks : Prop :=
  ∀ (i : Instr) (s : State) (a : Reg) (imm : BitVec 12) (n : Nat) (us : List Use),
    ((∃ d sgn, localLoadRule i = some (d, a, imm, n, sgn) ∧ us = [rd .A (fix a), wr .D (fix d)]) ∨
     (∃ d, localStoreRule i = some (d, a, imm, n) ∧ us = [rd .A (fix a), rd .D (fix d)])) →
    let c := s.core s.cur
    let x := localAddr c a imm
    let traps (cause : Nat) : Prop := exec i s = .next (s.trapAt s.cur c ⟨cause, BitVec.ofInt 64 x⟩)
    c.Clear { uses := us } → c.localBusy x n = false →
    (x < 0 ∨ 262144 < x + n → traps 0x022) ∧
    (0 ≤ x → x + n ≤ 262144 → x % n ≠ 0 → traps 0x023) ∧
    (0 ≤ x → x + n ≤ 262144 → x % n = 0 → x < c.sp.xb.toNat → traps 0x021)

/-- A local load or store whose operands pass the gate but whose bytes a pending result record or capture is still to fill does not move: the core waits with its instruction, and nothing else changes. (R227, R319) -/
def Sys2Proof.Machine.claimLocalAccessWaits : Prop :=
  ∀ (i : Instr) (s : State) (a : Reg) (imm : BitVec 12) (n : Nat) (us : List Use),
    ((∃ d sgn, localLoadRule i = some (d, a, imm, n, sgn) ∧ us = [rd .A (fix a), wr .D (fix d)]) ∨
     (∃ d, localStoreRule i = some (d, a, imm, n) ∧ us = [rd .A (fix a), rd .D (fix d)])) →
    let c := s.core s.cur
    c.Clear { uses := us } → c.localBusy (localAddr c a imm) n = true →
    exec i s = .next (s.putCore s.cur { c with wait := .busy })

/-- Local accesses trap on a bad address and wait for a pending record or capture. (R42, R128, R227, R319) -/
def Obligations.LocalChecksAndWaits : Prop :=
  claimLocalAccessChecks ∧ claimLocalAccessWaits

/-- The special registers by their numbers: what rds returns and the lowest mode that may read it (02 R36). -/
def Sys2Proof.Machine.specialRule (s : State) : List (BitVec 12 × Nat × DWord) :=
  let c := s.core s.cur
  let n (x : Nat) : DWord := BitVec.ofNat 64 x
  [(0x000, 0, c.sp.wp), (0x001, 0, c.sp.wsz), (0x002, 0, c.sp.ix), (0x003, 0, c.sp.xb), (0x004, 0, n c.pc.toNat),
   (0x005, 0, c.sp.psw), (0x006, 1, c.sp.epsw), (0x007, 1, c.sp.epc), (0x008, 1, c.sp.ebr), (0x009, 1, c.sp.cause),
   (0x00A, 1, c.sp.eval), (0x00B, 1, c.sp.tvec), (0x00C, 1, c.sp.twp), (0x00D, 1, c.sp.ewp), (0x00E, 1, c.sp.ovl),
   (0x010, 0, c.sp.own), (0x011, 0, c.sp.vd), (0x020, 0, c.sp.fcsr), (0x030, 0, n (s.logical s.cur)),
   (0x031, 0, n (s.cur % 4096)), (0x032, 0, n (sitePkgCluster s.cur)), (0x033, 0, c.sp.thr), (0x034, 0, c.sp.stch),
   (0x040, 0, c.sp.ss), (0x041, 0, n (if c.sp.psw.getLsbD 4 then s.cycOf s.cur - c.xbase else 0)), (0x042, 0, c.sp.gang),
   (0x050, 0, n s.time), (0x051, 0, n (s.cycOf s.cur))]

/-- rds of each special register, in a mode that may read it and with its destination in bounds, completes with the register's value in the destination, and of s.fcsr with no flag outstanding; in U mode an rds of s.epsw to s.ovl traps with PRIVILEGE and s.eval 0 and writes nothing. (R36, R37, R130, R85) -/
def Sys2Proof.Machine.claimSpecialRead : Prop :=
  ∀ (s : State) (d : Reg) (num : BitVec 12) (mode : Nat) (v : DWord), (num, mode, v) ∈ specialRule s →
    let c := s.core s.cur
    (c.Clear { mode := mode, uses := [wr .D (fix d)] } → exec (.rds d num) s = .next (s.finishAt s.cur 4
      ({ c.tickShadows with late := if num = 0x020 then [] else c.tickShadows.late }.wg .D (fix d) v 1))) ∧
    (c.mode < mode → exec (.rds d num) s = .next (s.trapAt s.cur c ⟨cPRIVILEGE, 0⟩))

/-- The special registers that a mode may write: number, lowest mode, the bits that a write reaches, and the register
(02 R36 to R40, 04 R103); s.psw and s.epsw keep their read-only bits. -/
def Sys2Proof.Machine.writeRule : List (BitVec 12 × Nat × DWord × (Sprs → DWord)) :=
  [(0x000, 0, 0x3FFC0, Sprs.wp), (0x001, 0, 0x7FF, Sprs.wsz), (0x002, 0, 0xFFFFFFFFFFFFFFFF, Sprs.ix),
   (0x003, 1, 0x7FFC0, Sprs.xb), (0x005, 1, 0x7, Sprs.psw), (0x006, 1, 0xF, Sprs.epsw), (0x007, 1, 0x3FFFF, Sprs.epc),
   (0x008, 1, 0x3FFFF, Sprs.ebr), (0x009, 1, 0x1FF, Sprs.cause), (0x00A, 1, 0xFFFFFFFFFFFFFFFF, Sprs.eval),
   (0x00B, 1, 0x3FFFC, Sprs.tvec), (0x00C, 1, 0x3FFC0, Sprs.twp), (0x00D, 1, 0x3FFC0, Sprs.ewp), (0x00E, 1, 0x3FFFD, Sprs.ovl),
   (0x010, 1, 0xFFFFF, Sprs.own), (0x020, 0, 0x71F1F, Sprs.fcsr), (0x033, 1, 0xFFFFFFFFFFFFFFFF, Sprs.thr)]

/-- What a register holds after a write of x: the bits that the write reaches from x, those of s.psw and s.epsw that it does
not reach as they were, the others zero. -/
def Sys2Proof.Machine.written (num : BitVec 12) (mask x old : DWord) : DWord :=
  (x &&& mask) ||| (if num = 5 ∨ num = 6 then old &&& 0xF8 &&& ~~~mask else 0)

/-- The workspace invariant of 02 R35 with one of its registers replaced. -/
def Sys2Proof.Machine.keepsWorkspace (p : Sprs) (num : BitVec 12) (v : DWord) : Prop :=
  let pick (k : BitVec 12) (old : DWord) : Nat := if num = k then v.toNat else old.toNat
  let size := 8 * max (pick 0x001 p.wsz) 324
  pick 0x003 p.xb ≤ pick 0x000 p.wp ∧ pick 0x003 p.xb ≤ pick 0x00C p.twp ∧ pick 0x000 p.wp + size ≤ 262144 ∧
    pick 0x00C p.twp + size ≤ 262144 ∧ 64 ≤ pick 0x001 p.wsz ∧ pick 0x001 p.wsz ≤ 2047

/-- wrs to each writable special register, in a mode that may write it, with a clear source and a value that breaks neither the workspace invariant nor the rules of the mode field, completes: the register holds the written bits, s.fcsr with the flags of earlier instructions that are not yet known ORed in (R107), every other special register, the scratchpad and everything else are unchanged. (R35, R36, R37, R38, R103, R130) -/
def Sys2Proof.Machine.claimSpecialWrite : Prop :=
  ∀ (s : State) (a : Reg) (num : BitVec 12) (mode : Nat) (mask : DWord) (reg : Sprs → DWord),
    (num, mode, mask, reg) ∈ writeRule →
    let c := s.core s.cur
    let v := written num mask (c.rg .A (fix a)) (reg c.sp)
    c.Clear { mode := mode, uses := [rd .A (fix a)] } →
    (num ∈ [0x000, 0x001, 0x003, 0x00C] → keepsWorkspace c.sp num v) →
    (num ∈ [0x005, 0x006] → v.toNat % 4 ≠ 2 ∧ (v.toNat % 4 = 3 → c.mode ≠ 1)) →
    ∃ t, exec (.wrs a num) s = .next t ∧ s.sameBut t s.cur ∧
      let d := t.core s.cur
      reg d.sp = v ||| (if num = 0x020 then c.tickShadows.lateFlags.setWidth 64 else 0) ∧ (∀ num' m' k' reg', (num', m', k', reg') ∈ writeRule → num' ≠ num → reg' d.sp = reg' c.sp) ∧
      d.sp.vd = c.sp.vd ∧ d.sp.stch = c.sp.stch ∧ d.sp.ss = c.sp.ss ∧ d.sp.gang = c.sp.gang ∧
      d.loc = c.loc ∧ d.flips = c.flips ∧ d.held = c.held ∧ d.shadows = c.tickShadows.shadows ∧ c.sameElse d ∧
      d.pc = (Core.advance 4 c).pc

/-- wrs with a clear source traps from the core as it stood: PRIVILEGE with s.eval 0 where the mode may not write the register; LOCAL_RANGE with the value written where the workspace invariant would break; ILLEGAL_FIELD with the value written for mode 2 in s.psw or s.epsw; PRIVILEGE with s.eval 0 for mode 3 written from S mode. (R35, R37, R38) -/
def Sys2Proof.Machine.claimSpecialWriteRefused : Prop :=
  ∀ (s : State) (a : Reg) (num : BitVec 12) (mode : Nat) (mask : DWord) (reg : Sprs → DWord),
    (num, mode, mask, reg) ∈ writeRule →
    let c := s.core s.cur
    let v := written num mask (c.rg .A (fix a)) (reg c.sp)
    let traps (cause : Nat) (x : DWord) : Prop := exec (.wrs a num) s = .next (s.trapAt s.cur c ⟨cause, x⟩)
    (c.mode < mode → traps 0x006 0) ∧
    (c.Clear { mode := mode, uses := [rd .A (fix a)] } →
      (num ∈ [0x000, 0x001, 0x003, 0x00C] → ¬ keepsWorkspace c.sp num v → traps 0x022 v) ∧
      (num ∈ [0x005, 0x006] → v.toNat % 4 = 2 → traps 0x002 v) ∧
      (num ∈ [0x005, 0x006] → v.toNat % 4 = 3 → c.mode = 1 → traps 0x006 0))

/-- rds and wrs read and write every special register, or are refused. (R35, R36, R37, R38, R85, R103, R130) -/
def Obligations.SpecialRegisters : Prop :=
  claimSpecialRead ∧ claimSpecialWrite ∧ claimSpecialWriteRefused

/-- A global load: destination, base, offset, bytes, and whether it sign-extends (10 R257). -/
def Sys2Proof.Machine.loadRule : Instr → Option (Reg × Reg × BitVec 12 × Nat × Bool)
  | .ldB d a imm => some (d, a, imm, 1, true)
  | .ldH d a imm => some (d, a, imm, 2, true)
  | .ldW d a imm => some (d, a, imm, 4, true)
  | .ldD d a imm => some (d, a, imm, 8, true)
  | .ldBz d a imm => some (d, a, imm, 1, false)
  | .ldHz d a imm => some (d, a, imm, 2, false)
  | .ldWz d a imm => some (d, a, imm, 4, false)
  | _ => none

/-- A global store: the register stored, base, offset and bytes (10 R257). -/
def Sys2Proof.Machine.storeRule : Instr → Option (Reg × Reg × BitVec 12 × Nat)
  | .stB d a imm => some (d, a, imm, 1)
  | .stH d a imm => some (d, a, imm, 2)
  | .stW d a imm => some (d, a, imm, 4)
  | .stD d a imm => some (d, a, imm, 8)
  | _ => none

/-- The virtual address of a global load or store: base and offset modulo 2^64 (10 R257). -/
def Sys2Proof.Machine.globalAddr (c : Core) (a : Reg) (imm : BitVec 12) : DWord :=
  BitVec.ofInt 64 ((c.rg .A (fix a)).toInt + imm.toInt)

/-- Neither superstep rule stands against a global access of the core: it is not in a compute phase (09 R219), nor in a
protected gang (09 R234). -/
def Sys2Proof.Machine.mayReach (c : Core) : Prop :=
  ¬ (c.sp.psw.getLsbD 4 = true ∧ c.sp.psw.getLsbD 5 = false) ∧ c.sp.psw.getLsbD 6 = false

/-- n bytes v read from memory, sign-extended into a register. -/
def Sys2Proof.Machine.sextBytes (n v : Nat) : DWord :=
  if 2 ^ (8 * n - 1) ≤ v then BitVec.ofInt 64 ((v : Int) - 2 ^ (8 * n)) else BitVec.ofNat 64 v

/-- A global load with clear operands, outside a compute phase and a protected gang, whose access passes its checks and performs, completes: the destination holds the n bytes read at the virtual address, sign- or zero-extended, readable by the next instruction; what the access itself did to tokens, caches and counters is kept. (R256, R257, R219, R234) -/
def Sys2Proof.Machine.claimGlobalLoadResult : Prop :=
  ∀ (i : Instr) (s u : State) (d a : Reg) (imm : BitVec 12) (n : Nat) (sgn : Bool) (v : Nat),
    loadRule i = some (d, a, imm, n, sgn) →
    let c := s.core s.cur
    c.Clear { uses := [rd .A (fix a), wr .D (fix d)] } → mayReach c →
    s.begun.access (s.begun.coreAccess s.cur (globalAddr c a imm).toNat n .load) = .ok u v →
    exec i s = .next ((u.putCore s.cur ((u.core s.cur).wg .D (fix d)
      (if sgn then sextBytes n v else BitVec.ofNat 64 v) 1)).ended s.cur 4)

/-- A global store with clear operands, outside a compute phase and a protected gang, whose access of the low n bytes of its register at the virtual address passes its checks and performs (or is posted, for memory of type W), completes and changes nothing but what the access did. (R254, R256, R257) -/
def Sys2Proof.Machine.claimGlobalStoreResult : Prop :=
  ∀ (i : Instr) (s u : State) (d a : Reg) (imm : BitVec 12) (n v : Nat),
    storeRule i = some (d, a, imm, n) →
    let c := s.core s.cur
    c.Clear { uses := [rd .A (fix a), rd .D (fix d)] } → mayReach c →
    s.begun.access (s.begun.coreAccess s.cur (globalAddr c a imm).toNat n
      (.store ((c.rg .D (fix d)).toNat % 2 ^ (8 * n)))) = .ok u v →
    exec i s = .next (u.ended s.cur 4)

/-- An atomic: its length, its base and its other operands, its bytes, its operation, and what it writes besides memory, given
the old value (10 R258 to R260). -/
structure Sys2Proof.Machine.Atomic where
  len : Nat
  uses : List Use
  base : GOp
  n : Nat
  op : MemOp
  put : Nat → Core → Core

/-- The atomics, each as its rule states it. -/
def Sys2Proof.Machine.atomicRule (c : Core) (i : Instr) : Option Atomic :=
  let amo (n fn : Nat) (d a b : Reg) : Option Atomic :=
    some ⟨4, [rd .A (fix a), rd .B (fix b), wr .D (fix d)], fix a, n, .amo fn ((c.rg .B (fix b)).toNat % 2 ^ (8 * n)),
      fun v k => k.wg .D (fix d) (sextBytes n v) 1⟩
  let cas (n : Nat) (d a b x : GOp) : Option Atomic :=
    some ⟨12, [rd .A a, rd .B b, rd .C x, wr .D d], a, n,
      .cas ((c.rg .B b).toNat % 2 ^ (8 * n)) ((c.rg .C x).toNat % 2 ^ (8 * n)), fun v k => k.wg .D d (sextBytes n v) 1⟩
  let incw (n : Nat) (d a b : GOp) : Option Atomic :=
    some ⟨12, [rd .A a, rd .B b, wr .D d], a, n, .incw ((c.rg .B b).toNat % 2 ^ (8 * n)),
      fun v k => k.wg .D d (sextBytes n v) 1⟩
  let faddb (n : Nat) (d a b x st : GOp) : Option Atomic :=
    let add := (c.rg .B b).toNat % 2 ^ (8 * n)
    let bound := (c.rg .C x).toNat % 2 ^ (8 * n)
    some ⟨12, [rd .A a, rd .B b, rd .C x, wr .D d, wr .S st], a, n, .faddb add bound,
      fun v k => (k.wg .D d (sextBytes n v) 1).wg .S st (if v + add ≤ bound then 1 else 0) 1⟩
  match i with
  | .amoswap d a b => amo 8 0 d a b
  | .amoadd d a b => amo 8 1 d a b
  | .amoand d a b => amo 8 2 d a b
  | .amoor d a b => amo 8 3 d a b
  | .amoxor d a b => amo 8 4 d a b
  | .amomin d a b => amo 8 5 d a b
  | .amomax d a b => amo 8 6 d a b
  | .amominn d a b => amo 8 7 d a b
  | .amomaxn d a b => amo 8 8 d a b
  | .amoswapW d a b => amo 4 0 d a b
  | .amoaddW d a b => amo 4 1 d a b
  | .amoandW d a b => amo 4 2 d a b
  | .amoorW d a b => amo 4 3 d a b
  | .amoxorW d a b => amo 4 4 d a b
  | .amominW d a b => amo 4 5 d a b
  | .amomaxW d a b => amo 4 6 d a b
  | .amominnW d a b => amo 4 7 d a b
  | .amomaxnW d a b => amo 4 8 d a b
  | .cas d a b x => cas 8 d a b x
  | .casW d a b x => cas 4 d a b x
  | .incw d a b => incw 8 d a b
  | .incwW d a b => incw 4 d a b
  | .faddb d a b x st => faddb 8 d a b x st
  | .faddbW d a b x st => faddb 4 d a b x st
  | _ => none

/-- Every AMO and AMOX with clear operands, outside a compute phase and a protected gang, whose access with its operation and operands passes its checks and performs, completes: gD holds the old value sign-extended, and faddb also writes whether it added; nothing else changes but what the access did. (R256, R258, R259, R260) -/
def Sys2Proof.Machine.claimAtomicResult : Prop :=
  ∀ (i : Instr) (s u : State) (x : Atomic) (v : Nat),
    let c := s.core s.cur
    atomicRule c i = some x → c.Clear { uses := x.uses } → mayReach c →
    s.begun.access (s.begun.coreAccess s.cur (c.rg .A x.base).toNat x.n x.op) = .ok u v →
    exec i s = .next ((u.putCore s.cur (x.put v (u.core s.cur))).ended s.cur x.len)

/-- Global loads, stores and atomics complete with the bytes that their rules give. (R219, R234, R254, R256, R257, R258, R259, R260) -/
def Obligations.GlobalResults : Prop :=
  claimGlobalLoadResult ∧ claimGlobalStoreResult ∧ claimAtomicResult

/-- A load writes nothing and a store its value; amoswap, amoadd, amoand, amoor and amoxor write b, old + b modulo 2^(8n), and the bitwise results; the minima and maxima the smaller or larger as signed or unsigned numbers of n bytes; cas writes c when the old value is b and else nothing; incw writes 0 when the old value has reached b and else one more; faddb writes the sum when it does not exceed its bound and else nothing. (R257, R258, R260) -/
def Obligations.AtomicOperation : Prop :=
  ∀ (n old b x : Nat), (n = 4 ∨ n = 8) → old < 2 ^ (8 * n) → b < 2 ^ (8 * n) → x < 2 ^ (8 * n) →
    let sg (v : Nat) : Int := if v < 2 ^ (8 * n - 1) then (v : Int) else (v : Int) - 2 ^ (8 * n)
    MemOp.load.result n old = none ∧ (MemOp.store b).result n old = some b ∧
    (MemOp.amo 0 b).result n old = some b ∧ (MemOp.amo 1 b).result n old = some ((old + b) % 2 ^ (8 * n)) ∧
    (∀ k, (((MemOp.amo 2 b).result n old).getD 0).testBit k = (old.testBit k && b.testBit k)) ∧
    (∀ k, (((MemOp.amo 3 b).result n old).getD 0).testBit k = (old.testBit k || b.testBit k)) ∧
    (∀ k, (((MemOp.amo 4 b).result n old).getD 0).testBit k = (old.testBit k != b.testBit k)) ∧
    (∃ r, (MemOp.amo 5 b).result n old = some r ∧ (r = old ∨ r = b) ∧ sg r ≤ sg old ∧ sg r ≤ sg b) ∧
    (∃ r, (MemOp.amo 6 b).result n old = some r ∧ (r = old ∨ r = b) ∧ sg old ≤ sg r ∧ sg b ≤ sg r) ∧
    (MemOp.amo 7 b).result n old = some (min old b) ∧ (MemOp.amo 8 b).result n old = some (max old b) ∧
    (MemOp.cas b x).result n old = (if old = b then some x else none) ∧
    (∃ r, (MemOp.incw b).result n old = some r ∧ (b ≤ old → r = 0) ∧ (old < b → r = old + 1) ∧ r < 2 ^ (8 * n)) ∧
    (MemOp.faddb b x).result n old = (if x < old + b then none else some (old + b))

/-- A write of n bytes within one sector under a key slot other than 0xFF is read back under that slot; every other byte of the sector reads as a read under that slot saw it before, every other sector reads under every slot as before, and the written sector reads as zeros under every other slot. (R469, R470) -/
def Obligations.KeyedMemoryReadAfterWrite : Prop :=
  ∀ (s : State) (key pa n v : Nat), s.mem.wf = true → key ≠ 0xFF → 0 < n → pa / 64 = (pa + n - 1) / 64 →
    let t := s.writePa key pa n v
    t.mem.wf = true ∧ t.readPa key pa n = v % 256 ^ n ∧
    (∀ q, q / 64 = pa / 64 → q < pa ∨ pa + n ≤ q → t.readPa key q 1 = s.readPa key q 1) ∧
    (∀ q key', q / 64 ≠ pa / 64 → t.readPa key' q 1 = s.readPa key' q 1) ∧
    (∀ q key', q / 64 = pa / 64 → key' ≠ key → t.readPa key' q 1 = 0)

/-- A global load, store or atomic with clear operands traps before any other check with PHASE_GLOBAL in a compute phase, then with RB_REFUSED in a protected gang, then with ALIGN when its address is no multiple of its size; s.eval is the virtual address and nothing is transferred. (R219, R234, R256) -/
def Sys2Proof.Machine.claimGlobalAccessRefusals : Prop :=
  ∀ (i : Instr) (s : State) (us : List Use) (va : DWord) (n : Nat),
    let c := s.core s.cur
    ((∃ d a imm sgn, loadRule i = some (d, a, imm, n, sgn) ∧ us = [rd .A (fix a), wr .D (fix d)] ∧ va = globalAddr c a imm) ∨
     (∃ d a imm, storeRule i = some (d, a, imm, n) ∧ us = [rd .A (fix a), rd .D (fix d)] ∧ va = globalAddr c a imm) ∨
     (∃ x, atomicRule c i = some x ∧ us = x.uses ∧ n = x.n ∧ va = c.rg .A x.base)) →
    c.Clear { uses := us } →
    let traps (cause : Nat) : Prop := exec i s = .next (s.begun.trapped s s.cur ⟨cause, va⟩)
    (c.sp.psw.getLsbD 4 = true → c.sp.psw.getLsbD 5 = false → traps cPHASE_GLOBAL) ∧
    (¬ (c.sp.psw.getLsbD 4 = true ∧ c.sp.psw.getLsbD 5 = false) → c.sp.psw.getLsbD 6 = true → traps cRB_REFUSED) ∧
    (mayReach c → va.toNat % n ≠ 0 → traps cALIGN)

/-- For a global load, store or atomic with clear operands, outside a compute phase and a protected gang: when its access raises a cause the instruction traps with it; when its access must wait the core waits in place, with no slot counted; when it reaches a device register a load delivers what the register reads as and a store writes the register. (R51, R256, R472) -/
def Sys2Proof.Machine.claimGlobalAccessOutcomes : Prop :=
  ∀ (i : Instr) (s u : State) (us : List Use) (va : DWord) (n : Nat) (op : MemOp),
    let c := s.core s.cur
    ((∃ d a imm sgn, loadRule i = some (d, a, imm, n, sgn) ∧ us = [rd .A (fix a), wr .D (fix d)] ∧
        va = globalAddr c a imm ∧ op = .load) ∨
     (∃ d a imm, storeRule i = some (d, a, imm, n) ∧ us = [rd .A (fix a), rd .D (fix d)] ∧
        va = globalAddr c a imm ∧ op = .store ((c.rg .D (fix d)).toNat % 2 ^ (8 * n))) ∨
     (∃ x, atomicRule c i = some x ∧ us = x.uses ∧ n = x.n ∧ va = c.rg .A x.base ∧ op = x.op)) →
    c.Clear { uses := us } → mayReach c →
    let a := s.begun.access (s.begun.coreAccess s.cur va.toNat n op)
    (∀ e, a = .trap u e → exec i s = .next (u.trapped s s.cur e)) ∧
    (a = .wait u → exec i s = .next (u.held_ s s.cur .stall)) ∧
    (∀ pa d b imm, a = .device u pa → loadRule i = some (d, b, imm, 8, true) →
      exec i s = .next ((u.putCore s.cur ((u.core s.cur).wg .D (fix d) (u.devRead pa) 1)).ended s.cur 4)) ∧
    (∀ pa v, a = .device u pa → op = .store v →
      exec i s = .next (let w := u.devWrite pa (BitVec.ofNat 64 v); (w.putCore s.cur (w.core s.cur)).ended s.cur 4))

/-- A global access ends in its result, its first failing check, or a wait, in the order of the checks. (R51, R219, R234, R256, R472) -/
def Obligations.GlobalChecks : Prop :=
  claimGlobalAccessRefusals ∧ claimGlobalAccessOutcomes

/-- The machine as the body of an instruction of the core at a site finds it: one slot has passed for its shadows (02 R49). -/
def Sys2Proof.Machine.State.begunAt (s : State) (site : Nat) : State := s.putCore site (s.core site).tickShadows

/-- The machine once the core at a site has completed an instruction that directed fetch itself and left the machine as u. -/
def Sys2Proof.Machine.State.closedAt (u : State) (site : Nat) : State :=
  u.putCore site (Core.count 1 1 { u.core site with wait := .none, moved := (u.core site).othersMoves })

/-- self with its destination in bounds writes the handle, the frame address or the join signal address; align in a core of no former stitch, in a formed stitch or with a count of 0, and wfi with an interrupt pending, have no effect beyond their slot; align of a former member otherwise waits, and with nobody to re-form the stitch with (log 61) it completes once its count has passed or the whole mask is there; wfi without an interrupt waits in place, and the event that ends its wait completes it. (R127, R140, R194) -/
def Sys2Proof.Machine.claimThreadNumbers : Prop :=
  ∀ (s : State) (d : GOp) (sel : BitVec 2) (count : BitVec 12) (site : Nat),
    let c := s.core s.cur
    (c.Clear { uses := [wr .D d] } → exec (.selfT d sel) s = .next (s.finishAt s.cur 12 (c.tickShadows.wg .D d
      (if sel = 0 then c.sp.thr else if sel = 1 then c.cont.frame else c.cont.sig) 1))) ∧
    (c.stMask = 0 ∨ c.formed = true → exec (.align count) s = .next (s.begun.ended s.cur 4)) ∧
    (c.stMask ≠ 0 → c.formed = false → (∀ n b, c.wait ≠ .align n b) →
      (count = 0 → exec (.align count) s = .next (s.begun.ended s.cur 4)) ∧
      (count ≠ 0 → exec (.align count) s = .next (s.begun.held_ s s.cur (.align count.toNat (s.cycOf s.cur))))) ∧
    (∀ n start, c.stMask ≠ 0 → c.formed = false → c.wait = .align n start → (s.begun.gathered s.cur).length < 2 →
      (n ≤ s.cycOf s.cur - start ∨ ∀ t ∈ maskSites s.cur c.stMask, (s.begun.core t).alignsAt c.pc = true) →
      exec (.align count) s = .next (s.begun.ended s.cur 4)) ∧
    (c.preempt = true → exec .wfi s = .next (s.begun.ended s.cur 4)) ∧
    (c.preempt = false → exec .wfi s = .next (s.begun.held_ s s.cur .wfi)) ∧
    ((s.core site).run = .running → (s.core site).wait = .wfi → (s.core site).preempt = true →
      exec (.wfiWake site) s = .next ((s.begunAt site).ended site 4))

/-- stitch with a mask that is not valid traps with STITCH_MASK and the operand, and with a valid one writes its rank to gD and the mask to s.stch and waits, out of any stitch that it was in (log 41); when every core of the mask waits at a stitch with that mask at one address the stitch forms: every member has FORMED set with its rank, the lowest slot leads, and the followers have s.psw.STCH set; a core whose limit passes goes on alone and nothing more is written. (R204, R205) -/
def Sys2Proof.Machine.claimStitchForms : Prop :=
  ∀ (s : State) (d a : GOp) (limit : BitVec 12) (site : Nat),
    let c := s.core s.cur
    (c.Clear { uses := [rd .A a, wr .D d] } → (∀ m l b, c.wait ≠ .stitch m l b) →
      (s.begun.maskValid s.cur (c.rg .A a) = false →
        exec (.stitch d a limit) s = .next (s.begun.trapped s s.cur ⟨cSTITCH_MASK, c.rg .A a⟩)) ∧
      (s.begun.maskValid s.cur (c.rg .A a) = true → ∃ t, exec (.stitch d a limit) s = .next t ∧
        let e := t.core s.cur
        let w := (c.gIx .D d).toNat
        e.wait = .stitch (c.rg .A a).toNat limit.toNat (s.cycOf s.cur) ∧
        (w ≠ 0 → c.loc.wf = true → e.ws w = BitVec.ofNat 64 (maskRank (c.rg .A a).toNat (siteSlot s.cur))) ∧
        e.stMask = (c.rg .A a).toNat ∧ e.formed = false ∧ e.pc = c.pc)) ∧
    (∀ m l start, c.Clear { uses := [rd .A a, wr .D d] } → c.wait = .stitch m l start → l < s.cycOf s.cur - start →
      exec (.stitch d a limit) s = .next (s.begun.ended s.cur 12)) ∧
    (∀ m l start, s.works site = true → (s.core site).run = .running → (s.core site).wait = .stitch m l start →
      l ≤ s.cycOf site - start →
      exec (.stitchLimitExpiry site) s = .next ((s.begunAt site).ended site 12)) ∧
    (∀ m l b, s.works site = true → (s.core site).run = .running → (s.core site).wait = .stitch m l b →
      (∀ t ∈ maskSites site m, (s.core t).run = .running ∧ (s.core t).pc = (s.core site).pc ∧
        ∃ l b, (s.core t).wait = .stitch m l b) →
      ∃ t, exec (.stitchForm site) s = .next t ∧
        ∀ x ∈ maskSites site m,
          let lead := ((maskSites site m).map siteSlot).foldl min 7
          (t.core x).sp.stch = stchWord true m lead (siteSlot x) ∧
          (t.core x).sp.psw.getLsbD 7 = !decide (siteSlot x = lead))

/-- unstitch changes nothing beyond its slot in a core whose stitch is not formed; otherwise the core keeps MASK with FORMED and s.psw.STCH clear, every core of the mask has left the stitch when the core leads, and every other core is unchanged when it does not. (R206) -/
def Sys2Proof.Machine.claimUnstitching : Prop :=
  ∀ (s : State),
    let c := s.core s.cur
    (c.formed = false → exec .unstitch s = .next (s.begun.ended s.cur 12)) ∧
    (c.formed = true → ∃ t, exec .unstitch s = .next t ∧ (t.core s.cur).formed = false ∧
      (t.core s.cur).sp.psw.getLsbD 7 = false ∧ (t.core s.cur).stMask = c.stMask ∧
      (c.stLead = siteSlot s.cur → ∀ x ∈ maskSites s.cur c.stMask, (t.core x).formed = false) ∧
      (c.stLead ≠ siteSlot s.cur → ∀ x, x ≠ s.cur → t.core x = s.core x))

/-- When every core of a former stitch, at least two, waits at an align at one address with that mask and no formed stitch, they form a stitch: s.stch of every one holds FORMED, its rank in the mask, the lowest slot as the leader, its slot and the mask. (R206, R127) -/
def Sys2Proof.Machine.claimStitchGathers : Prop :=
  ∀ (s : State) (site m : Nat),
    let sites := maskSites site m
    sites.head? = some site → 2 ≤ sites.length → (s.core site).stMask = m →
    (∀ x ∈ sites, s.works x = true ∧ (s.core x).run = .running ∧ (s.core x).pc = (s.core site).pc ∧ (s.core x).stMask = m ∧
      (s.core x).formed = false ∧ ∃ n b, (s.core x).wait = .align n b) →
    ∃ t, exec (.alignGather sites) s = .next t ∧
      ∀ x ∈ sites, (t.core x).sp.stch = stchWord true (sites.foldl (fun k u => k + 2 ^ siteSlot u) 0)
        ((sites.map siteSlot).foldl min 7) (siteSlot x)

/-- Stitches form, gather and end as their rules say. (R127, R204, R205, R206) -/
def Obligations.Stitching : Prop :=
  claimStitchForms ∧ claimUnstitching ∧ claimStitchGathers

/-- spawn outside a compute phase and a protected gang, with a record address below 2^52 aligned to 64 bytes, a continuation record that reads valid and a thread record that reads retired: when the queue of its class has no room gD is 0 and nothing is written; otherwise the continuation and three zero words go to +8 to +56, the next generation in state 1 with owner, vector and image tag to +0, and the handle to the queue and to gD. (R183, R184, R185, R191) -/
def Sys2Proof.Machine.claimSpawnResult : Prop :=
  ∀ (s s1 s3 s4 s5 : State) (d a b : GOp) (k w n4 n5 : Nat),
    let c := s.core s.cur
    let t := s.begun
    let g := t.agent s.cur
    let ta := (c.rg .B b).toNat
    let word (i : Nat) : Nat := k / 2 ^ (64 * i) % 2 ^ 64
    let gen := (recGen w + 1) % 2 ^ 16
    let h := gen * 2 ^ 48 + ta / 16
    c.Clear { uses := [rd .A a, rd .B b, wr .D d] } → mayReach c → ta < 2 ^ 52 → ta % 64 = 0 →
    t.objLoad g (c.rg .A a).toNat 32 = .ok s1 k → s1.contValid g.mode (word 0) (word 1) = true →
    s1.objHold g ta 8 = .ok s3 w → recState w = 0 →
    (s3.qFull g.vd (contPri (word 0)) = true → exec (.spawn d a b) s = .next ((s3.result s.cur d 0).ended s.cur 12)) ∧
    (s3.qFull g.vd (contPri (word 0)) = false →
      s3.objStores g (ta + 8) [word 0, word 1, word 2, k / 2 ^ 192, 0, 0, 0] = .ok s4 n4 →
      s4.objStore g ta 8 (g.lix * 2 ^ 56 + g.tvec.toNat / 4 % 2 ^ 16 * 2 ^ 40 + g.owner * 2 ^ 20 + 2 ^ 16 + gen) = .ok s5 n5 →
      exec (.spawn d a b) s =
        .next (((((s5.qPush g.vd (contPri (word 0)) h).tagAdd g.vd g.lix true)).result s.cur d (BitVec.ofNat 64 h)).ended s.cur 12))

/-- yield outside a delay slot has no effect beyond its slot when suspension is refused or the queue of the thread's class has no room; else it waits for its pending records and posted stores (log 92), and when its suspension with the resume pc after it succeeds, the handle stands at the tail of its queue and the core is idle. (R181, R189, R193) -/
def Sys2Proof.Machine.claimYieldResult : Prop :=
  ∀ (s u : State) (n : Nat),
    let c := s.core s.cur
    let t := s.begun
    let cls := contPri c.cont.word.toNat % 4
    c.ds = .none →
    (t.maySuspend s.cur c.tickShadows.shadows.isEmpty = false ∨ t.qFull c.vdev cls = true →
      exec .yieldT s = .next (t.ended s.cur 12)) ∧
    (t.maySuspend s.cur c.tickShadows.shadows.isEmpty = true → t.qFull c.vdev cls = false → c.ordPend ≠ [] ∨ c.posted ≠ [] →
      exec .yieldT s = .next (t.held_ s s.cur .busy)) ∧
    (t.maySuspend s.cur c.tickShadows.shadows.isEmpty = true → t.qFull c.vdev cls = false → c.ordPend = [] → c.posted = [] →
      t.suspend s.cur 0 0 (c.pc.toNat + 12) = .ok u n →
      exec .yieldT s = .next ((u.qPush c.vdev cls c.sp.thr.toNat).ended s.cur 12) ∧ (u.core s.cur).run = .idle)

/-- When a suspension succeeds, the thread's record was held, its workspace was stored to its frame, its resume word, repeat index and object to +40 to +56, and its state as queued after yield or blocked; the core is then idle, its stitch left and its footprint released. (R184, R188, R189, R206) -/
def Sys2Proof.Machine.claimSuspensionRecord : Prop :=
  ∀ (s u : State) (site kind obj rpc n : Nat), s.suspend site kind obj rpc = .ok u n →
    let c := s.core site
    let dev := Agent.device site c.vdev
    let at_ := handleRec c.sp.thr.toNat
    let ps := framePieces c.cont.frame.toNat c.frameAt (contUnits c.cont.word.toNat)
    (u.core site).run = .idle ∧ (u.core site).formed = false ∧ (∀ p ∈ u.pins, p.kind ≠ .foot site) ∧
    ∃ s1 s2 s3 s4 s5 r n2 n3 n4 n5,
      s.objHold dev at_ 64 = .ok s1 r ∧
      let g := s1.frameAgent site (recOwner (r % 2 ^ 64))
      s1.holdPieces g false (ps.map (fun p => p.1)) = .ok s2 n2 ∧ s2.storePieces g site ps = .ok s3 n3 ∧
      s3.objStores dev (at_ + 40) [resumeWord c kind rpc, c.sp.ix.toNat, obj] = .ok s4 n4 ∧
      s4.objStore dev at_ 8 (recWith (r % 2 ^ 64) (if kind = 0 then 1 else 3)) = .ok s5 n5 ∧ u = s5.vacate site

/-- end outside a delay slot and a gang: with commands in flight it waits; else with a standing fault it traps with it; else with a record pending it waits; else it unstitches, and bound to a channel traps with the lowest channel's number; else it waits until all it issued has performed, its acts follow and the core is idle. (R192, R206) -/
def Sys2Proof.Machine.claimEndRetires : Prop :=
  ∀ (s u : State),
    let c := s.core s.cur
    let t := s.begun
    let v := t.unstitch s.cur
    c.ds = .none → c.seamMode = false → c.wait ≠ .join → (∀ k p, c.wait ≠ .final k p) →
    (c.commanding = true → exec .endT s = .next (t.held_ s s.cur .busy)) ∧
    (∀ c1 e, c.commanding = false → c.tickShadows.endFault = some (c1, e) →
      exec .endT s = .next ((t.putCore s.cur c1).trapped s s.cur e)) ∧
    (c.commanding = false → c.tickShadows.endFault = none →
      (c.ordPend.any (fun p => !p.2) = true → exec .endT s = .next (t.held_ s s.cur .busy)) ∧
      (c.ordPend.any (fun p => !p.2) = false →
        (∀ k, ((v.boundChans s.cur).map chanNumber).min? = some k →
          exec .endT s = .next (v.trapped s s.cur ⟨cBARRIER_MEMBERSHIP, BitVec.ofNat 64 k⟩)) ∧
        (v.boundChans s.cur = [] → v.drained s.cur = false → exec .endT s = .next (v.held_ s s.cur .busy)) ∧
        (v.boundChans s.cur = [] → v.drained s.cur = true → v.retireThread s.cur = .done u →
          exec .endT s = .next (u.closedAt s.cur) ∧ (u.core s.cur).run = .idle)))

/-- spawn, yield and end make, suspend and retire threads with their records and frames. (R181, R183, R184, R185, R188, R189, R191, R192, R193, R206) -/
def Obligations.ThreadInstructions : Prop :=
  claimSpawnResult ∧ claimYieldResult ∧ claimSuspensionRecord ∧ claimEndRetires

/-- A dispatch of a handle that ends running read a record that names it live, and leaves the core running at the code address, or the resume pc of a record with one, with s.thr, s.own, s.vd, s.tvec, s.psw, s.wp and s.wsz as the record and the core's s.twp give them, nothing in shadow, no repetition and no delay slot. (R182, R184, R187) -/
def Sys2Proof.Machine.claimDispatchRegisters : Prop :=
  ∀ (s u : State) (site vd h : Nat), s.dispatchThread site vd h = .running u →
    ∃ s1 v, s.objHold (Agent.device site vd) (handleRec h) 64 = .ok s1 v ∧
      let word (i : Nat) : Nat := v / 2 ^ (64 * i) % 2 ^ 64
      let r := word 5
      let c := u.core site
      handleLive h (word 0) = true ∧ c.run = .running ∧ c.ds = .none ∧ c.rep = none ∧ c.shadows = [] ∧ c.held = [] ∧
      c.sp.thr = BitVec.ofNat 64 h ∧ c.sp.vd = BitVec.ofNat 64 vd ∧ c.sp.own = BitVec.ofNat 64 (recOwner (word 0)) ∧
      c.sp.tvec = recTvec (word 0) ∧ c.sp.psw = (if (word 1).testBit 42 then 5 else 4) ∧
      c.sp.wp = BitVec.ofNat 64 (c.sp.twp.toNat - 64 * contSpan (word 1)) ∧
      (r.testBit 63 = false → c.pc = BitVec.ofNat 18 (contCode (word 1)) ∧ c.sp.wsz = BitVec.ofNat 64 (8 * contW (word 1)) ∧
        c.sp.ix = 0 ∧ c.sp.fcsr = 0) ∧
      (r.testBit 63 = true → c.pc = BitVec.ofNat 18 r ∧ c.sp.wsz = BitVec.ofNat 64 (r / 2 ^ 18 % 2 ^ 11) ∧
        c.sp.ix = BitVec.ofNat 64 (word 6) ∧ c.sp.fcsr = resumeFcsr r)

/-- An idle working core with an image tag, in a region held by a device of a launch that holds its cluster, whose device's first queue entry reads a live record of that tag and a hint that admits the core, dispatches that handle and takes it out of its queue when the dispatch ends running. (R186, R187) -/
def Sys2Proof.Machine.claimDispatchTakesTheFirst : Prop :=
  ∀ (s s1 s2 : State) (site tag vd cls i h v : Nat) (rest : List (Nat × Nat × Nat)),
    let c := s.core site
    s.works site = true → c.tag = some tag → tabGet? s.holders (siteRegion site) = some vd → c.run = .idle → c.halt = none →
    (s.clusterLaunch vd (sitePkgCluster site)).isSome = true → s.allEntries vd = (cls, i, h) :: rest →
    s.objLoad (Agent.device site vd) (handleRec h) 16 = .ok s1 v → handleLive h (v % 2 ^ 64) = true →
    recLix (v % 2 ^ 64) = tag → s1.hintAdmits (v / 2 ^ 64) site = true → s1.dispatchThread site vd h = .running s2 →
    exec (.dispatch site) s = .next (s2.qTake vd cls i)

/-- self answers its numbers, and an idle core dispatches the first thread that it may take. (R127, R140, R182, R184, R186, R187, R194) -/
def Obligations.ThreadsDispatched : Prop :=
  claimThreadNumbers ∧ claimDispatchRegisters ∧ claimDispatchTakesTheFirst

/-- The machine after an instruction on barrier channel k that left the channel as x, with the token of phase p in gD
(08 R196). -/
def Sys2Proof.Machine.State.tokened (t : State) (site : Nat) (d : GOp) (k : Nat) (x : Channel) (p : Nat) : State :=
  (((t.putChan k x).afterChange k).result site d (tokenOf k p)).ended site 12

/-- The number of phase one after p. -/
def Sys2Proof.Machine.phaseAfter (p : Nat) : Nat := (p + 1) % 2 ^ 48

/-- join and leave with gD in bounds, on a channel that the checks let through: a join of a core that is neither member nor joining enters the members of an idle channel, which forms when they are enough for its threshold, and the pending joins of any other; a leave drops a pending join, with its arrival but not that arrival's bytes (log 97), takes a member of an idle channel out, and otherwise is recorded (once), as the arrival too where there was none; gD has the token of the phase from which it takes effect; a broken channel is treated as an active one (log 71); any other join or leave, or a failed check, traps and changes no channel. (R195, R196, R197, R198) -/
def Sys2Proof.Machine.claimBarrierMembership : Prop :=
  ∀ (s : State) (d : GOp) (n : BitVec 6),
    let c := s.core s.cur
    let t := s.begun
    let k := chanAt s.cur n
    let x := t.chan k
    let bad : Exc := ⟨cBARRIER_MEMBERSHIP, BitVec.ofNat 64 (chanNumber k)⟩
    c.Clear { uses := [wr .D d] } →
    (∀ e, t.chanCheck s.cur k false = some e →
      exec (.join d n) s = .next (t.trapped s s.cur e) ∧ exec (.leave d n) s = .next (t.trapped s s.cur e)) ∧
    (t.chanCheck s.cur k false = none →
      (s.cur ∈ x.members ∨ s.cur ∈ x.joins → exec (.join d n) s = .next (t.trapped s s.cur bad)) ∧
      (s.cur ∉ x.members → s.cur ∉ x.joins →
        (x.st = .idle → exec (.join d n) s = .next (t.tokened s.cur d k
          { x with members := x.members ++ [s.cur], st := if x.thr ≤ x.members.length + 1 then .active else .idle } x.phase)) ∧
        (x.st ≠ .idle → exec (.join d n) s = .next (t.tokened s.cur d k { x with joins := x.joins ++ [s.cur] } (phaseAfter x.phase))) ∧
        exec (.leave d n) s = .next (t.trapped s s.cur bad)) ∧
      (s.cur ∈ x.joins → exec (.leave d n) s = .next (t.tokened s.cur d k
        { x with joins := x.joins.filter (· != s.cur), arr1 := x.arr1.filter (· != s.cur) } (phaseAfter x.phase))) ∧
      (s.cur ∉ x.joins → s.cur ∈ x.members →
        (x.st = .idle → exec (.leave d n) s = .next (t.tokened s.cur d k
          { x with members := x.members.filter (· != s.cur) } x.phase)) ∧
        (x.st ≠ .idle → exec (.leave d n) s = .next (t.tokened s.cur d k
          { x with leaves := if s.cur ∈ x.leaves then x.leaves else x.leaves ++ [s.cur], arr0 := if s.cur ∈ x.arr0 then x.arr0 else x.arr0 ++ [s.cur] }
          (phaseAfter x.phase)))))

/-- arrive, and arriveb of b bytes at most 2^27 - 1, on a sound channel that the checks let through: a member that has not arrived in phase P arrives in it with its bytes counted, one that has (or whose join is pending) arrives in P + 1, and gD has the token of that phase; a core that has arrived in both waits in place; more bytes than the counter takes trap with BARRIER_VALUE; on a broken channel it traps with BARRIER_BROKEN. (The order of these causes is log 40.) (R199, R200, R201) -/
def Sys2Proof.Machine.claimBarrierArrival : Prop :=
  ∀ (i : Instr) (s : State) (d a : GOp) (n : BitVec 6) (v : DWord) (us : List Use),
    let c := s.core s.cur
    let t := s.begun
    let k := chanAt s.cur n
    let x := t.chan k
    let e := BitVec.ofNat 64 (chanNumber k)
    (i = .arrive d n ∧ v = 0 ∧ us = [wr .D d]) ∨ (i = .arriveb d a n ∧ v = c.rg .A a ∧ us = [rd .A a, wr .D d]) →
    c.Clear { uses := us } →
    (2 ^ 27 ≤ v.toNat → exec i s = .next (t.trapped s s.cur ⟨cBARRIER_VALUE, v⟩)) ∧
    (v.toNat < 2 ^ 27 → t.chanCheck s.cur k false = none →
      (x.st = .broken → exec i s = .next (t.trapped s s.cur ⟨cBARRIER_BROKEN, e⟩)) ∧
      (x.st ≠ .broken →
        (s.cur ∈ x.members → s.cur ∉ x.arr0 →
          (x.cnt0 + v.toNat < 2 ^ 27 → exec i s = .next (t.tokened s.cur d k
            { x with arr0 := x.arr0 ++ [s.cur], cnt0 := x.cnt0 + v.toNat } x.phase)) ∧
          (2 ^ 27 ≤ x.cnt0 + v.toNat → exec i s = .next (t.trapped s s.cur ⟨cBARRIER_VALUE, v⟩))) ∧
        ((s.cur ∈ x.members ∧ s.cur ∈ x.arr0) ∨ (s.cur ∉ x.members ∧ s.cur ∈ x.joins) → s.cur ∉ x.arr1 →
          (x.cnt1 + v.toNat < 2 ^ 27 → exec i s = .next (t.tokened s.cur d k
            { x with arr1 := x.arr1 ++ [s.cur], cnt1 := x.cnt1 + v.toNat } (phaseAfter x.phase))) ∧
          (2 ^ 27 ≤ x.cnt1 + v.toNat → exec i s = .next (t.trapped s s.cur ⟨cBARRIER_VALUE, v⟩))) ∧
        ((s.cur ∈ x.members ∧ s.cur ∈ x.arr0) ∨ (s.cur ∉ x.members ∧ s.cur ∈ x.joins) → s.cur ∈ x.arr1 →
          exec i s = .next (t.held_ s s.cur (.arrive k))) ∧
        (s.cur ∉ x.members → s.cur ∉ x.joins →
          exec i s = .next (t.trapped s s.cur ⟨cBARRIER_MEMBERSHIP, e⟩))))

/-- When the last member of an active channel of no gang arrives with no bytes, the counter at 0, no join or leave pending and some member yet to arrive in the next phase, phase P completes: the channel is in phase P + 1 with the arrivals and the counter recorded for it, a release of P sets out, gD has the token of P, and no core but the one that arrived changes. (R199, R201) -/
def Sys2Proof.Machine.claimPhaseCompletes : Prop :=
  ∀ (s : State) (d : GOp) (n : BitVec 6),
    let c := s.core s.cur
    let k := chanAt s.cur n
    let x := s.chan k
    c.Clear { uses := [wr .D d] } → s.begun.chanCheck s.cur k false = none → s.seamGang k = none → x.st = .active →
    x.cnt0 = 0 → x.joins = [] → x.leaves = [] → s.cur ∈ x.members → s.cur ∉ x.arr0 →
    (∀ m ∈ x.members, m = s.cur ∨ m ∈ x.arr0) → (∃ m ∈ x.members, m ∉ x.arr1) →
    ∃ t, exec (.arrive d n) s = .next t ∧
      t.chan k = { x with arr0 := x.arr1, arr1 := [], cnt0 := x.cnt1, cnt1 := 0, phase := phaseAfter x.phase } ∧
      t.releases = s.releases ++ [⟨k, x.phase, []⟩] ∧
      t.core s.cur = ((s.begun.result s.cur d (tokenOf k x.phase)).ended s.cur 12).core s.cur ∧ (∀ m, m ≠ s.cur → t.core m = s.core m)

/-- wait with a token that the checks let through completes when its phase lies behind the phase last released to the core and otherwise waits in place; bpoll writes 1 or 0 for the same comparison; a token that they do not let through traps with its cause. (R195, R202) -/
def Sys2Proof.Machine.claimBarrierWaits : Prop :=
  ∀ (s : State) (d a : GOp),
    let c := s.core s.cur
    let t := s.begun
    let tok := c.rg .A a
    (c.Clear { uses := [rd .A a] } →
      (∀ e, t.tokenCheck s.cur tok false = .error e → exec (.waitT a) s = .next (t.trapped s s.cur e)) ∧
      (∀ k p, t.tokenCheck s.cur tok false = .ok (k, p) →
        (behind p (t.seenPhase k s.cur) = true → exec (.waitT a) s = .next (t.ended s.cur 12)) ∧
        (behind p (t.seenPhase k s.cur) = false → exec (.waitT a) s = .next (t.held_ s s.cur (.barrier k p))))) ∧
    (c.Clear { uses := [rd .A a, wr .D d] } →
      (∀ e, t.tokenCheck s.cur tok true = .error e → exec (.bpoll d a) s = .next (t.trapped s s.cur e)) ∧
      (∀ k p, t.tokenCheck s.cur tok true = .ok (k, p) → exec (.bpoll d a) s =
        .next ((t.result s.cur d (if behind p (t.seenPhase k s.cur) then 1 else 0)).ended s.cur 12)))

/-- The order of phases modulo 2^48: a phase lies behind one that comes at most 2^47 after it, the other way round only for exactly 2^47, and never behind itself; a token names its channel and its phase. (R196) -/
def Sys2Proof.Machine.claimTokenPhases : Prop :=
  ∀ (p n k : Nat), p < 2 ^ 48 → 1 ≤ n → n ≤ 2 ^ 47 → k < 136 →
    behind p p = false ∧ behind p ((p + n) % 2 ^ 48) = true ∧ (n < 2 ^ 47 → behind ((p + n) % 2 ^ 48) p = false) ∧
    (tokenOf k p).toNat % 64 = chanNumber k ∧ (tokenOf k p).toNat / 64 % 4 = chanDie k ∧ (tokenOf k p).toNat / 2 ^ 8 % 2 ^ 8 = 0 ∧
    (tokenOf k p).toNat / 2 ^ 16 = p ∧ chanKey (chanDie k) (chanNumber k) = k

/-- btx on a channel that the checks let through, with a value in range, answers the old threshold: on a sound channel it sets the threshold, at which an idle channel forms, and its phase completes at once if every member has arrived; on a broken one the channel is idle and empty in the next phase with both counters zero, and the releases of phases that had completed stay on their way; a value out of range traps with BARRIER_VALUE. (R198, R203) -/
def Sys2Proof.Machine.claimBarrierThreshold : Prop :=
  ∀ (s : State) (d a : GOp) (n : BitVec 6),
    let c := s.core s.cur
    let t := s.begun
    let k := chanAt s.cur n
    let x := t.chan k
    let v := c.rg .A a
    let limit := if k < 128 then 1024 else 4096
    c.Clear { uses := [rd .A a, wr .D d] } → t.chanCheck s.cur k false = none →
    (limit < v.toNat → exec (.btx d a n) s = .next (t.trapped s s.cur ⟨cBARRIER_VALUE, v⟩)) ∧
    (v.toNat ≤ limit → x.st ≠ .broken → exec (.btx d a n) s = .next ((((t.putChan k
      { x with thr := v.toNat, st := if x.st = .idle ∧ x.members ≠ [] ∧ v.toNat ≤ x.members.length then .active else x.st }).afterChange
        k).result s.cur d (BitVec.ofNat 64 x.thr)).ended s.cur 12)) ∧
    (v.toNat ≤ limit → x.st = .broken → ∃ u, exec (.btx d a n) s = .next u ∧
      u.chan k = ⟨[], [], [], [], [], phaseAfter x.phase, 0, 0, v.toNat, .idle⟩ ∧ u.releases = s.releases)

/-- join, leave, arrive, arriveb and btx change a channel's members, arrivals and threshold. (R195, R196, R197, R198, R199, R200, R201, R203) -/
def Obligations.BarrierMembers : Prop :=
  claimBarrierMembership ∧ claimBarrierArrival ∧ claimBarrierThreshold

/-- The event that brings a channel's oldest release on its way to a core of its die, or of any die for a package channel, records that it has reached it while it still has other cores to reach, pulses the core's crossbar, and ends a wait whose phase then lies behind the phase last released to the core, which goes on after the instruction. (R199, R202) -/
def Sys2Proof.Machine.claimReleaseEndsWaits : Prop :=
  ∀ (s : State) (k site p : Nat) (r : Release),
    s.works site = true → s.seamGang k = none → (128 ≤ k ∨ k / 32 = siteDie site) → s.comingRelease k site = some r →
    (s.core site).run = .running → (s.core site).wait = .barrier k p →
    ∃ s2 : State, s2.chans = s.chans ∧ s2.core site = (s.core site).pulse 6 (chanNumber k) ∧
      (∀ m, m ≠ site → s2.core m = s.core m) ∧ r ∉ s2.releases ∧
      (∀ x ∈ s2.releases, x ∈ s.releases ∨ x = { r with reached := r.reached ++ [site] }) ∧
      ((∃ m ∈ s.reachSites k, m ∉ r.reached ∧ m ≠ site) → { r with reached := r.reached ++ [site] } ∈ s2.releases) ∧
      (behind p (s2.seenPhase k site) = true → exec (.barrierRelease k site) s = .next ((s2.begunAt site).ended site 12)) ∧
      (behind p (s2.seenPhase k site) = false → exec (.barrierRelease k site) s = .next s2)

/-- A barrier phase completes when its counts do, and waits and polls end with it. (R195, R196, R199, R201, R202) -/
def Obligations.BarrierPhases : Prop :=
  claimPhaseCompletes ∧ claimTokenPhases ∧ claimBarrierWaits ∧ claimReleaseEndsWaits

/-- chinit outside a compute phase and a protected gang, at an address aligned to 128 bytes at which both halves may be written, completes with both handles, k and thirteen zero words stored from the address up. (R207, R208) -/
def Sys2Proof.Machine.claimChannelInitialised : Prop :=
  ∀ (s s2 s3 u : State) (a b x : GOp) (k : BitVec 4) (n2 n3 n : Nat),
    let c := s.core s.cur
    let g := s.begun.agent s.cur
    let va := (c.rg .A a).toNat
    c.Clear { uses := [rd .A a, rd .B b, rd .C x] } → mayReach c → va % 128 = 0 →
    s.begun.objCheck (g.access va 64 (.store 0) [rW]) = .ok s2 n2 →
    s2.objCheck (g.access (va + 64) 64 (.store 0) [rW]) = .ok s3 n3 →
    s3.objStores g va [(c.rg .B b).toNat, (c.rg .C x).toNat, k.toNat, 0, 0, 0, 0, 0, 0, 0, 0, 0, 0, 0, 0, 0] = .ok u n →
    exec (.chinit a b x k) s = .next (u.ended s.cur 12)

/-- The operands of a channel operation in order, its channel read and held: outside a compute phase and a protected gang, with an
aligned address at which no deadlock is marked, the first sector of the object held with contents x in u (08 R211). -/
structure Sys2Proof.Machine.Opened (t u : State) (site va : Nat) (x : Chan) : Prop where
  reach : mayReach (t.core site)
  aligned : va % 128 = 0
  unmarked : t.markedAt site va = false
  held : ∃ v, t.objHold (t.agent site) va 64 = .ok u v ∧ x = Chan.ofWord v

/-- The thread named at +40, whose record is held before the first write of an operation (08 R212). -/
def Sys2Proof.Machine.Chan.named (x : Chan) : List Nat := if x.blocked = 0 then [] else [x.blocked]

/-- chsend of 64 bytes of sound, aligned, readable local memory on an opened channel whose producer is 0 or the thread: to a dead consumer it writes 1 to gD and stores nothing; to a ring with room it stores the message to slot tail mod 2^k, then tail + 1 modulo 2^32, wakes the thread named at +40, and writes 0 to gD; by any other thread it traps with CHAN_PORT. (R207, R209, R211) -/
def Sys2Proof.Machine.claimSendResult : Prop :=
  ∀ (s s1 s2 s3 s4 s5 s6 u : State) (d a b : GOp) (x : Chan) (dead : Bool) (n3 n4 n5 n6 n7 : Nat),
    let c := s.core s.cur
    let t := s.begun
    let va := (c.rg .A a).toNat
    let from_ := (c.rg .B b).toInt
    let slot := va + 128 + 64 * (x.tail % 2 ^ x.k)
    c.Clear { uses := [rd .A a, rd .B b, wr .D d] } → inBounds c from_ 64 →
    (∀ w ∈ wordsFrom from_.toNat 64, tabGet? c.flips w = none) → c.localBusy from_ 64 = false →
    Opened t s1 s.cur va x →
    (x.producer ≠ 0 ∧ x.producer ≠ c.sp.thr.toNat →
      exec (.chsend d a b) s = .next (s1.trapped s s.cur ⟨cCHAN_PORT, c.rg .A a⟩)) ∧
    (x.producer = 0 ∨ x.producer = c.sp.thr.toNat → s1.deadHandle s.cur x.consumer = .ok s2 dead →
      (dead = true → exec (.chsend d a b) s = .next ((s2.result s.cur d 1).ended s.cur 12)) ∧
      (dead = false → x.count ≠ 2 ^ x.k →
        let g := s2.agent s.cur
        s2.acc { g.access slot 64 .load [rW] with hold := true } = .ok s3 n3 →
        s3.holdRecords s.cur c.vdev x.named = .ok s4 n4 →
        s4.objStore g slot 64 (memRead c.loc from_.toNat 64) = .ok s5 n5 →
        s5.objStore g (va + 32) 4 ((x.tail + 1) % 2 ^ 32) = .ok s6 n6 → s6.wakeNamed g va x = .ok u n7 →
        exec (.chsend d a b) s = .next ((u.result s.cur d 0).ended s.cur 12)))

/-- chrecv into 64 aligned writable local bytes on an opened channel whose consumer is 0 or the thread: from a ring with a message it reads slot head mod 2^k, stores head + 1 modulo 2^32, writes the message to local memory, wakes the thread named at +40, and writes 0 to gD; from an empty ring of a dead producer it traps with CHAN_DEAD; by any other thread it traps with CHAN_PORT. chpoll on an opened channel writes the number of messages, and bit 63 when the peer is dead. (R207, R210, R211) -/
def Sys2Proof.Machine.claimReceiveResult : Prop :=
  ∀ (s s1 s2 s3 s4 u : State) (d a b : GOp) (x : Chan) (msg n3 n4 n5 : Nat) (dead : Bool),
    let c := s.core s.cur
    let t := s.begun
    let va := (c.rg .A a).toNat
    let into := (c.rg .B b).toInt
    (c.Clear { uses := [rd .A a, rd .B b, wr .D d] } → inBounds c into 64 → c.localBusy into 64 = false → Opened t s1 s.cur va x →
      (x.consumer ≠ 0 ∧ x.consumer ≠ c.sp.thr.toNat →
        exec (.chrecv d a b) s = .next (s1.trapped s s.cur ⟨cCHAN_PORT, c.rg .A a⟩)) ∧
      (x.consumer = 0 ∨ x.consumer = c.sp.thr.toNat →
        (x.count = 0 → s1.deadHandle s.cur x.producer = .ok s2 true →
          exec (.chrecv d a b) s = .next (s2.trapped s s.cur ⟨cCHAN_DEAD, c.rg .A a⟩)) ∧
        (x.count ≠ 0 →
          let g := s1.agent s.cur
          s1.objLoad g (va + 128 + 64 * (x.head % 2 ^ x.k)) 64 = .ok s2 msg →
          s2.holdRecords s.cur c.vdev x.named = .ok s3 n3 →
          s3.objStore g (va + 24) 4 ((x.head + 1) % 2 ^ 32) = .ok s4 n4 →
          (s4.onCore s.cur (fun k => k.pokeLocal into.toNat 64 msg)).wakeNamed g va x = .ok u n5 →
          exec (.chrecv d a b) s = .next ((u.result s.cur d 0).ended s.cur 12)))) ∧
    (c.Clear { uses := [rd .A a, wr .D d] } → mayReach c → va % 128 = 0 →
      ∀ v, t.objHold (t.agent s.cur) va 64 = .ok s1 v →
      let y := Chan.ofWord v
      let peer := if y.producer ≠ 0 ∧ y.producer = (s1.core s.cur).sp.thr.toNat then y.consumer else y.producer
      s1.deadHandle s.cur peer = .ok s2 dead →
      exec (.chpoll d a) s =
        .next ((s2.result s.cur d (BitVec.ofNat 64 (y.count + if dead then 2 ^ 63 else 0))).ended s.cur 12))

/-- A thread of handle h that receives from an empty ring of a live producer, or waits on a signal above zero, when its core may not suspend, waits in place and stands among the waiters of the object, a receiver named at +40; it sends a probe to the producer. (R181, R212, R213, R216) -/
def Sys2Proof.Machine.claimBlockingRecordsTheWaiter : Prop :=
  ∀ (s s1 s2 s3 s4 : State) (d a b : GOp) (x : Chan) (n3 n4 v : Nat),
    let c := s.core s.cur
    let t := s.begun
    let va := (c.rg .A a).toNat
    let h := c.sp.thr.toNat
    let quiet := c.shadows.isEmpty
    c.sp.thr ≠ 0 →
    (c.Clear { uses := [rd .A a, rd .B b, wr .D d] } → inBounds c (c.rg .B b).toInt 64 → c.localBusy (c.rg .B b).toInt 64 = false →
      Opened t s1 s.cur va x → (x.consumer = 0 ∨ x.consumer = h) → x.count = 0 → x.blocked = 0 →
      s1.deadHandle s.cur x.producer = .ok s2 false → (s2.core s.cur).sp.thr = c.sp.thr →
      s2.objCheck ((s2.agent s.cur).access (va + 40) 8 (.store 0) [rW]) = .ok s3 n3 →
      s3.objStore (s2.agent s.cur) (va + 40) 8 h = .ok s4 n4 → (s4.core s.cur).sp.thr = c.sp.thr →
      s4.waitsAt s.cur va = false → s4.maySuspend s.cur quiet = false →
      exec (.chrecv d a b) s = .next ((s4.addWaiter s.cur va 2 x.producer true).held_ s s.cur (.object va))) ∧
    (c.Clear { uses := [rd .A a, wr .D d] } → c.computePhase = false → va % 64 = 0 →
      t.objLoad (t.agent s.cur) va 8 = .ok s1 v → 0 < (BitVec.ofNat 64 v).toInt → (s1.core s.cur).sp.thr = c.sp.thr →
      s1.waitsAt s.cur va = false → s1.maySuspend s.cur quiet = false →
      exec (.sigwait d a) s = .next ((s1.addWaiter s.cur va 3 0 true).held_ s s.cur (.object va)))

/-- Channels are initialised, sent to and received from in order, and record who blocks. (R181, R207, R208, R209, R210, R211, R212, R213, R216) -/
def Obligations.Channels : Prop :=
  claimChannelInitialised ∧ claimSendResult ∧ claimReceiveResult ∧ claimBlockingRecordsTheWaiter

/-- sigwait outside a compute phase, on an aligned signal whose counter reads zero or below as a signed number, writes it to gD; sigdec outside a compute phase and a protected gang, on an aligned signal, whose accesses perform, stores and writes to gD the counter less the operand modulo 2^64; a decrement that neither fires nor reaches zero or below, with no wake held back, wakes nobody and writes the counter alone. (R214, R215, R216) -/
def Sys2Proof.Machine.claimSignalResult : Prop :=
  ∀ (s s1 s2 s3 s4 u : State) (d a b : GOp) (v old flags n : Nat) (x : DWord),
    let c := s.core s.cur
    let t := s.begun
    let g := t.agent s.cur
    let va := (c.rg .A a).toNat
    (c.Clear { uses := [rd .A a, wr .D d] } → c.computePhase = false → va % 64 = 0 → t.objLoad g va 8 = .ok s1 v →
      (BitVec.ofNat 64 v).toInt ≤ 0 →
      exec (.sigwait d a) s = .next ((s1.result s.cur d (BitVec.ofNat 64 v)).ended s.cur 12)) ∧
    (c.Clear { uses := [rd .A a, rd .B b, wr .D d] } → mayReach c →
      (t.sigdec g va (c.rg .B b) = .ok u x → exec (.sigdec d a b) s = .next ((u.result s.cur d x).ended s.cur 12)) ∧
      (va % 64 = 0 → t.acc { g.access va 8 .load [rA] with hold := true } = .ok s2 old →
        s2.acc (g.access (va + 8) 8 .load [rA]) = .ok s3 flags →
        let new := BitVec.ofNat 64 old - c.rg .B b
        0 < new.toInt → s3.heldBackOn va 3 = [] → s3.acc (g.access va 8 (.store new.toNat) [rA]) = .ok s4 n →
        exec (.sigdec d a b) s = .next ((s4.result s.cur d new).ended s.cur 12)))

/-- When a decrement of a signal from a counter that is not zero ends at zero without an on-zero spawn, the counter is stored as zero and FIRED is set in its flags: with nobody waiting, that is all; a thread that waits in place on the signal waits no more, and is no waiter; a thread that suspended on it, whose record can be read, is live and of state 3, with its queue not full, joins its queue, its record queued, and is no waiter (one marked for DEADLOCK keeps its mark). (R212, R215) -/
def Sys2Proof.Machine.claimSignalFires : Prop :=
  ∀ (s s2 s3 s4 s5 s6 s7 : State) (g : Agent) (va old flags h v n4 n5 n6 n7 : Nat) (w : Waiter) (amount : DWord),
    va % 64 = 0 → s.acc { g.access va 8 .load [rA] with hold := true } = .ok s2 old →
    s2.acc (g.access (va + 8) 8 .load [rA]) = .ok s3 flags → old % 2 ^ 64 ≠ 0 → BitVec.ofNat 64 old = amount →
    flags.testBit 0 = false →
    (s3.waitersOn va 3 = [] → s3.acc (g.access va 8 (.store 0) [rA]) = .ok s4 n4 →
      s4.acc (g.access (va + 8) 8 (.store (flags ||| 2)) [rA]) = .ok s5 n5 →
      s.sigdec g va amount = .ok s5 0) ∧
    (∀ site, s3.waitersOn va 3 = [h] → s3.waiterOf h = some w → w.site = some site →
      s3.acc (g.access va 8 (.store 0) [rA]) = .ok s4 n4 →
      s4.acc (g.access (va + 8) 8 (.store (flags ||| 2)) [rA]) = .ok s5 n5 →
      s5.waiterOf h = some { w with object := va } →
      ∃ u, s.sigdec g va amount = .ok u 0 ∧ ((s5.core site).wait = .object va → (u.core site).wait = .none) ∧
        ∀ y ∈ u.waiters, y.handle = h → y.marked = true) ∧
    (s3.waitersOn va 3 = [h] → s3.waiterOf h = some w → w.site = none →
      s3.objHold (Agent.device g.site g.vd) (handleRec h) 16 = .ok s4 n4 →
      s4.acc (g.access va 8 (.store 0) [rA]) = .ok s5 n5 →
      s5.acc (g.access (va + 8) 8 (.store (flags ||| 2)) [rA]) = .ok s6 n6 →
      s6.waiterOf h = some w → s6.objHold (Agent.device g.site w.vd) (handleRec h) 16 = .ok s7 v →
      handleLive h (v % 2 ^ 64) = true → recState (v % 2 ^ 64) = 3 →
      let cls := contPri (v / 2 ^ 64) % 4
      s7.qFull w.vd cls = false →
      ∀ s8, s7.objStore (Agent.device g.site w.vd) (handleRec h) 8 (recWith (v % 2 ^ 64) 1) = .ok s8 n7 →
      s.sigdec g va amount = .ok ((s8.qPush w.vd cls h).unwait h) 0)

/-- A probe at a thread that is blocked on a channel, other than the one where it began, goes to the other end of that channel and keeps the lowest handle that it has passed; at a thread that is not blocked it is discarded. (R213) -/
def Sys2Proof.Machine.claimProbeMoves : Prop :=
  ∀ (s : State) (i : Nat) (p : Probe), tabGet? s.probes i = some p → p.at_ ≠ p.origin →
    (s.waiterOf p.at_ = none → exec (.deadlockProbe i) s = .next { s with probes := tabDel s.probes i }) ∧
    (∀ w, s.waiterOf p.at_ = some w → w.kind ≠ 3 → w.other ≠ 0 → w.marked = false →
      exec (.deadlockProbe i) s = .next { s with probes := tabSet s.probes i ⟨p.origin, w.other, min p.lowest p.at_⟩ })

/-- Signals fire at 0, wake their waiters, and deadlock probes follow the blocked. (R212, R213, R214, R215, R216) -/
def Obligations.Signals : Prop :=
  claimSignalResult ∧ claimSignalFires ∧ claimProbeMoves

/-- seam in a delay slot traps with DS_CONTROL, and in the exchange phase or outside a gang with SEAM_STATE and 0; a record that remains of the exchange is reported; else, with a count at most 2^27 - 1 that the counter takes, on a sound channel at which the core has yet to arrive, it arrives with its bytes counted and its time since the last release noted, the phase settles if it is complete, and the core waits for the release with its destination. (R201, R223, R224, R232) -/
def Sys2Proof.Machine.claimSeamArrives : Prop :=
  ∀ (s : State) (d a : GOp) (id : Nat) (g : Gang),
    let c := s.core s.cur
    let t := s.begun
    let v := c.rg .A a
    let x := t.chan g.chan
    (c.ds ≠ .none → exec (.seam d a) s = .next (s.trapAt s.cur c ⟨cDS_CONTROL, 0⟩)) ∧
    (c.Clear { ctl := true, uses := [rd .A a, wr .D d] } → (∀ d k p, c.wait ≠ .seam d k p) →
    (¬ (c.sp.psw.getLsbD 4 = true ∧ c.sp.psw.getLsbD 5 = false) →
      exec (.seam d a) s = .next (t.trapped s s.cur ⟨cSEAM_STATE, 0⟩)) ∧
    (c.sp.psw.getLsbD 4 = true → c.sp.psw.getLsbD 5 = false →
      (∀ c1 e, c.tickShadows.exchReport = some (c1, e) → exec (.seam d a) s = .next ((t.putCore s.cur c1).trapped s s.cur e)) ∧
      (c.tickShadows.exchReport = none →
        (2 ^ 27 ≤ v.toNat → exec (.seam d a) s = .next (t.trapped s s.cur ⟨cBARRIER_VALUE, v⟩)) ∧
        (t.gangOf s.cur = some (id, g) → x.st ≠ .broken → s.cur ∈ x.members → s.cur ∉ x.arr0 → v.toNat < 2 ^ 27 →
          x.cnt0 + v.toNat < 2 ^ 27 →
          let g1 : Gang := { g with arrivals := g.arrivals ++ [(s.cur, s.time - g.release)] }
          let t1 : State :=
            { t.putChan g.chan { x with arr0 := x.arr0 ++ [s.cur], cnt0 := x.cnt0 + v.toNat } with gangs := tabSet t.gangs id g1 }
          exec (.seam d a) s = .next ((t1.seamSettle id g1).held_ s s.cur (.seam d g.chan x.phase))))))

/-- When a released phase of a gang's channel has reached none of the gang's cores on a die, all of them members that wait at seam for it, and the next phase is not complete, the release reaches every one: its superstep number goes up by one, XPH is set, its exchange cycle count starts from its island's cycle, its counts of ordered operations and of arms and its declared regions are cleared, and its seam completes: gD holds the new number, and it waits no more. The release of a last seam reaches every core in end: it has left the channel; and one alone on its die, with no handle, bound to no other channel and with nothing unperformed, is idle. (R220, R224, R230) -/
def Sys2Proof.Machine.claimSeamReleases : Prop :=
  ∀ (s : State) (site id : Nat) (g : Gang) (r : Release),
    let mine := g.cores.filter (fun t => siteDie t == siteDie site)
    s.works site = true → s.gangOf site = some (id, g) → (s.chan g.chan).full = false → mine.Nodup →
    (128 ≤ g.chan ∨ g.chan / 32 = siteDie site) →
    s.releases.find? (fun r => r.chan == g.chan && !r.reached.contains site) = some r →
    (∀ x ∈ mine, s.works x = true ∧ x ∉ r.reached ∧ (s.core x).loc.wf = true ∧ (s.core x).run = .running) →
    ((∀ x ∈ mine, ∃ d, (s.core x).wait = .seam d g.chan r.phase) →
      ∃ t, exec (.seamComplete site) s = .next t ∧
        ∀ x ∈ mine, ∀ d, (s.core x).wait = .seam d g.chan r.phase →
          let c := t.core x
          let w := ((s.core x).gIx .D d).toNat
          c.sp.ss = (s.core x).sp.ss + 1 ∧ c.sp.psw = (s.core x).sp.psw ||| 0x20 ∧ c.xbase = s.cycOf x ∧ c.ordCount = 0 ∧
          c.reads = [] ∧ c.writes = [] ∧ c.exch.sent = [] ∧ c.exch.armed = 0 ∧ c.wait = .none ∧
          (w ≠ 0 → c.ws w = (s.core x).sp.ss + 1) ∧ c.pc = (Core.advance 12 (s.core x)).pc) ∧
    ((∀ x ∈ mine, (s.core x).wait = .final g.chan r.phase ∧ x ∉ (s.chan g.chan).joins) →
      ∃ t, exec (.seamComplete site) s = .next t ∧ (∀ x ∈ mine, (t.chan g.chan).left x = true) ∧
        (mine = [site] → (s.core site).sp.thr = 0 → (∀ k ∈ s.boundChans site, k = g.chan) → s.drained site = true →
          (t.core site).run = .idle))

/-- A gang's seam gathers the arrivals of all its cores and releases them together, and its last seam ends them. (R201, R220, R223, R224, R230, R232) -/
def Obligations.Seams : Prop :=
  claimSeamArrives ∧ claimSeamReleases

/-- The exchange phase of a core (09 R223): the gang, and XPH. -/
def Sys2Proof.Machine.exchanging (c : Core) : Prop := c.sp.psw.getLsbD 4 = true ∧ c.sp.psw.getLsbD 5 = true

/-- In the exchange phase: xsend of sound aligned readable local bytes to a core of its gang and die, at a cycle not yet passed and not used, injects them at that cycle with the rank, the cycle and an arrival 4 + 2h cycles later (a message to another region is dropped, log 74), and before that cycle waits, as the event of its injection ends once nothing of the exchange is due before (log 43); xrecv of such a source into aligned writable bytes, with no arm for the pair and fewer than 16 xrecv before it in the phase, adds the arm; xwait at or after its cycle completes; xend without an arm to fill, a message on its way or a record clears the arms and XPH. In any other phase each traps with SEAM_STATE and 0, and xend in a delay slot with DS_CONTROL. (R223, R225, R226, R227, R228, R229) -/
def Sys2Proof.Machine.claimExchangeInstructions : Prop :=
  ∀ (i : Instr) (s : State) (a b : GOp) (cyc : BitVec 16) (ln : BitVec 3) (dst site : Nat),
    let c := s.core s.cur
    let t := s.begun
    let len := 8 * (ln.toNat + 1)
    let lcl (x : DWord) : Prop := ∀ k < ln.toNat + 1, inBounds c (x.toInt + 8 * k) 8
    (¬ exchanging c → (∀ n r f l, c.wait ≠ .xsend n r f l) →
      (i = .xsend a b cyc ln ∧ c.Clear { uses := [rd .A a, rd .B b] }) ∨ (i = .xrecv a b cyc ln ∧ c.Clear { uses := [rd .A a, rd .B b] }) ∨
        i = .xwait cyc ∨ (i = .xend ∧ c.ds = .none) →
      exec i s = .next (t.trapped s s.cur ⟨cSEAM_STATE, 0⟩)) ∧
    (c.ds ≠ .none → exec .xend s = .next (s.trapAt s.cur c ⟨cDS_CONTROL, 0⟩)) ∧
    (exchanging c → c.Clear { uses := [rd .A a, rd .B b] } → (∀ n r f l, c.wait ≠ .xsend n r f l) →
      t.rankSite s.cur (c.rg .A a) = some dst → lcl (c.rg .B b) →
      (∀ k < ln.toNat + 1, tabGet? c.flips ((c.rg .B b).toNat / 8 + k) = none) → cyc.toNat ∉ c.exch.sent →
      (t.xcyc s.cur < cyc.toNat → exec (.xsend a b cyc ln) s =
        .next (t.held_ s s.cur (.xsend cyc.toNat (c.rg .A a).toNat (c.rg .B b).toNat len))) ∧
      (t.xcyc s.cur = cyc.toNat →
        let m : XMsg :=
          { src := s.cur, dst := dst, rank := c.sp.gang.toNat % 2 ^ 12, cyc := cyc.toNat, data := memBytes c.loc (c.rg .B b).toNat len,
            due := c.xbase + cyc.toNat + 4 + 2 * hops s.cur dst }
        let u := (t.onCore s.cur (fun k => { k with exch := { k.exch with sent := k.exch.sent ++ [cyc.toNat] } })).bumpCyc s.cur
          (c.xbase + cyc.toNat)
        exec (.xsend a b cyc ln) s =
          .next ((if siteRegion dst = siteRegion s.cur then { u with xmsgs := tabSet u.xmsgs (tabFree u.xmsgs) m } else u).ended
            s.cur 12))) ∧
    (∀ n r f l u, (s.core site).run = .running → (s.core site).wait = .xsend n r f l →
      let at_ := (s.core site).xbase + n
      (s.sendBefore site at_ = false → s.dueBefore site at_ = false →
        (s.begunAt site).inject site n r f l = .done u → exec (.xsendInject site) s = .next (u.ended site 12)) ∧
      (s.sendBefore site at_ = true ∨ s.dueBefore site at_ = true →
        exec (.xsendInject site) s = .next ((s.begunAt site).held_ s site (.xsend n r f l)))) ∧
    (exchanging c → c.Clear { uses := [rd .A a, rd .B b] } → t.rankSite s.cur (c.rg .B b) = some dst → lcl (c.rg .A a) →
      t.xcyc s.cur ≤ cyc.toNat → (∀ x ∈ c.exch.arms, ¬ (x.src = (c.rg .B b).toNat ∧ x.cyc = cyc.toNat)) → c.exch.armed < 16 →
      exec (.xrecv a b cyc ln) s = .next ((t.onCore s.cur (fun k => { k with exch := { k.exch with
        arms := k.exch.arms ++ [⟨(c.rg .B b).toNat, cyc.toNat, len, (c.rg .A a).toNat, false, false⟩], armed := k.exch.armed + 1 } })).ended s.cur 12)) ∧
    (exchanging c → cyc.toNat ≤ t.xcyc s.cur → exec (.xwait cyc) s = .next (t.ended s.cur 12)) ∧
    (exchanging c → t.xcyc s.cur < cyc.toNat → exec (.xwait cyc) s = .next (t.held_ s s.cur (.xwait cyc.toNat))) ∧
    (exchanging c → c.ds = .none → (∀ p ∈ s.xmsgs, p.2.src ≠ s.cur) →
      c.exch.collide = [] → c.exch.unmatched = [] → (∀ x ∈ c.exch.arms, x.filled = true) →
      exec .xend s = .next ((t.onCore s.cur (fun k => { k with
        exch := { k.exch with arms := [] }, sp := { k.sp with psw := k.sp.psw &&& 0xFFFFFFFFFFFFFFDF } })).ended s.cur 12))

/-- A message that arrives with no earlier send or arrival to come (log 43): with another in its slot, both are dropped, and the destination, with the senders' ranks, and the senders record the collision; else it fills the arm of its source, cycle and length with its bytes, or is recorded as unmatched. An arm whose horizon passes unfilled with no message due before it has passed. A waiting xwait whose cycle no earlier send or arrival precedes ends there; a waiting xend ends once nothing is outstanding. (R225, R226, R227, R228, R229) -/
def Sys2Proof.Machine.claimExchangeEvents : Prop :=
  ∀ (s : State) (i : Nat) (m : XMsg) (site : Nat),
    let s0 := s.bumpCyc m.dst m.due
    let rivals := s0.xmsgs.filter (fun p => p.1 != i && p.2.dst == m.dst && p.2.cyc == m.cyc)
    let c := s0.core m.dst
    let fits (x : Arm) : Bool := x.src == m.rank && x.cyc == m.cyc && x.len == m.data.length && !x.filled && !x.passed
    (tabGet? s.xmsgs i = some m → s.sendBefore m.dst m.due = false → s.dueBefore m.dst m.due = false →
      (rivals ≠ [] → ∃ t, exec (.exchArrival i) s = .next t ∧ (∀ p ∈ t.xmsgs, ¬ (p.2.dst = m.dst ∧ p.2.cyc = m.cyc)) ∧
        (m.cyc, some m.rank) ∈ (t.core m.dst).exch.collide ∧ (m.cyc, none) ∈ (t.core m.src).exch.collide ∧
        ∀ p ∈ rivals, (m.cyc, some p.2.rank) ∈ (t.core m.dst).exch.collide ∧ (m.cyc, none) ∈ (t.core p.2.src).exch.collide) ∧
      (∀ x, rivals = [] → c.exch.arms.find? fits = some x → exec (.exchArrival i) s = .next
        { s0.putCore m.dst { c.pokeLocal x.dst x.len (bytesNum m.data) with
            exch := { c.exch with arms := c.exch.arms.map (fun y => if y = x then { y with filled := true } else y) } } with
          xmsgs := tabDel s0.xmsgs i }) ∧
      (rivals = [] → c.exch.arms.find? fits = none → exec (.exchArrival i) s = .next
        { s0.putCore m.dst { c with exch := { c.exch with unmatched := c.exch.unmatched ++ [m.cyc] } } with
          xmsgs := tabDel s0.xmsgs i })) ∧
    (∀ (j : Nat) (x : Arm), let n := (s.core site).xbase + x.cyc + 40
      s.works site = true → (s.core site).exch.arms[j]? = some x → x.filled = false → s.sendBefore site n = false →
      s.dueBefore site n = false → (∀ p ∈ s.xmsgs, p.2.dst = site → n < p.2.due) →
      exec (.exchHorizon site j) s = .next ((s.onCore site (fun k => { k with exch := { k.exch with
        arms := k.exch.arms.set j { x with passed := true } } })).bumpCyc site n)) ∧
    (∀ n, (s.core site).run = .running → (s.core site).wait = .xwait n → exchanging (s.core site) →
      s.sendBefore site ((s.core site).xbase + n) = false → s.dueBefore site ((s.core site).xbase + n) = false →
      exec (.xwaitComplete site) s =
        .next (((s.bumpCyc site ((s.core site).xbase + n)).begunAt site).ended site 12)) ∧
    ((s.core site).run = .running → (s.core site).wait = .xend → exchanging (s.core site) →
      (∀ x ∈ (s.core site).exch.arms, x.filled = true) → (∀ p ∈ s.xmsgs, p.2.src ≠ site) → (s.core site).exch.collide = [] →
      (s.core site).exch.unmatched = [] →
      exec (.xendComplete site) s = .next (((s.begunAt site).onCore site (fun k => { k with
        exch := { k.exch with arms := [] }, sp := { k.sp with psw := k.sp.psw &&& 0xFFFFFFFFFFFFFFDF } })).ended site 12))

/-- When a core of a protected gang has consumed an uncorrectable error in a superstep that has not failed before, no release is on its way to its cores, and every log entry can be read, the roll back discards the gang's ordered operations, records and messages and clears its counters, counts the failure, and every core that takes part has the special registers and the address of its last release, running, and its scratchpad with the granules of its undo log restored and every other byte as it was; dividers of islands change together where no gang, or only a gang that is withheld, wholly within them and waiting on every core, has a core in them. (R231, R235, R237) -/
def Sys2Proof.Machine.claimGangEvents : Prop :=
  ∀ (s : State) (id : Nat) (g : Gang) (islands : List Nat) (div : Nat),
    (tabGet? s.gangs id = some g → (∃ t ∈ g.cores, (s.core t).run = .consumed) → g.fails = 0 → g.cores.Nodup →
      (∀ t ∈ g.cores, t < 4096) → (∀ t ∈ g.cores, s.released t = false) → s.lostUndo id g = none →
      ∃ t, exec (.rollback id) s = .next t ∧
        tabGet? t.gangs id = some { g with fails := 1, rolled := true, arrivals := [], release := s.time } ∧
        (∀ p ∈ t.ords, ¬ (p.2.seam = true ∧ p.2.site ∈ g.cores)) ∧ (∀ p ∈ t.lands, p.2.site ∉ g.cores) ∧
        (∀ p ∈ t.xmsgs, p.2.src ∉ g.cores ∧ p.2.dst ∉ g.cores) ∧
        (t.chan g.chan).cnt0 = 0 ∧ (t.chan g.chan).cnt1 = 0 ∧ (t.chan g.chan).arr1 = [] ∧
        ∀ x ∈ g.cores, ∀ snap, tabGet? s.snaps (undoKey id x) = some snap → s.inSuperstep g x = true →
          let es := (tabGet s.undo (undoKey id x) ⟨0, []⟩).entries
          (t.core x).sp = snap.sp ∧ (t.core x).pc = snap.pc ∧ (t.core x).run = .running ∧ (t.core x).wrote = [] ∧
          ((s.core x).loc.wf = true → (es.map (fun e => e.gran)).Nodup →
            (∀ e ∈ es, memRead (t.core x).loc (64 * e.gran) 64 = e.data % 256 ^ 64) ∧
            ∀ a, (∀ e ∈ es, e.gran ≠ a / 64) → (t.core x).byte a = (s.core x).byte a)) ∧
    (div ≠ 0 → (∀ p ∈ s.gangs, (∀ t ∈ p.2.cores, siteIsland t ∉ islands) ∨
        (p.2.withheld = true ∧ s.gangWaits p.2 = true ∧ ∀ t ∈ p.2.cores, siteIsland t ∈ islands)) →
      exec (.dividerChange islands div) s =
        .next { s with dividers := islands.foldl (fun t i => if i < 24 then tabSet t i div else t) s.dividers })

/-- Exchange messages arrive at their cycles where they were armed, and a protected gang rolls back to its last release. (R223, R225, R226, R227, R228, R229, R231, R235, R237) -/
def Obligations.Exchange : Prop :=
  claimExchangeInstructions ∧ claimExchangeEvents ∧ claimGangEvents

/-- The keys of a table rise. -/
def Sys2Proof.Machine.rising {α : Type} (t : Table α) : Prop := (t.map (fun p => p.1)).Pairwise (· < ·)

/-- When the entries of an owner's table, at most 65,535 of them, stand in base order without overlap, a lookup of a granule finds an entry exactly when one covers it, and it is that one. (R265, R267) -/
def Sys2Proof.Machine.claimRightsSearch : Prop :=
  ∀ (s : State) (die o g : Nat),
    let d := s.directory die o
    (∀ i < d.count, (s.rangeAt o d i).lo < (s.rangeAt o d i).hi) →
    (∀ i j, i < j → j < d.count → (s.rangeAt o d i).hi ≤ (s.rangeAt o d j).lo) →
    (∀ e, s.lookupRights die o g = some e ↔ ∃ i < d.count, s.rangeAt o d i = e ∧ e.covers g = true) ∧
    (s.lookupRights die o g = none ↔ ∀ i < d.count, (s.rangeAt o d i).covers g = false)

/-- The pieces of an entry outside [b, l), which it overlaps, cover exactly the addresses that the entry covers and the range does not, keep its rights, grantor and generation, and none overlaps the range; an entry inserted into a table in base order leaves it in base order with every other entry kept. (R265, R279, R280) -/
def Sys2Proof.Machine.claimRangesTrimmedExactly : Prop :=
  (∀ (e : RangeEntry) (b l : Nat), b < l → l ≤ 2 ^ 64 → e.overlaps b l = true →
    (∀ g, (∃ x ∈ e.outside b l, x.covers g = true) ↔ (e.covers g = true ∧ ¬ (b ≤ g ∧ g < l))) ∧
    ∀ x ∈ e.outside b l, x.word = e.word ∧ x.qend = e.qend ∧ x.overlaps b l = false) ∧
  ∀ (e : RangeEntry) (t : List RangeEntry), t.Pairwise (fun x y => x.lo ≤ y.lo) →
    (insertRange e t).Pairwise (fun x y => x.lo ≤ y.lo) ∧ ∀ x, x ∈ insertRange e t ↔ x = e ∨ x ∈ t

/-- Outside a compute phase (and a protected gang, but for rchk), their checks passed and the tables claimed for the edit: grant of rights that the granter holds over the range, to a table with room and no other live entry there, inserts the entry with the next generation and answers it; revoke trims the range out of every entry that its caller may revoke, starts a shutter when there was one, and answers their number; retire drops what is expired over the range, replaces the owner's other entries there with a retired one of grantor s.own (log 100) and answers the quarantine's end; rchk answers the entry that the core's lookup finds, or bit 63; rvsync completes when no shutter of the core is left. (R278, R279, R280, R281, R282, R283) -/
def Sys2Proof.Machine.claimRightsInstructions : Prop :=
  ∀ (s s0 s1 s2 : State) (d a b x : GOp) (r : BitVec 6) (n0 n1 n2 : Nat),
    let c := s.core s.cur
    let t := s.begun
    let die := siteDie s.cur
    let lo := (c.rg .A a).toNat
    let hi := if c.rg .B b = 0 then 2 ^ 64 else (c.rg .B b).toNat
    let target := c.rg .C x
    let o := target.toNat
    let by_ := s0.core s.cur
    (c.Clear { uses := [rd .A a, rd .B b, rd .C x, wr .D d] } → mayReach c →
      t.rangeChecks s.cur (c.rg .A a) (c.rg .B b) (some target) = .ok s0 n0 →
      ((3 ≤ by_.mode ∧ s1 = s0) ∨ (by_.mode < 3 ∧ s0.granter s.cur by_.owner r.toNat lo hi 65700 = .ok s1 n1) →
        s1.claimTable s.cur o 1 (c.rg .A a) = .ok s2 n2 →
        let dir := s2.directory die o
        let live := (s2.rangeTable die o).filter (fun e => !(e.retired && decide (e.qend.toNat ≤ s2.time) && e.overlaps lo hi))
        (∀ e ∈ live, e.overlaps lo hi = false) → live.length ≠ dir.capacity →
        let e : RangeEntry := ⟨o, c.rg .A a, c.rg .B b, rangeWord (if by_.mode = 3 then 0 else by_.owner) dir.next r.toNat false, 0⟩
        exec (.grant d a b x r) s = .next (((s2.putTable die o (insertRange e live) (dir.next + 1)).result s.cur d
          (BitVec.ofNat 64 dir.next)).ended s.cur 12)) ∧
      (s0.claimTable s.cur o 1 (c.rg .A a) = .ok s1 n1 →
       let dir := s1.directory die o
       let table := s1.rangeTable die o
       let k := s1.core s.cur
       let hit (e : RangeEntry) : Bool := e.overlaps lo hi && (k.mode != 0 || (e.grantor == k.owner && !e.retired))
       let trimmed := table.flatMap (fun e => if hit e then e.outside lo hi else [e])
       trimmed.length ≤ dir.capacity →
        ((table.filter hit).length = 0 → exec (.revoke d a b x) s = .next ((s1.result s.cur d 0).ended s.cur 12)) ∧
        ((table.filter hit).length ≠ 0 → exec (.revoke d a b x) s =
          .next ((((s1.putTable die o trimmed dir.next).startShutter s.cur o lo hi).result s.cur d
            (BitVec.ofNat 64 (table.filter hit).length)).ended s.cur 12)))) ∧
    (c.Clear { uses := [rd .A a, rd .B b, wr .D d] } → mayReach c →
      t.rangeChecks s.cur (c.rg .A a) (c.rg .B b) none = .ok s0 n0 →
      s0.claimTable s.cur by_.owner 2 (c.rg .A a) = .ok s1 n1 →
      let own := by_.owner
      let dir := s1.directory die own
      let rest := (s1.rangeTable die own).flatMap (fun e =>
        if !e.overlaps lo hi then [e] else if e.retired && decide (e.qend.toNat ≤ s1.time) then [] else e.outside lo hi)
      let qend := (s1.time + 1000 * dir.quarantine) % 2 ^ 64
      rest.length + 1 ≤ dir.capacity →
      let e : RangeEntry := ⟨own, c.rg .A a, c.rg .B b, rangeWord own dir.next 0 true, BitVec.ofNat 64 qend⟩
      exec (.retire d a b) s = .next ((((s1.putTable die own (insertRange e rest) (dir.next + 1)).startShutter s.cur own lo hi).result
        s.cur d (BitVec.ofNat 64 qend)).ended s.cur 12)) ∧
    (c.Clear { uses := [rd .A a, rd .B b, wr .D d] } → c.computePhase = false →
      let who := if c.rg .B b = 0 then BitVec.ofNat 64 c.owner else c.rg .B b
      (c.mode ≠ 0 ∨ c.rg .B b = 0 ∨ c.rg .B b = BitVec.ofNat 64 c.owner) → who.toNat < 2 ^ 20 →
      t.checkOwner s.cur who.toNat c.vdev (c.rg .A a) = .ok s0 true →
      ∀ found, s0.lookupRlb s.cur who.toNat (lo / 64 * 64) (c.rg .A a) = .ok s1 found →
      exec (.rchk d a b) s = .next ((s1.result s.cur d (match found with
        | none => 0x8000000000000000
        | some e => e.word &&& 0x000FFFFFFFFF013F)).ended s.cur 12)) ∧
    (s.shuttersOf s.cur = false → exec .rvsync s = .next (t.ended s.cur 12)) ∧
    (s.shuttersOf s.cur = true → exec .rvsync s = .next (t.held_ s s.cur .rvsync))

/-- Rights tables are searched and trimmed exactly, and the rights instructions edit or read them by their rules. (R265, R267, R278, R279, R280, R281, R282, R283) -/
def Obligations.RightsEdited : Prop :=
  claimRightsSearch ∧ claimRangesTrimmedExactly ∧ claimRightsInstructions

/-- The event that completes a round, by its kind. -/
def Sys2Proof.Machine.endsRound (id : Nat) (k : RoundKind) (i : Instr) : Prop :=
  match k with
  | .shoot _ _ => i = .tlbShootdownComplete id
  | .shutter _ _ _ => i = .shutterComplete id
  | .rlb _ => i = .rlbinvRoundComplete id

/-- When nothing stands against a shootdown, a shutter or an rlbinv round, the event of its kind completes it: the round is gone; no core and no cluster holds a translation that overlaps the range of a shootdown, no core's buffer an entry of a shutter's owner in its range, nor of the owner of an rlbinv round (of any for owner 0); of a core nothing else changes, but that the core that waits for the round has completed its instruction. While something stands against it the event changes nothing. A core that waits in rvsync completes when none of its shutters is left. (R249, R273, R281, R409, R410) -/
def Sys2Proof.Machine.claimRoundsComplete : Prop :=
  ∀ (i : Instr) (s : State) (id site : Nat) (r : Round), rising s.rounds →
    (endsRound id r.kind i → tabGet? s.rounds id = some r →
      (s.roundReady r.kind = false → exec i s = .next s) ∧
      (s.roundReady r.kind = true → ∃ u, tabGet? u.rounds id = none ∧
        (∀ n, u.core n = { s.core n with tlb := (u.core n).tlb, rlb := (u.core n).rlb }) ∧
        (∀ a n, r.kind = .shoot a n →
          (∀ p ∈ u.cores, ∀ e ∈ p.2.tlb, e.overlaps a n = false) ∧ ∀ p ∈ u.clusTlb, ∀ e ∈ p.2, e.overlaps a n = false) ∧
        (∀ o b l, r.kind = .shutter o b l → ∀ p ∈ u.cores, ∀ e ∈ p.2.rlb, e.owner = o → e.overlaps b l = false) ∧
        (∀ o, r.kind = .rlb o → ∀ p ∈ u.cores, ∀ e ∈ p.2.rlb, o ≠ 0 ∧ e.owner ≠ o) ∧
        ((s.core r.site).wait ≠ .round id → exec i s = .next u) ∧
        ((s.core r.site).wait = .round id → exec i s = .next ((u.begunAt r.site).ended r.site 12)))) ∧
    ((s.core site).run = .running → (s.core site).wait = .rvsync → s.shuttersOf site = false →
      exec (.rvsyncComplete site) s = .next ((s.begunAt site).ended site 12))

/-- An ordered operation: its number, its type, its rounding mode, the record's register, the target's, and the operand (13 R315). -/
def Sys2Proof.Machine.orderedRule (c : Core) : Instr → Option (Nat × BitVec 4 × BitVec 3 × GOp × GOp × DWord × List Use)
  | .ordadd ty rm d a b => some (0, ty, rm, d, a, c.rg .B b, [rd .A a, rd .B b, rd .D d])
  | .ordmin ty d a b => some (1, ty, 0, d, a, c.rg .B b, [rd .A a, rd .B b, rd .D d])
  | .ordmax ty d a b => some (2, ty, 0, d, a, c.rg .B b, [rd .A a, rd .B b, rd .D d])
  | .ordswap ty d a b => some (3, ty, 0, d, a, c.rg .B b, [rd .A a, rd .B b, rd .D d])
  | .ordget ty d a => some (4, ty, 0, d, a, 0, [rd .A a, rd .D d])
  | _ => none

/-- An ordered operation with clear operands whose target passes its checks and whose record lies in writable aligned local bytes, with fewer than 16 records pending outside a gang, or fewer than 256 announced in the superstep of one, completes: its operation stands announced with the window of the package time and the core's number, or the superstep and the rank, the core's next sequence number, and its record pending. (R315, R316, R317) -/
def Sys2Proof.Machine.claimOrderedAnnouncement : Prop :=
  ∀ (i : Instr) (s s1 : State) (sub : Nat) (ty : BitVec 4) (rm : BitVec 3) (d a : GOp) (v : DWord) (us : List Use) (e : TlbEntry),
    let c := s.core s.cur
    let seam := c.sp.psw.getLsbD 4
    let va := (c.rg .A a).toNat
    orderedRule c i = some (sub, ty, rm, d, a, v, us) → c.Clear { rm := rm, uses := us } →
    (seam = true → c.ordCount < 256) → (seam = false → (c.ordPend.filter (fun p => !p.2)).length < 16) →
    let n := if ty.toNat = 2 ∨ ty.toNat = 6 ∨ ty.toNat = 10 then 4 else 8
    let acc : Access :=
      { site := s.cur, mode := c.mode, owner := c.owner, vd := c.vdev, va := va, n := n, op := .amo 0 0, need := [rA],
        engine := false, obj := true }
    s.begun.reach acc = .ok s1 e →
    inBounds c (c.rg .D d).toInt 16 →
    let op : OrdOp :=
      { site := s.cur, seam := seam
        win := if seam then c.sp.ss.toNat else s.time / 64
        num := if seam then c.sp.gang.toNat % 2 ^ 12 else s.logical s.cur
        seq := c.ordSeq, sub := sub, ty := ty.toNat
        rm := if sub = 0 then (c.rmode rm).toNat else 0
        v := v, va := va, pa := e.pa va, key := pteKey e.pte, owner := c.owner, vd := c.vdev, mode := c.mode, rec_ := (c.rg .D d).toNat, moves := 0, back := false }
    let u := s1.onCore s.cur (fun k =>
      { k with
        ordPend := k.ordPend ++ [((c.rg .D d).toNat, seam)]
        ordCount := if seam then k.ordCount + 1 else k.ordCount
        ordSeq := k.ordSeq + 1 })
    exec i s = .next (({ u with ords := tabSet u.ords (tabFree u.ords) op } : State).ended s.cur 12)

/-- At tick 64w + 128 or later, every earlier window of the die done and no earlier operation of its thread open elsewhere, the first operation of window w by key is applied first, and before that tick nothing is; an operation's result is the sum, minimum, maximum, swap or the word itself; a landing record puts the value and the status in its 16 local bytes, leaves the core's pending records and is on its way no more; an operation that its home turns away is returned; one returned is announced again with a new window, or lands with MOVED_RETRY_LIMIT after eight refusals. (R317, R318, R319, R320) -/
def Sys2Proof.Machine.claimOrderedApplication : Prop :=
  (∀ (s s1 : State) (die w i : Nat) (o : OrdOp), die < 4 →
    let mine (o : OrdOp) : Bool := !o.seam && homeDie o.pa == die && o.win == w
    (s.time < 64 * w + 128 → exec (.ordWindowApply die w) s = .next s) ∧
    (64 * w + 128 ≤ s.time →
      (∀ p ∈ s.ords, p.2.seam = false → homeDie p.2.pa = die → p.2.back = false → w ≤ p.2.win) →
      ordFirst (s.ords.filter (fun p => mine p.2 && (p.2.seam || !p.2.back))) = some (i, o) → s.ordBehind o = false →
      s.ordApply i o = (s1, true) →
      exec (.ordWindowApply die w) s = .next (s1.ordApplyAll mine (s.ords.length - 1)) ∧
      ∀ p ∈ s.ords, mine p.2 = true → p.2.back = false → p.2.before o = false)) ∧
  (∀ (o : OrdOp) (old : Nat), o.ty < 8 → old < 2 ^ (8 * ordBytes o.ty) →
    let n := ordBytes o.ty
    let v := o.v.toNat % 2 ^ (8 * n)
    (o.sub = 0 → o.fn old = ((old + v) % 2 ^ (8 * n), 0)) ∧ (o.sub = 3 → o.fn old = (v, 0)) ∧ (o.sub = 4 → o.fn old = (old, 0)) ∧
    (4 ≤ o.ty → (o.sub = 1 → o.fn old = (min old v, 0)) ∧ (o.sub = 2 → o.fn old = (max old v, 0)))) ∧
  (∀ (s : State) (i : Nat) (l : OrdLand), rising s.lands → tabGet? s.lands i = some l → (s.core l.site).loc.wf = true →
    ∃ t, exec (.ordRecordLand i) s = .next t ∧
      let c := t.core l.site
      memRead c.loc l.rec_ 8 = l.value.toNat ∧ memRead c.loc (l.rec_ + 8) 8 = l.status.toNat ∧
      (∀ x, x < l.rec_ ∨ l.rec_ + 16 ≤ x → c.byte x = (s.core l.site).byte x) ∧ tabGet? t.lands i = none ∧ c.ordPend = (s.core l.site).ordPend.eraseP (fun p => p.1 == l.rec_) ∧
      (∀ n, n ≠ l.site → t.core n = s.core n)) ∧
  ∀ (s s1 : State) (i : Nat) (o : OrdOp) (e : TlbEntry), tabGet? s.ords i = some o →
    (o.back = false → s.turnsAway o.pa (agentHome (homeDie o.pa)) (.ord o.site) = true →
      exec (.ordReannounce i) s = .next (s.ordReturn i o)) ∧
    (o.back = true → 8 ≤ o.moves → exec (.ordReannounce i) s = .next (s.ordLand i o 0 0 cMOVED_RETRY_LIMIT)) ∧
    (o.back = true → o.moves < 8 → (s.dropPage o.site o.va).translate o.site o.va = (s1, .leaf e) → pteType e.pte = 0 →
      exec (.ordReannounce i) s = .next (let o1 : OrdOp :=
          { o with back := false, pa := e.pa o.va, key := pteKey e.pte, win := if o.seam then o.win else s.time / 64 }
        { s1 with ords := tabSet s1.ords i o1 }))

/-- fence of a scope beyond the core in a compute phase traps with PHASE_GLOBAL and 0; else it completes when nothing of its kind within its scope is left, as when the core has no posted store, command, ordered operation or record at all, and otherwise waits until then; the oldest posted store of a core, refused fewer than eight times, whose page of type W, or of type C by now (log 75), does not turn it away, is applied at its home and leaves the queue. (R254, R309, R311, R312, R219) -/
def Sys2Proof.Machine.claimFenceAndPostedStores : Prop :=
  ∀ (s s1 : State) (kind scope : BitVec 3) (site k g n : Nat) (p : Posted) (rest : List Posted),
    let c := s.core s.cur
    let t := s.begun
    (c.computePhase = true → scope ≠ 0 → exec (.fence kind scope) s = .next (t.trapped s s.cur ⟨cPHASE_GLOBAL, 0⟩)) ∧
    (c.computePhase = false ∨ scope = 0 →
      (t.fenceMet s.cur kind.toNat scope.toNat = true → exec (.fence kind scope) s = .next (t.ended s.cur 4)) ∧
      (t.fenceMet s.cur kind.toNat scope.toNat = false →
        exec (.fence kind scope) s = .next (t.held_ s s.cur (.fence kind.toNat scope.toNat))) ∧
      (c.posted = [] → c.eng0.queue = [] → c.eng1.queue = [] → c.conv.queue = [] → c.mx.cmds = [] →
        (∀ q ∈ s.ords, q.2.site ≠ s.cur) → (∀ q ∈ s.lands, q.2.site ≠ s.cur) →
        exec (.fence kind scope) s = .next (t.ended s.cur 4))) ∧
    ((s.core site).run = .running → (s.core site).wait = .fence k g → (s.core site).computePhase = false →
      (s.begunAt site).fenceMet site k g = true → exec (.fenceComplete site) s = .next ((s.begunAt site).ended site 4)) ∧
    (s.works site = true → (s.core site).posted = p :: rest → p.moves < 8 → p.ty < 2 →
      s.turnsAway p.pa (agentHome (homeDie p.pa)) (.posted site) = false →
      s.applyHome p.key p.pa p.n p.value (.posted site) = .ok s1 n →
      exec (.postedStoreApply site) s = .next (s1.onCore site (fun k => { k with posted := k.posted.tail })))

/-- Ordered operations are announced and applied by key, and fences wait for what they name. (R219, R254, R309, R311, R312, R315, R316, R317, R318, R319, R320) -/
def Obligations.OrderedOperationsAndFences : Prop :=
  claimOrderedAnnouncement ∧ claimOrderedApplication ∧ claimFenceAndPostedStores

/-- A copy instruction: its SUB, channel, term, HE, RS and operands (14 R337). -/
def Sys2Proof.Machine.copyRule : Instr → Option (Nat × Nat × Nat × Bool × Bool × GOp × GOp × GOp × GOp)
  | .copyGl d a b f tm he rs ch => some (0, ch.toNat, tm.toNat, he, rs, d, a, b, f)
  | .copyLg d a b f tm he rs ch => some (1, ch.toNat, tm.toNat, he, rs, d, a, b, f)
  | .copyLl d a b f tm he rs ch => some (2, ch.toNat, tm.toNat, he, rs, d, a, b, f)
  | .copyGg d a b f tm he rs ch => some (3, ch.toNat, tm.toNat, he, rs, d, a, b, f)
  | _ => none

/-- A converter instruction: its SUB, T1, T2, RM, SAT, term, HE, RS and operands (14 R349). -/
def Sys2Proof.Machine.convRule : Instr → Option (Nat × BitVec 4 × BitVec 4 × BitVec 3 × Bool × Nat × Bool × Bool × GOp × GOp × GOp)
  | .convE t1 t2 rm sat d a b tm he rs => some (0, t1, t2, rm, sat, tm.toNat, he, rs, d, a, b)
  | .quant t1 t2 rm sat d a b tm he rs => some (1, t1, t2, rm, sat, tm.toNat, he, rs, d, a, b)
  | .dequant t1 t2 rm d a b tm he rs => some (2, t1, t2, rm, false, tm.toNat, he, rs, d, a, b)
  | .retile t1 t2 rm sat d a b tm he rs => some (3, t1, t2, rm, sat, tm.toNat, he, rs, d, a, b)
  | _ => none

/-- The word 2 that a command keeps (14 R332): term, HE, RS, channel. -/
def Sys2Proof.Machine.commandWord (tm : Nat) (he rs : Bool) (ch : Nat) : Nat :=
  tm * 16 + (if he then 4 else 0) + (if rs then 2 else 0) + ch

/-- A copy with clear operands, whose channel has a place (log 101), whose global sides are no access of a compute phase, whose nest block and footprint block read sound and valid, whose signal, tag and resume checks pass, completes at once: the command with its operands, blocks, owner, device, mode, tag and footprint edges stands held at the end of its channel's queue, or in place of a faulted command that it resumes. (R332, R337, R338, R340, R348) -/
def Sys2Proof.Machine.claimCopyIssues : Prop :=
  ∀ (i : Instr) (s u : State) (sub ch tm : Nat) (he rs : Bool) (d a b f : GOp) (blk foot : List Nat) (c1 c2 c3 : Core)
      (tag : Option (Nat × Nat)) (m : Nat),
    let c := s.core s.cur
    let t := s.begun
    let k := c.tickShadows
    let fa := c.rg .C f
    let n := wordsNum blk
    let glob := sub = 0 ∨ sub = 1 ∨ sub = 3
    copyRule i = some (sub, ch, tm, he, rs, d, a, b, f) → c.Clear { uses := [rd .A a, rd .B b, rd .C f, rd .D d] } →
    c.noPlace ch (fa != 0) = false → (glob → c.computePhase = false) → (c.guarded = true → fa ≠ 0) →
    c.blockBusy (c.rg .B b) 64 = false → (fa ≠ 0 → c.blockBusy fa 64 = false) →
    k.readBlock (c.rg .B b).toInt 64 = (c1, .ok blk) →
    (fa = 0 → c2 = c1 ∧ foot = []) → (fa ≠ 0 → c1.readBlock fa.toInt 64 = (c2, .ok foot) ∧ footValid foot = true) →
    nestValid n (c2.sp.psw.getLsbD 4) (sub == 0) = true →
    (nestBar n = true → (s.seamGang (chanKey (siteDie s.cur) (nestBt n))).isSome = false) →
    (c2.guarded = false → c3 = c2) → (c2.guarded = true → c2.addFoot foot (c2.sp.psw.getLsbD 5) = some c3) →
    (2 ≤ sub → nestSelfMeets n (if sub = 3 then ((c.rg .D d).toNat : Int) else (c.rg .D d).toInt)
      (if sub = 3 then ((c.rg .A a).toNat : Int) else (c.rg .A a).toInt) = false) →
    (if nestSig n then (t.putCore s.cur c2).sigCheck s.cur (nestSigVa n) else .ok (t.putCore s.cur c2) 0) = .ok u m →
    u.nestTag s.cur n = .ok tag → (rs = true → (c.eng ch).fault.isSome = true) →
    let cmd : Cmd :=
      { id := c.cmdId, sub := sub, conv := false, dst := c.rg .D d, src := c.rg .A a, word2 := commandWord tm he rs ch, t1 := 0,
        t2 := 0, rm := 0, sat := false, blk := blk, foot := foot, owner := c.owner, vd := c.vdev, mode := c.mode, tvec := c.sp.tvec,
        tag := tag, k := if rs then c.resumeAt ch (nestCounts n) (nestTotal n) else 0, vals := [], begun := false,
        stage := .held, edges := c.edgesOf foot, credit := false, leave := false, moved := 0 }
    exec i s = .next ((u.onCore s.cur (fun x =>
      ({ x with reads := c3.reads, writes := c3.writes } : Core).enqueue ch rs cmd)).ended s.cur 12)

/-- convE, quant, dequant and retile with clear operands and a place in the queue, whose descriptor reads sound and is valid for the command (log 103), and which resumes only a faulted one, complete at once with the command held in the converter's queue, without a footprint or edges (log 84). (R349, R350, R332) -/
def Sys2Proof.Machine.claimConverterIssues : Prop :=
  ∀ (i : Instr) (s : State) (sub : Nat) (t1 t2 : BitVec 4) (rm : BitVec 3) (sat : Bool) (tm : Nat) (he rs : Bool) (d a b : GOp)
      (blk : List Nat) (c1 : Core),
    let c := s.core s.cur
    let n := wordsNum blk
    convRule i = some (sub, t1, t2, rm, sat, tm, he, rs, d, a, b) → c.Clear { rm := rm, uses := [rd .A a, rd .B b, rd .D d] } →
    c.noPlace 2 false = false → c.tickShadows.readBlock (c.rg .B b).toInt 16 = (c1, .ok blk) →
    descValid sub t1.toNat t2.toNat n = true → (rs = true → c.conv.fault.isSome = true) →
    let cmd : Cmd :=
      { id := c.cmdId, sub := sub, conv := true, dst := c.rg .D d, src := c.rg .A a, word2 := commandWord tm he rs 0, t1 := t1.toNat,
        t2 := t2.toNat, rm := (c.rmode rm).toNat, sat := sat, blk := blk, foot := [], owner := c.owner, vd := c.vdev, mode := c.mode,
        tvec := c.sp.tvec, tag := none, k := if rs then c.resumeAt 2 [convCols sub n, convRows sub n] (convTotal n) else 0,
        vals := [], begun := false, stage := .held, edges := [], credit := false, leave := false, moved := 0 }
    exec i s = .next (((s.begun.putCore s.cur c1).onCore s.cur (fun x => x.enqueue 2 rs cmd)).ended s.cur 12)

/-- The event that starts the head command of an engine without a standing fault: with an edge to a command that is not complete, nothing changes; where it wants a credit that its term has not, or another command reached the wait for it before, it queues for it (log 88); otherwise it takes the credit that it wants, and then runs, unless it needs leave that it has not, which it asks for, its gathered flags kept when it had begun before; a governor grants its first request when the draw fits below the limit, or when the draw alone exceeds it and nothing is drawn. (R332, R360, R361, R362) -/
def Sys2Proof.Machine.claimEngineCommandsStart : Prop :=
  (∀ (s : State) (site e : Nat) (h : Cmd) (rest : List Cmd),
    let c := s.core site
    let x := c.eng e
    let term := h.word2 / 16 % 16
    let wants := h.word2.testBit 2 && !h.credit
    let leave := decide (e < 2) && decide (4096 < nestElem (wordsNum h.blk) * nestTotal (wordsNum h.blk)) && !h.leave
    let k1 := c.queueCredit term h.id
    let turn : Prop := k1.creditOf term ≠ 0 ∧ k1.credits.find? (fun p => p.1 == term) = some (term, h.id)
    let c1 := if wants then { k1.takeCredit term with credits := k1.credits.filter (· != (term, h.id)) } else c
    let y : Engine := { x with queue := { h with credit := true, stage := .running, begun := true } :: rest, wptr := h.k,
                               flags := if h.begun then x.flags else 0 }
    s.works site = true → e < 3 → c.run = .running → x.fault = none → x.queue = h :: rest → h.stage = .held →
    (c.edgesMet h.edges = false → exec (.engineCommandStart site e) s = .next s) ∧
    (c.edgesMet h.edges = true → wants = true → ¬ turn → exec (.engineCommandStart site e) s = .next (s.putCore site k1)) ∧
    (c.edgesMet h.edges = true → (wants = true → turn) →
      (leave = true → exec (.engineCommandStart site e) s =
        .next ((s.putCore site (c1.setEng e { x with queue := { h with credit := true } :: rest })).askLeave site e 1)) ∧
      (leave = false →
        (h.conv = true ∨ nestElem (wordsNum h.blk) * nestTotal (wordsNum h.blk) < 65536 →
          exec (.engineCommandStart site e) s = .next (s.putCore site (c1.setEng e y))) ∧
        ∃ u, exec (.engineCommandStart site e) s = .next u ∧ (u.core site).eng e = y))) ∧
  (∀ (s : State) (q : Nat) (r : LeaveReq) (rest : List LeaveReq), q < 16 → (s.gov q).fifo = r :: rest → r.eng < 3 →
    let g := s.gov q
    let draw := g.cls.getD r.cls 0
    (g.est + draw ≤ g.lim ∨ (g.lim < draw ∧ g.est = 0) →
      exec (.leaveGrant q) s =
        .next ((s.putGov q { g with est := g.est + draw, fifo := rest, out := g.out ++ [(r.site, r.eng, draw)] }).onCore r.site
          (fun c => c.setEng r.eng ((c.eng r.eng).onHead (fun x => { x with leave := true }))))) ∧
    (¬ (g.est + draw ≤ g.lim ∨ (g.lim < draw ∧ g.est = 0)) → exec (.leaveGrant q) s = .next s)) ∧
  ∀ (s : State) (die : Nat), die < 4 →
    let renewed (b : Budget) : Budget :=
      { b with used := 0, stall := if b.budget < 10000 ∧ b.budget ≤ b.used then min (b.stall + 1) 65535 else b.stall }
    exec (.activityPeriodStart die) s = .next (s.putDie die { s.die die with budgets := (s.die die).budgets.map renewed })

/-- Copy and converter commands are checked and queued, and start in order. (R332, R337, R338, R340, R348, R349, R350, R360, R361, R362) -/
def Obligations.EngineIssues : Prop :=
  claimCopyIssues ∧ claimConverterIssues ∧ claimEngineCommandsStart

/-- An element of a running copy that passes its local and global checks and whose accesses perform: the bytes read at the source, global or local, are written at the destination, global or local, at the addresses that its nest gives, the next element follows and its bytes count on its tag; an element of a converter command whose local words are sound writes its result and its flags, a block being read once (log 85), and the next one follows. (R335, R336, R339, R342, R350) -/
def Sys2Proof.Machine.claimEngineElements : Prop :=
  (∀ (s s2 s3 s4 : State) (site ch : Nat) (x : Cmd) (c1 : Core) (es : List (Side × TlbEntry)) (v n : Nat),
    let c := s.core site
    let b := wordsNum x.blk
    let e := nestElem b
    let ix := nestIndex (nestCounts b) x.k
    let sg := x.sub == 0 || x.sub == 3
    let dg := x.sub == 1 || x.sub == 3
    let srcI : Int := (if sg then (x.src.toNat : Int) else x.src.toInt) + nestOffset ix (nestSrc b)
    let dstI : Int := (if dg then (x.dst.toNat : Int) else x.dst.toInt) + nestOffset ix (nestDst b)
    let srcVa : Nat := (srcI % 2 ^ 64).toNat
    let dstVa : Nat := (dstI % 2 ^ 64).toNat
    let locals := (if sg then [] else [(srcI, e, false)]) ++ (if dg then [] else [(dstI, e, true)])
    let sides : List Side := (if sg then [⟨srcVa, e, .load, [if nestCode b then rX else rR]⟩] else [])
      ++ (if dg then [⟨dstVa, e, .store 0, [rW]⟩] else [])
    s.works site = true → ch < 2 → c.run = .running → (c.eng ch).running = some x → x.k < nestTotal b →
    (sg = false → c.localBusy srcI e = false) → (dg = false → c.localBusy dstI e = false) → c.elemLocals locals = (c1, none) →
    (s.putCore site c1).checkSides site ch x.mode x.owner x.vd x.foot
      [(!sg, false, if sg then (srcVa : Int) else srcI, e), (!dg, true, if dg then (dstVa : Int) else dstI, e)] sides = .ok s2 es →
    (sg = false → s3 = s2 ∧ v = memRead (s2.core site).loc srcI.toNat e) →
    (sg = true → ∃ y t, es.head? = some (y, t) ∧ s2.performSide site ch x.mode x.owner x.vd y t = .ok s3 v) →
    (dg = false → exec (.copyElement site ch) s =
      .next ((s3.onCore site (fun k => k.pokeLocal dstI.toNat e v)).landed site ch x.tag e)) ∧
    (∀ y t, dg = true → es.getLast? = some (y, t) →
      s3.performSide site ch x.mode x.owner x.vd { y with op := .store v } t = .ok s4 n →
      exec (.copyElement site ch) s = .next (s4.landed site ch x.tag e))) ∧
  ∀ (s : State) (site : Nat) (x : Cmd) (c1 : Core),
    let c := s.core site
    let d := wordsNum x.blk
    let r := x.k / convCols x.sub d
    let e := x.k % convCols x.sub d
    s.works site = true → c.run = .running → c.conv.running = some x → x.k < convTotal d →
    let needs := convNeeds x r e
    c.elemLocals ((if x.vals.isEmpty then needs.flatMap (convReads x) else []) ++ convWrites x r e) = (c1, none) →
    let src := if x.vals.isEmpty then needs.map (c1.convRead x) else x.vals
    let res := convResult x e src
    let c2 := c1.convPut x r e res.1.bits res.2
    let head := c2.conv.onHead (fun y =>
      { y with k := y.k + 1, vals := if convDstRecord x.sub && e % 32 != 31 then src else [] })
    exec (.convElement site) s = .next (s.putCore site
      { c2 with conv := { head with wptr := c2.conv.wptr + 1, flags := c2.conv.flags ||| res.1.flags.toNat } })

/-- A running copy with no element left and no signal, or whose signal's decrement succeeds, and a running converter command with no element left, leave their queue, return their leave and pulse the core's crossbar with their engine's source; cpwait reports the first standing fault of the engines that it selects, completes when they have no command, and otherwise waits, as the event that ends its wait does; cpstat writes the field that it selects (of no recorded fault: log 102). (R342, R343, R344) -/
def Sys2Proof.Machine.claimEngineCompletion : Prop :=
  (∀ (s s1 : State) (site ch : Nat) (x : Cmd) (v : DWord),
    let c := s.core site
    let b := wordsNum x.blk
    let fin (u : State) (e : Nat) : State :=
      (u.onCore site (fun k => (k.setEng e { k.eng e with queue := (k.eng e).queue.tail }).pulse (e + 1) 0)).returnLeave site e
    s.works site = true → c.run = .running →
    (ch < 2 → (c.eng ch).running = some x → nestTotal b ≤ x.k →
      (nestSig b = false → exec (.engineCommandComplete site ch) s = .next (fin s ch)) ∧
      (nestSig b = true → s.sigdec (s.cmdAgent site ch x.mode x.owner x.vd x.tvec) (nestSigVa b) 1 = .ok s1 v →
        exec (.engineCommandComplete site ch) s = .next (fin s1 ch))) ∧
    (c.conv.running = some x → convTotal b ≤ x.k → exec (.engineCommandComplete site 2) s = .next (fin s 2))) ∧
  ∀ (s : State) (sel : BitVec 2) (site n : Nat) (d : GOp) (fld : BitVec 5),
    let c := s.core s.cur
    let k := s.core site
    let x := c.eng (fld.toNat / 8)
    (∀ e f, c.engFault sel.toNat = some (e, f) →
      exec (.cpwait sel) s = .next ((s.begun.onCore s.cur (fun y => y.report e)).trapped s s.cur f)) ∧
    (c.engFault sel.toNat = none → c.engIdle sel.toNat = true → exec (.cpwait sel) s = .next (s.begun.ended s.cur 12)) ∧
    (c.engFault sel.toNat = none → c.engIdle sel.toNat = false →
      exec (.cpwait sel) s = .next (s.begun.held_ s s.cur (.cpwait sel.toNat))) ∧
    (k.run = .running → k.wait = .cpwait n → k.engFault n = none → k.engIdle n = true →
      exec (.cpwaitComplete site) s = .next ((s.begunAt site).ended site 12)) ∧
    (c.Clear { uses := [wr .D d] } → exec (.cpstat d fld) s = .next (s.finishAt s.cur 12 (c.tickShadows.wg .D d (BitVec.ofNat 64
      (match fld.toNat % 8 with
       | 0 => x.stat (fld.toNat / 8 == 2)
       | 1 => (x.fault.map (fun f => f.addr.toNat)).getD 0
       | 2 => x.iv.getD 0 0 + x.iv.getD 1 0 * 2 ^ 16 + x.iv.getD 2 0 * 2 ^ 32 + x.iv.getD 3 0 * 2 ^ 48
       | 3 => x.iv.getD 4 0
       | _ => x.wptr % 2 ^ 40)) 1)))

/-- evcfg of a counter with a source below 8 and its reserved bits zero sets the configuration and clears the count, of a term clears its arming and its credit, of the timer starts its period; other counter and term values trap with EV_CONFIG; evarm arms its term; evread writes a count, a credit or the timer; evwait takes a credit of its term or waits until there is one; n cycles bring the timer's end of a period as often as they hold it, each due for one pulse, and its event gives a pulse of source 5 for one that is due. (R357, R358, R359, R360) -/
def Sys2Proof.Machine.claimEventCrossbar : Prop :=
  ∀ (s : State) (d a : GOp) (sel : BitVec 5) (tm : BitVec 4) (site n : Nat),
    let c := s.core s.cur
    let v := c.rg .A a
    let x := c.xbar
    let term (k : Nat) : EvTerm := x.terms.getD k ⟨0, false, 0⟩
    let on (k : Core) (y : Crossbar) : State := s.finishAt s.cur 12 { k with xbar := y }
    (c.Clear { uses := [rd .A a] } →
      (sel.toNat < 8 → v.toNat < 2 ^ 32 → v.toNat / 2 ^ 11 % 2 ^ 5 = 0 → v.toNat % 32 < 8 → exec (.evcfg a sel) s =
        .next (on c.tickShadows (({ x with counters := x.counters.set sel.toNat ⟨v, 0⟩ } : Crossbar).fire 256))) ∧
      (sel.toNat < 8 → 2 ^ 32 ≤ v.toNat ∨ v.toNat / 2 ^ 11 % 2 ^ 5 ≠ 0 ∨ 8 ≤ v.toNat % 32 →
        exec (.evcfg a sel) s = .next (s.trapAt s.cur c ⟨cEV_CONFIG, v⟩)) ∧
      (8 ≤ sel.toNat → sel.toNat < 24 → v.toNat < 2 ^ 17 → exec (.evcfg a sel) s =
        .next (on c.tickShadows { x with terms := x.terms.set (sel.toNat - 8) ⟨v, false, 0⟩ })) ∧
      (8 ≤ sel.toNat → sel.toNat < 24 → 2 ^ 17 ≤ v.toNat → exec (.evcfg a sel) s = .next (s.trapAt s.cur c ⟨cEV_CONFIG, v⟩)) ∧
      (24 ≤ sel.toNat → exec (.evcfg a sel) s =
        .next (on c.tickShadows { x with period := v.toNat % 2 ^ 32, left := v.toNat % 2 ^ 32 }))) ∧
    (exec (.evarm tm) s = .next (on c.tickShadows
      (({ x with terms := x.terms.set tm.toNat { term tm.toNat with armed := true } } : Crossbar).fire 256))) ∧
    (c.Clear { uses := [wr .D d] } → exec (.evread d sel) s = .next (s.finishAt s.cur 12 (c.tickShadows.wg .D d (BitVec.ofNat 64
      (if sel.toNat < 8 then (x.counters.getD sel.toNat ⟨0, 0⟩).count else if sel.toNat < 24 then (term (sel.toNat - 8)).credit
       else x.left)) 1))) ∧
    ((term tm.toNat).credit ≠ 0 → exec (.evwait tm) s = .next ((s.begun.onCore s.cur (fun k => { k with xbar := { k.xbar with
      terms := k.xbar.terms.set tm.toNat { term tm.toNat with credit := (term tm.toNat).credit - 1 } } })).ended s.cur 12)) ∧
    ((term tm.toNat).credit = 0 → exec (.evwait tm) s = .next (s.begun.held_ s s.cur (.evwait tm.toNat))) ∧
    ((s.core site).run = .running → (s.core site).wait = .evwait n → (s.core site).creditOf n ≠ 0 →
      exec (.evwaitComplete site) s = .next (((s.begunAt site).onCore site (fun k => k.takeCredit n)).ended site 12)) ∧
    (s.works site = true → (s.core site).xbar.due ≠ 0 → exec (.evTimerPulse site) s =
      .next (s.onCore site (fun k => { k with xbar := ({ k.xbar with due := k.xbar.due - 1 } : Crossbar).pulse 5 0 }))) ∧
    (0 < x.left → x.left ≤ x.period → let y := x.elapse n
      y.left = x.period - (n + x.period - x.left) % x.period ∧ y.due = x.due + (n + x.period - x.left) / x.period)

/-- A term that is armed fires when each counter of its first product, or else of its second, has a threshold not zero and a count at least as high: those counters lose their thresholds, the term's credit goes up by one to at most 255, it stays armed only if it says so (sweeps: log 14), and the counters of source 7 for that term count one; a term that is not armed, or without such a product, changes nothing. (R358, R359) -/
def Sys2Proof.Machine.claimTermsFire : Prop :=
  ∀ (x : Crossbar) (i p : Nat), i < x.terms.length →
    let t := x.terms.getD i ⟨0, false, 0⟩
    let p0 := t.cfg.toNat % 256
    let p1 := t.cfg.toNat / 256 % 256
    let ready (q : Nat) : Prop := q ≠ 0 ∧ ∀ j c, x.counters[j]? = some c → q.testBit j = true → c.thr ≠ 0 ∧ c.thr ≤ c.count
    (t.armed = false ∨ (¬ ready p0 ∧ ¬ ready p1) → x.tryTerm i = (x, false)) ∧
    (t.armed = true → t.credit ≤ 255 → (p = p0 ∧ ready p0) ∨ (p = p1 ∧ ¬ ready p0 ∧ ready p1) →
      ∃ y, x.tryTerm i = (y, true) ∧
        y.terms = x.terms.set i { t with armed := t.cfg.getLsbD 16, credit := min (t.credit + 1) 255 } ∧
        y.counters.length = x.counters.length ∧
        ∀ j c, x.counters[j]? = some c →
          y.counters[j]? = some (EvCounter.see 7 i (if p.testBit j then { c with count := c.count - c.thr } else c)))

/-- Engines move their elements and complete, and crossbar terms count and fire. (R335, R336, R339, R342, R343, R344, R350, R357, R358, R359, R360) -/
def Obligations.EnginesAndCrossbar : Prop :=
  claimEngineElements ∧ claimEngineCompletion ∧ claimEventCrossbar ∧ claimTermsFire

/-- A matrix command with a descriptor: its kind, T, its rounding mode, the word that it keeps, RS and its operands (15 R373). -/
def Sys2Proof.Machine.matrixRule : Instr → Option (Nat × Bool × BitVec 3 × Nat × Bool × GOp × GOp)
  | .mload a b tr tm he rs => some (0, tr, 0, commandWord tm.toNat he rs 0, rs, a, b)
  | .mstream a b row0 tr tm he rs => some (1, tr, 0, row0.toNat * 2 ^ 8 + commandWord tm.toNat he rs 0, rs, a, b)
  | .mstore rm a b row0 j be zr tm he rs =>
    some (2, false, rm, (j.toNat + (if be then 4 else 0) + (if zr then 8 else 0)) * 2 ^ 16 + row0.toNat * 2 ^ 8
      + commandWord tm.toNat he rs 0, rs, a, b)
  | _ => none

/-- The bank as it stands in a table (15 R363): its entries in rising order. -/
def Sys2Proof.Machine.MxQueue.bankWf (q : MxQueue) : Prop := (q.bank.map (fun p => p.1)).Pairwise (· < ·)

/-- mload, mstream and mstore with clear operands and a place (log 101), whose descriptor and footprint read sound and valid and whose signal and resume checks pass, and mzero without RS, complete at once: the command with its fields, owner, device, mode and footprint edges stands held at the end of the queue, a standing fault and the commands behind it discarded, or in place of the faulted command that it resumes. (R365, R373, R374, R377, R382) -/
def Sys2Proof.Machine.claimMatrixIssues : Prop :=
  ∀ (i : Instr) (s u : State) (kind : Nat) (tr rs he : Bool) (rm : BitVec 3) (w m : Nat) (a f : GOp) (desc foot : List Nat)
      (c1 c2 c3 : Core) (row0 : BitVec 8) (count : BitVec 9) (tm : BitVec 4),
    let c := s.core s.cur
    let t := s.begun
    let fa := c.rg .B f
    let cmd (y : Core) (kind m rm k : Nat) (desc foot : List Nat) (pos : Nat) : MxCmd :=
      { id := y.cmdId, kind := kind, desc := desc, foot := foot, word2 := m, rm := rm, kdim := k, owner := y.owner, vd := y.vdev,
        mode := y.mode, tvec := y.sp.tvec, pos := pos, stage := .held, edges := y.edgesOf foot, credit := false, leave := false,
        granted := false, moved := 0 }
    (matrixRule i = some (kind, tr, rm, w, rs, a, f) → c.Clear { rm := rm, uses := [rd .A a, rd .B f] } →
      c.mxNoPlace (fa != 0) = false → c.blockBusy (c.rg .A a) 32 = false → (fa ≠ 0 → c.blockBusy fa 64 = false) →
      c.tickShadows.readBlock (c.rg .A a).toInt 32 = (c1, .ok desc) →
      (fa = 0 → c2 = c1 ∧ foot = []) → (fa ≠ 0 → c1.readBlock fa.toInt 64 = (c2, .ok foot) ∧ footValid foot = true) →
      (mxLocal desc = false → c2.computePhase = false ∧ (c2.guarded = true → fa ≠ 0)) →
      mxDescOk kind (w / 2 ^ 8 % 2 ^ 8) (if rs then c2.mx.lastK else c2.mx.discard.lastK) desc = true →
      mxOrientOk kind tr desc = true →
      (c2.guarded = false → c3 = c2) → (c2.guarded = true → c2.addFoot foot (c2.sp.psw.getLsbD 5) = some c3) →
      (if mxSig desc = 0 then .ok (t.putCore s.cur c2) 0 else (t.putCore s.cur c2).sigCheck s.cur (mxSig desc)) = .ok u m →
      (rs = true → (c2.mx.fault.any (fun x => x.kind == kind)) = true) →
      exec i s = .next ((u.onCore s.cur (fun y => ({ y with reads := c3.reads, writes := c3.writes } : Core).mxEnqueue rs
        (cmd c2 kind w (if kind = 2 then (c.rmode rm).toNat else 0) (mxLen desc) desc foot
          (if rs then (c2.mx.fault.map (fun x => x.pos)).getD 0 else 0)))).ended s.cur 12)) ∧
    (c.mxNoPlace false = false →
      (rs = false → exec (.mzero row0 count tm he rs) s = .next ((t.onCore s.cur (fun y => y.mxEnqueue false
        (cmd c 3 (count.toNat * 2 ^ 16 + row0.toNat * 2 ^ 8 + commandWord tm.toNat he rs 0) 0 0 [] [] 0))).ended s.cur 12)) ∧
      (rs = true → exec (.mzero row0 count tm he rs) s = .next (t.trapped s s.cur ⟨cCONV_FORMAT, 0⟩)))

/-- When no unit is in the array of a cluster, its queues having taken their steps toward running, and no head command to be granted is an mzero, the first queue in ascending slot after the last served one that is ready and has credit is granted and loses one credit; when none has, every credit is its weight and the choice is made again; a write of queue weights stores 1 for 0; a governor grants the leave of a matrix command. (R361, R366, R367) -/
def Sys2Proof.Machine.claimMatrixArbiter : Prop :=
  (∀ (s : State) (cluster j : Nat), cluster < 512 →
    let s1 := (List.range 8).foldl (fun s j => s.mxStart (clusterSite cluster j)) s
    let a := tabGet s1.arbiters cluster ⟨List.replicate 8 1, 7⟩
    let full : Arbiter := { a with credits := (List.range 8).map (s1.mxWeight cluster) }
    let head (j : Nat) : Option MxCmd := (s1.core (clusterSite cluster j)).mx.cmds.head?
    let give (a : Arbiter) : State :=
      ({ s1 with arbiters := tabSet s1.arbiters cluster ⟨a.credits.set j (a.credits.getD j 0 - 1), j⟩ } : State).onCore
        (clusterSite cluster j) (fun c =>
          Core.count 15 1 { c with mx := c.mx.onHead (fun x => { x with granted := true }) })
    (∀ k < 8, ∀ x, head k = some x → x.granted = false ∧ x.kind ≠ 3) →
    (s1.mxChoose cluster a = some j → exec (.mxUnitGrant cluster) s = .next (give a)) ∧
    (s1.mxChoose cluster a = none → s1.mxChoose cluster full = some j → exec (.mxUnitGrant cluster) s = .next (give full)) ∧
    (s1.mxChoose cluster a = none → s1.mxChoose cluster full = none → exec (.mxUnitGrant cluster) s = .next s1)) ∧
  (∀ (s : State) (cluster j k : Nat) (a : Arbiter), a.last < 8 → s.mxChoose cluster a = some j →
    j < 8 ∧ s.mxReady cluster j = true ∧ 0 < a.credits.getD j 0 ∧
    (k < 8 → (k + 7 - a.last) % 8 < (j + 7 - a.last) % 8 → s.mxReady cluster k = false ∨ a.credits.getD k 0 = 0)) ∧
  (∀ (s : State) (quad q j : Nat) (v : BitVec 64), quad < 16 → q < 32 → j < 8 →
    ∃ w, exec (.mxWeightWrite quad q v) s = .next { s with mxWeights := tabSet s.mxWeights (quad * 32 + q) w } ∧
      w.toNat / 2 ^ (8 * j) % 2 ^ 8 = max (v.toNat / 2 ^ (8 * j) % 16) 1) ∧
  ∀ (s : State) (q : Nat) (r : LeaveReq) (rest : List LeaveReq), q < 16 → (s.gov q).fifo = r :: rest → r.eng = 3 →
    let g := s.gov q
    let draw := g.cls.getD r.cls 0
    g.est + draw ≤ g.lim ∨ (g.lim < draw ∧ g.est = 0) →
    exec (.leaveGrant q) s =
      .next ((s.putGov q { g with est := g.est + draw, fifo := rest, out := g.out ++ [(r.site, r.eng, draw)] }).onCore r.site
        (fun c => { c with mx := c.mx.onHead (fun h => { h with leave := true }) }))

/-- A granted mload whose records are fetched puts the elements of record n in column n of the weight slot, at 128n, the scale bytes in its scale store, at 8n (log 20), and latches the format and K; with no signal it leaves its queue, returns its leave and pulses the crossbar with source 4. (R365, R375) -/
def Sys2Proof.Machine.claimMatrixLoads : Prop :=
  ∀ (s s1 : State) (site : Nat) (x : MxCmd) (bytes : List Byte) (rest : List MxCmd),
    let q := (s.core site).mx
    let d := x.desc
    let m := x.placed bytes
    let f := mxFmt d
    let n := (mxLen d * fmtWidth f + 7) / 8
    let off := if mxSc d then scaleBytes (mxLen d) else 0
    let slot := (List.range 64).foldl (fun t i => memCopy m (mxBase d + i * mxPitch d + off) t (128 * i) n) []
    let scales :=
      if mxSc d then (List.range 64).foldl (fun t i => memCopy m (mxBase d + i * mxPitch d) t (8 * i) (mxLen d / 32)) [] else []
    s.works site = true → (s.core site).run = .running → q.fault = none → q.cmds = x :: rest → x.granted = true →
    x.stage = .running → x.kind = 0 → x.pos = 0 → mxSig d = 0 → s.fetchRecords site x = .ok s1 bytes →
    (s1.core site).mx.cmds = x :: rest → (s1.core site).mx.fault = none →
    exec (.mxLoadExec site) s = .next (((s1.onCore site (fun c => { c with mx :=
      { c.mx with slot := slot, scales := scales, fmt := f, kdim := mxLen d, pocket := [], cmds := rest, doneK := mxLen d } })).onCore site
        (fun c => c.pulse 4 0)).returnLeave site 3)

/-- A granted tile, not the last of its stream, of an mstream whose K is the slot's, with no injection armed, whose rows are fetched: every element (row0 + 64t + i, n) of the bank becomes the accumulation over the blocks of K, ascending, of the exact sum of each block under both scales onto its old value; every other element is as it was, no correction is counted, and the next tile follows. The test of a block without an injected error lets its sums through unchanged. (R376, R380) -/
def Sys2Proof.Machine.claimMatrixTiles : Prop :=
  (∀ (g : SumGrid), testBlock g g = .pass g) ∧
  ∀ (s s1 : State) (site : Nat) (x : MxCmd) (bytes : List Byte) (rest : List MxCmd),
    let q := (s.core site).mx
    let d := x.desc
    let m := x.placed bytes
    let m0 := 64 * x.pos
    let f := mxFmt d
    let off := if mxSc d then scaleBytes (mxLen d) else 0
    let a (i b : Nat) : MxBlock := mxBlock m (mxRecAt d (m0 + i) + off) (mxRecAt d (m0 + i)) f b
    let w (n b : Nat) : MxBlock :=
      let sb := if fmtSc q.fmt then memRead q.scales (8 * n + b) 1 else 32
      ⟨(List.range 32).map (fun k => mxElem q.slot (128 * n) q.fmt sb (32 * b + k)), sb % 64⟩
    s.works site = true → (s.core site).run = .running → q.fault = none → q.cmds = x :: rest → x.granted = true →
    x.stage = .running → x.kind = 1 → q.inj = [] → q.fmt ≠ 255 → q.kdim = x.kdim → 64 * (x.pos + 1) < mxRecs d →
    s.fetchRecords site x = .ok s1 bytes → (s1.core site).mx = q → q.bankWf →
    ∃ t, exec (.mxTileExec site) s = .next t ∧
      let e := (t.core site).mx
      (∀ i n, i < 64 → n < 64 → e.bankAt (x.row0 + m0 + i) n = (accumulateAll (fun b => (a i b).scale) (fun b => (w n b).scale) 0
        ((List.range (q.kdim / 32)).map (fun b => blockSum (a i b) (w n b))) (q.bankAt (x.row0 + m0 + i) n) 0).1) ∧
      (∀ r n, n < 64 → r < x.row0 + m0 ∨ x.row0 + m0 + 64 ≤ r → e.bankAt r n = q.bankAt r n) ∧ e.corr = q.corr % 2 ^ 32 ∧
      e.slot = q.slot ∧ e.cmds = { x with pos := x.pos + 1, granted := false, moved := 0 } :: rest

/-- A granted mstore with a row left, whose row passes its bound check and whose bytes are stored, notes the pair, the flags and the zeroing, and goes on with the next row; a row that traps stops it there with BOUND_TRAP; a value in bounds is stored as it is, one out of bounds is flagged, clamped or trapped as its action says. A granted mzero puts zero into every column of its rows. (R377, R378, R379, R382) -/
def Sys2Proof.Machine.claimMatrixStores : Prop :=
  (∀ (s s1 : State) (site n k : Nat) (x : MxCmd) (rest : List MxCmd) (b1 : Bound) (ys : List Nat),
    let q := (s.core site).mx
    let i := x.row0 + x.pos
    let b := q.bounds.getD x.pair Bound.reset
    let vals := (List.range 64).map (q.bankAt i)
    let ty := mxType x.desc
    let rs := ys.map (fun v => fpToFp (fmtOf (BitVec.ofNat 4 ty)) (BitVec.ofNat 3 x.rm) false (fp 10 (BitVec.ofNat 64 v)))
    let bytes := packRow (fmtWidth ty / 8) (rs.map (fun r => r.bits.toNat))
    let at_ := mxBase x.desc + x.pos * mxPitch x.desc
    let flags := (rs.foldl (fun f r => f ||| r.flags) (BitVec.ofNat 5 q.flags)).toNat
    let noted (q0 : MxQueue) : MxQueue := { q0 with bounds := q0.bounds.set x.pair b1, flags := flags }
    let zeroed (q1 : MxQueue) : MxQueue := if x.zr then (List.range 64).foldl (fun q n => q.setBank i n 0) q1 else q1
    let after (q0 : MxQueue) : MxQueue := (zeroed (noted q0)).onHead (fun y => { y with pos := x.pos + 1, moved := 0 })
    s.works site = true → (s.core site).run = .running → q.fault = none → q.cmds = x :: rest → x.granted = true →
    x.stage = .running → x.kind = 2 → x.total = x.pos + (n + 1) →
    ((if x.be then boundRow b 0 vals else (b, .ok vals)) = (b1, .ok ys) →
      s.storeParts site x at_ bytes (partsOf at_ bytes.length) = .ok s1 0 →
      exec (.mxStoreExec site) s =
        .next (((s1.onCore site (fun c => { c with mx := after c.mx })).mxRows site x (x.pos + 1) n).mxComplete site)) ∧
    (boundRow b 0 vals = (b1, .error k) → x.be = true →
      exec (.mxStoreExec site) s = .next (((s.onCore site (fun c => { c with mx :=
        { c.mx with bounds := c.mx.bounds.set x.pair b1 } })).mxFail site ⟨cBOUND_TRAP, 0, x.pos, 2, i, k⟩).mxComplete site))) ∧
  (∀ (b : Bound) (v : Nat),
    let x := fp 10 (BitVec.ofNat 64 v)
    let low := x.isNaN = false ∧ (fp 10 (BitVec.ofNat 64 b.lo)).isNaN = false ∧ x.lt (fp 10 (BitVec.ofNat 64 b.lo)) = true
    let high := x.isNaN = false ∧ (fp 10 (BitVec.ofNat 64 b.hi)).isNaN = false ∧ (fp 10 (BitVec.ofNat 64 b.hi)).lt x = true
    let hit : Bound := { b with st := true, cnt := min (b.cnt + 1) (2 ^ 32 - 1) }
    (b.act = 0 ∨ (x.isNaN = false ∧ ¬ low ∧ ¬ high) → b.check v = (b, some v)) ∧
    (x.isNaN = true ∨ low ∨ high → (b.act = 1 → b.check v = (hit, some v)) ∧ (b.act = 3 → b.check v = (hit, none)) ∧
      (b.act = 2 → (x.isNaN = true ∨ low → b.check v = (hit, some b.lo)) ∧ (x.isNaN = false → ¬ low → b.check v = (hit, some b.hi))))) ∧
  ∀ (s : State) (site : Nat) (x : MxCmd) (rest : List MxCmd), (s.core site).mx.fault = none → (s.core site).mx.cmds = x :: rest →
    x.granted = true → x.stage = .running → x.kind = 3 → s.works site = true → (s.core site).run = .running →
    (s.core site).mx.bankWf →
    ∃ t, exec (.mxStoreExec site) s = .next t ∧ (t.core site).mx.cmds = rest ∧
      ∀ r n, n < 64 → (t.core site).mx.bankAt r n =
        if x.row0 ≤ r ∧ r < x.row0 + x.count then 0 else (s.core site).mx.bankAt r n

/-- Matrix loads, tiles and stores move and multiply the elements of their rules. (R365, R375, R376, R377, R378, R379, R380, R382) -/
def Obligations.MatrixWork : Prop :=
  claimMatrixLoads ∧ claimMatrixTiles ∧ claimMatrixStores

/-- msave with an image address that the checks let through and no unit in the array writes the image with what the fetch unit has read, ends the unit's pins and empties the queue and its pocket, and waits while a unit is in the array or a sector is on its way; mrest with an empty queue and an image that describes one (logs 21, 94) restores it; mstat writes the field that it selects, a waiting one reporting a standing fault or waiting for the queue to empty; minj arms an injection, at most four, the rest counted; bndset and bndread, with no mstore left, set a pair with its status clear, and read a pair or its status. (R379, R381, R383, R384, R385) -/
def Sys2Proof.Machine.claimMatrixState : Prop :=
  ∀ (s : State) (d a : GOp) (sel4 : BitVec 4) (sel3 : BitVec 3) (j act : BitVec 2) (row col : BitVec 6) (blk : BitVec 3) (p : BitVec 6)
      (q : MxQueue) (site sel : Nat) (g : GOp),
    let c := s.core s.cur
    let t := s.begun
    let v := c.rg .A a
    let m := c.mx
    let res (x : Nat) : State := (t.result s.cur d (BitVec.ofNat 64 x)).ended s.cur 12
    (c.Clear { uses := [rd .A a] } →
      (imageCheck c.xbAddr v.toInt = none → c.localBusy v.toInt 83456 = false →
        (m.inArray = false → t.mxArriving s.cur = false → exec (.msave a) s = .next ((((t.unpinTile s.cur).onCore s.cur (fun k => { k.writeImage v.toNat with
          mx := { (k.writeImage v.toNat).mx with cmds := [], fault := none, rep := false, pocket := [] } })).returnLeave s.cur 3).ended
            s.cur 12)) ∧
        (m.inArray = true ∨ t.mxArriving s.cur = true → exec (.msave a) s = .next (t.held_ s s.cur .save)) ∧
        (m.cmds = [] → c.flips = [] → m.ofImage (memSlice c.loc v.toNat 83456) = some q →
          exec (.mrest a) s = .next ((t.onCore s.cur (fun k => k.adopt q)).ended s.cur 12))) ∧
      (m.storing = false → exec (.bndset a j act) s = .next ((t.onCore s.cur (fun k => { k with mx := { k.mx with
        bounds := k.mx.bounds.set j.toNat ⟨v.toNat % 2 ^ 32, v.toNat / 2 ^ 32, act.toNat, false, 0⟩ } })).ended s.cur 12)) ∧
      (m.storing = true → exec (.bndset a j act) s = .next (t.held_ s s.cur .busy))) ∧
    (c.Clear { uses := [wr .D d] } →
      (sel4.toNat < 8 → exec (.mstat d sel4) s = .next (res (m.field sel4.toNat))) ∧
      (8 ≤ sel4.toNat →
        (∀ f, m.fault = some f → exec (.mstat d sel4) s =
          .next ((t.onCore s.cur (fun k => { k with mx := { k.mx with rep := true } })).trapped s s.cur f.report)) ∧
        (m.fault = none → m.cmds = [] → exec (.mstat d sel4) s = .next (res (m.field (sel4.toNat - 8)))) ∧
        (m.fault = none → m.cmds ≠ [] → exec (.mstat d sel4) s = .next (t.held_ s s.cur (.mstat d sel4.toNat)))) ∧
      (m.storing = false → exec (.bndread d sel3) s =
        .next (let b := m.bounds.getD (sel3.toNat % 4) ⟨0, 0, 0, false, 0⟩
          res (if sel3.toNat < 4 then b.hi * 2 ^ 32 + b.lo else (if b.st then 2 ^ 63 else 0) + b.act * 2 ^ 32 + b.cnt)))) ∧
    (1 ≤ c.mode → exec (.minj row col blk p) s = .next (s.finishAt s.cur 12 { c.tickShadows with mx :=
      if m.inj.length < 4 then { m with inj := m.inj ++ [⟨row.toNat, col.toNat, blk.toNat, p.toNat⟩] }
      else { m with injDrop := min (m.injDrop + 1) 255 } })) ∧
    ((s.core site).run = .running → (s.core site).wait = .mstat g sel → 8 ≤ sel → (s.core site).mx.fault = none →
      (s.core site).mx.cmds = [] → exec (.mstatWaitComplete site) s =
        .next (((s.begunAt site).result site g (BitVec.ofNat 64 ((s.core site).mx.field (sel - 8)))).ended site 12))

/-- Matrix commands are queued, arbitrated, saved, restored and read out. (R361, R365, R366, R367, R373, R377, R379, R381, R382, R383, R384, R385) -/
def Obligations.MatrixCommands : Prop :=
  claimMatrixIssues ∧ claimMatrixArbiter ∧ claimMatrixState

/-- tlbinv in M mode of its own core drops the entries that overlap the range and nothing else, of the package starts a shootdown of the range and waits for its round; rlbinv of an owner below 2^20 drops that owner's entries, or with 0 every entry, or starts a round and waits; an owner of 2^20 or more traps with OWNER_INVALID; below M mode both trap with PRIVILEGE. (R408, R409, R410) -/
def Sys2Proof.Machine.claimMaintenanceResult : Prop :=
  ∀ (s : State) (scope : BitVec 3) (a b : GOp),
    let c := s.core s.cur
    let t := s.begun
    let lo := (c.rg .A a).toNat
    let n := (c.rg .B b).toNat
    (c.Clear { mode := 3, uses := [rd .A a, rd .B b] } → (∀ id, c.wait ≠ .round id) →
      (scope = 0 → exec (.tlbinv scope a b) s =
        .next ((t.onCore s.cur (fun k => { k with tlb := k.tlb.filter (fun e => !e.overlaps lo n) })).ended s.cur 12)) ∧
      (scope ≠ 0 → ∃ u id, exec (.tlbinv scope a b) s = .next u ∧ (u.core s.cur).wait = .round id ∧
        tabGet? u.rounds id = some ⟨.shoot lo n, s.cur, s.time⟩ ∧ (u.core s.cur).pc = c.pc)) ∧
    (c.Clear { mode := 3, uses := [rd .A a] } → (∀ id, c.wait ≠ .round id) →
      (2 ^ 20 ≤ lo → exec (.rlbinv scope a) s = .next (t.trapped s s.cur ⟨cOWNER_INVALID, c.rg .A a⟩)) ∧
      (lo < 2 ^ 20 → scope = 0 → exec (.rlbinv scope a) s =
        .next ((t.onCore s.cur (fun k => { k with rlb := k.rlb.filter (fun e => !(lo == 0 || e.owner == lo)) })).ended s.cur 12)) ∧
      (lo < 2 ^ 20 → scope ≠ 0 → ∃ u id, exec (.rlbinv scope a) s = .next u ∧ (u.core s.cur).wait = .round id ∧
        tabGet? u.rounds id = some ⟨.rlb lo, s.cur, s.time⟩)) ∧
    (c.mode < 3 →
      exec (.tlbinv scope a b) s = .next (s.trapAt s.cur c ⟨cPRIVILEGE, 0⟩) ∧
      exec (.rlbinv scope a) s = .next (s.trapAt s.cur c ⟨cPRIVILEGE, 0⟩))

/-- l1wb and l1inv above U mode: a length above 2^32 traps with RANGE_BAD; an empty range completes at once; of a range in one page of type C they send, from every sector of it that the table lists, the owner token home when the cluster holds it, or every token, and complete when there was none, else wait for those messages; a waiting core with nothing left of its range goes on when every message that it sent has arrived, as the event that ends its wait does. What a slice sends names its tokens and its home. (R408) -/
def Sys2Proof.Machine.claimLineMaintenance : Prop :=
  (∀ (i : Instr) (inv : Bool) (s s1 s2 : State) (a b : GOp) (e : TlbEntry) (ids sent : List Nat),
    let c := s.core s.cur
    let t := s.begun
    let va := (c.rg .A a).toNat
    let n := (c.rg .B b).toNat
    (i = .l1wb a b ∧ inv = false) ∨ (i = .l1inv a b ∧ inv = true) → c.Clear { mode := 1, uses := [rd .A a, rd .B b] } →
    (∀ (at_ left : Nat) (inv' : Bool), c.wait = .tokens ids at_ left inv' →
      ((∀ k ∈ ids, tabGet? s.msgs k = none) → left = 0 → exec i s = .next (t.ended s.cur 12)) ∧
      ((∃ k ∈ ids, tabGet? s.msgs k ≠ none) →
        exec i s = .next (t.held_ s s.cur (.tokens (ids.filter (fun k => (tabGet? s.msgs k).isSome)) at_ left inv')))) ∧
    ((∀ ids at_ left inv', c.wait ≠ .tokens ids at_ left inv') → c.computePhase = false →
      (2 ^ 32 < n → exec i s = .next (t.trapped s s.cur ⟨cRANGE_BAD, c.rg .B b⟩)) ∧
      (n = 0 → exec i s = .next (t.ended s.cur 12)) ∧
      (0 < n → n ≤ 65536 - va % 65536 → t.translate s.cur va = (s1, .leaf e) → pteType e.pte = 0 →
        s1.maintSectors s.cur inv (s1.listedSectors (e.pa va) n) = (s2, sent) →
        (sent = [] → exec i s = .next (s2.ended s.cur 12)) ∧
        (sent ≠ [] → exec i s = .next (s2.held_ s s.cur (.tokens sent 0 0 inv)))))) ∧
  (∀ (s : State) (site k : Nat) (inv : Bool),
    let home := agentHome (homeDie (64 * k))
    let h := s.sliceHolding site k
    (h.count = 0 → s.maintMove site k inv = none) ∧
    (h.count ≠ 0 → inv = true → s.maintMove site k inv = some ⟨h.agent, home, h.count, h.owner, h.owner⟩) ∧
    (h.count ≠ 0 → inv = false → s.maintMove site k inv = if h.owner then some ⟨h.agent, home, 1, true, true⟩ else none)) ∧
  ∀ (s : State) (site at_ : Nat) (ids : List Nat) (inv : Bool), (s.core site).run = .running → (s.core site).wait = .tokens ids at_ 0 inv →
    (∀ k ∈ ids, tabGet? s.msgs k = none) → exec (.l1wbComplete site) s = .next ((s.begunAt site).ended site 12)

/-- Rounds and maintenance drop or return exactly what they name, and their cores go on when it is done. (R249, R273, R281, R408, R409, R410) -/
def Obligations.CachesMaintained : Prop :=
  claimRoundsComplete ∧ claimMaintenanceResult ∧ claimLineMaintenance

/-- Above U mode: errlog 0 appends a record of severity 0, unit 12, with the cause and the address given; errlog 1 on an aligned readable word flips the bits of the mask in it and in its record of flips, but in a superstep that a rolled back gang runs again changes nothing (log 93); snapctl 0 writes whether PREEMPT is pending and taken; snapctl 1 with none taken writes 0, and with one taken and nothing in flight stops the core for it with its destination kept; with work in flight it waits. (R399, R411, R412) -/
def Sys2Proof.Machine.claimErrlogAndSnapctl : Prop :=
  ∀ (s : State) (d a b : GOp) (op : BitVec 1),
    let c := s.core s.cur
    let t := s.begun
    let at_ := (c.rg .A a).toInt
    (c.Clear { mode := 1, uses := [rd .A a, rd .B b] } →
      (op = 0 → exec (.errlog a b op) s =
        .next ((t.logFor (siteDie s.cur) s.cur ⟨0, 12, (c.rg .B b).toNat % 2 ^ 9, c.rg .A a⟩).ended s.cur 12)) ∧
      (op = 1 → inBounds c at_ 8 → c.localBusy at_ 8 = false → t.rerun s.cur = true → exec (.errlog a b op) s = .next (t.ended s.cur 12)) ∧
      (op = 1 → inBounds c at_ 8 → c.localBusy at_ 8 = false → t.rerun s.cur = false → c.loc.wf = true → ∃ u, exec (.errlog a b op) s = .next u ∧
        s.sameBut u s.cur ∧
        let e := u.core s.cur
        memRead64 e.loc at_.toNat = memRead64 c.loc at_.toNat ^^^ c.rg .B b ∧
        (∀ x, x < at_.toNat ∨ at_.toNat + 8 ≤ x → e.byte x = c.byte x) ∧ e.sp = c.sp)) ∧
    (c.Clear { mode := 1, uses := [wr .D d] } →
      (op = 0 → exec (.snapctl d op) s = .next ((t.result s.cur d
        (BitVec.ofNat 64 ((if c.preempt then 1 else 0) + (if c.taken then 2 else 0)))).ended s.cur 12)) ∧
      (op = 1 → c.taken = false → exec (.snapctl d op) s = .next ((t.result s.cur d 0).ended s.cur 12)) ∧
      (op = 1 → c.taken = true → c.settledWork = true → s.mxArriving s.cur = false → ∃ u, exec (.snapctl d op) s = .next u ∧
        (u.core s.cur).run = .stopped ∧ (u.core s.cur).stop = some ⟨cPREEMPT, false, false, false, s.time, some d⟩ ∧
        (u.core s.cur).preempt = false ∧ (u.core s.cur).taken = false) ∧
      (op = 1 → c.taken = true → c.settledWork = false ∨ s.mxArriving s.cur = true → exec (.snapctl d op) s = .next (t.held_ s s.cur .ack)))

/-- A core with PREEMPT pending and not taken that runs outside a delay slot, a repetition, an exchange phase and a wait that an interrupt does not end, with interrupts on and no shadow open, takes it as a trap of cause PREEMPT with s.eval 0 at the instruction that has not completed; one not acknowledged for 100,000 ticks outside M mode is marked to be quiesced; a core marked so is stopped for its reason once nothing that defers it is left. (R52, R390, R401, R402) -/
def Sys2Proof.Machine.claimPreemptionEvents : Prop :=
  ∀ (s : State) (site reason : Nat),
    let c := s.core site
    s.works site = true →
    (c.mayInterrupt = true → c.formed = false → c.held.length < 3 → c.sp.wp ≠ c.sp.twp → c.wait ≠ .wfi → ∃ u, exec (.preemptInterrupt site) s = .next u ∧
      let e := u.core site
      e.taken = true ∧ e.sp.cause = BitVec.ofNat 64 cPREEMPT ∧ e.sp.eval = 0 ∧ e.sp.epc.toNat = c.pc.toNat ∧
      e.sp.epsw.toNat % 8 = c.sp.psw.toNat % 8 ∧ e.sp.psw.getLsbD 2 = false ∧ (∀ n, n ≠ site → u.core n = s.core n)) ∧
    (c.mayInterrupt = false → exec (.preemptInterrupt site) s = .next s) ∧
    (c.preempt = true → c.run = .running → c.mode ≠ 3 → c.preemptAt + 100000 ≤ s.time → c.halt = none → ∃ u,
      exec (.preemptTimeout site) s = .next u ∧ (u.core site).halt = some cPREEMPT) ∧
    (s.time < c.preemptAt + 100000 ∨ c.mode = 3 ∨ c.preempt = false → exec (.preemptTimeout site) s = .next s) ∧
    (c.halt = some reason → s.mayQuiesce site = true → ∃ u, exec (.quiesce site reason) s = .next u ∧
      (u.core site).run = .stopped ∧ (u.core site).halt = none ∧ (u.core site).tlb = [] ∧ (u.core site).rlb = [] ∧
      (u.core site).stop = some ⟨reason, true, c.sp.psw.getLsbD 4 && c.run == .running, c.run == .idle, s.time, none⟩) ∧
    (c.halt ≠ some reason ∨ s.mayQuiesce site = false → exec (.quiesce site reason) s = .next s)

/-- errlog, snapctl and the pre-emption events log, read, stop and quiesce by their rules. (R52, R390, R399, R401, R402, R411, R412) -/
def Obligations.ErrorsAndPreemption : Prop :=
  claimErrlogAndSnapctl ∧ claimPreemptionEvents

/-- All the tokens of a sector that stand with its agents (12 R284). -/
def Sys2Proof.Machine.Sector.total (x : Sector) : Nat := x.home + (x.held.map (fun h => h.count)).sum

/-- All the tokens of a sector, those that travel included (12 R284). -/
def Sys2Proof.Machine.State.tokens (s : State) (k : Nat) : Nat :=
  (s.sector k).total + ((s.msgs.filter (fun p => p.2.sector == k)).map (fun p => p.2.count)).sum

/-- Each agent but the home stands once among the holders. -/
def Sys2Proof.Machine.Sector.listed (home : Nat) (x : Sector) : Prop :=
  (x.held.map (fun h => h.agent)).Nodup ∧ ∀ h ∈ x.held, h.agent ≠ home

/-- The copy of a sector at its home has no error, of HBM or of its swatch. -/
def Sys2Proof.Machine.State.errorFree (s : State) (k : Nat) : Bool :=
  let c := (s.die (homeDie (128 * lineOf k))).l2
  (tabGet? s.hbmErr k).isNone &&
    (c.swatchOf (lineOf k)).all (fun w => ((tabGet? c.swatches w).bind (fun x => x.err)).isNone)

/-- A sector is reset in one state exactly when it is in the other. -/
def Sys2Proof.Machine.State.sameResets (s t : State) (k : Nat) : Prop := (t.sector k).resetting = (s.sector k).resetting

/-- The tables are in order: their keys rise, and every sector lists each of its holders once. -/
structure Sys2Proof.Machine.State.TokensListed (s : State) : Prop where
  msgs : rising s.msgs
  sectors : rising s.sectors
  holders : ∀ j, (s.sector j).listed (agentHome (homeDie (64 * j)))

/-- What a holder does before it sends an answer: the home settles the host's copy, which it drops before the owner token leaves it
(18 R451). -/
def Sys2Proof.Machine.State.hostSettled (s : State) (k holder target : Nat) (write : Bool) (who : Asker) (m : TokMove) : State :=
  if holder = agentHome (homeDie (64 * k)) then s.settleHost (s.ownKey (64 * k)) (64 * k) target (write || m.owner) who else s

/-- A move of no more tokens than its source holds leaves the number of tokens of the sector as it was and every holder listed once. The tokens of every sector, those that travel included, are as many after as before: when a message with tokens of a sector that is not being reset is received, when a holder, the home among them, answers a transient request, when an agent receives an activation, when an access obtains its tokens or must wait for them, and when l1wb or l1inv sends tokens home; but for a sector whose reset an error begins there. A message received, with room in the slice that it goes to, by an agent that keeps it gives that agent its tokens; one for another agent travels on; one of a sector that is being reset is dropped. (R284, R285, R288, R290, R292, R308, R408) -/
def Obligations.TokensConserved : Prop :=
  (∀ (x : Sector) (home : Nat) (m : TokMove), x.listed home → m.count ≤ (x.holding home m.src).count →
    (x.move home m).total = x.total ∧ (x.move home m).listed home) ∧
  (∀ (s : State) (j : Nat), s.TokensListed →
    (∀ t i m, tabGet? s.msgs i = some m → (s.sector m.sector).resetting = false → exec (.tokenReceipt i) s = .next t →
      t.tokens j = s.tokens j) ∧
    (∀ t i holder, exec (.transientRequest i holder) s = .next t → s.sameResets t j → t.tokens j = s.tokens j) ∧
    (∀ t k agent, exec (.persistentActivation k agent) s = .next t → s.sameResets t j → t.tokens j = s.tokens j) ∧
    (∀ t key pa a write who n, s.obtain key pa a write who = .ok t n ∨ s.obtain key pa a write who = .wait t → s.sameResets t j →
      t.tokens j = s.tokens j) ∧
    (∀ t site inv ks ids, s.maintSectors site inv ks = (t, ids) → t.tokens j = s.tokens j)) ∧
  ∀ (s : State) (i : Nat) (m : Msg), rising s.msgs → tabGet? s.msgs i = some m →
    let k := m.sector
    let home := agentHome (homeDie (64 * k))
    let u : State := { s with msgs := tabDel s.msgs i }
    ((s.sector k).resetting = true → exec (.tokenReceipt i) s = .next u) ∧
    ((s.sector k).resetting = false → m.owner = false ∨ m.target ≠ home ∨ u.cramped (lineOf k) true = false →
      (u.makeSlot m.target (lineOf k) m.who).isSome = true →
      (u.receiver m ≠ m.target → exec (.tokenReceipt i) s =
        .next { u with msgs := tabSet u.msgs (tabFree u.msgs) { m with target := u.receiver m, src := m.target } }) ∧
      (u.receiver m = m.target → (s.sector k).listed home → rising s.sectors → ∃ t, exec (.tokenReceipt i) s = .next t ∧
        let h := (s.sector k).holding home m.target
        let g := (t.sector k).holding home m.target
        g.count = h.count + m.count ∧ (m.owner = true → g.owner = true)))

/-- A holder without a token drops a request; the owner's holder sends a reader the data and a token, the owner token when it has no other, and a remote-data cache up to 16 tokens and never the owner token; any holder sends a writer all its tokens; another holder ignores a reader. A cluster's read of another die's line goes to its remote-data cache, which answers with two tokens, sends it on with one, and asks for 16 with none. A request reaches the home, which answers, keeps its hint for it, turns it away, or lets it wait, and the holders that the hint names, each once; a footprint pin lets it go by, and one of a tile fetch lets it wait. An unsatisfied one fails after 512 cycles and is counted, and is issued again unless it was its third failure or 4,096 cycles have passed; after three failures or 4,096 cycles it stands last in the table of the home, once for its miss handler. (R287, R288, R289, R291, R293, R295, R442) -/
def Sys2Proof.Machine.claimTransientRequests : Prop :=
  (∀ (x : Sector) (home holder target : Nat) (write many : Bool), let h := x.holding home holder
    (h.count = 0 → x.answer home holder target write many = none) ∧
    (h.count ≠ 0 → write = true → x.answer home holder target write many = some ⟨holder, target, h.count, h.owner, h.owner⟩) ∧
    (h.count ≠ 0 → write = false → h.owner = true → many = false →
      x.answer home holder target write many = some ⟨holder, target, 1, h.count == 1, true⟩) ∧
    (h.count ≠ 0 → write = false → h.owner = true → many = true → x.answer home holder target write many =
      if 2 ≤ h.count then some ⟨holder, target, min 16 (h.count - 1), false, true⟩ else none) ∧
    (h.count ≠ 0 → write = false → h.owner = false → x.answer home holder target write many = none)) ∧
  ∀ (s : State) (i holder : Nat) (r : TReq), tabGet? s.reqs i = some r →
    let k := r.sector
    let home := agentHome (homeDie (64 * k))
    let rdc := agentRdc (agentDie r.agent)
    let x := s.sector k
    let seen (y : TReq) : State := { s.splitFor k holder with reqs := tabSet s.reqs i y }
    let passed : TReq := { r with done := holder :: r.done }
    let athome : TReq := { passed with atHome := true, owner := x.hintOwner, dies := x.hintDies }
    let gives (y : TReq) (m : TokMove) : State := (seen y).hostSettled k holder r.agent r.write r.who m
    let served (y : TReq) : State := match x.answer home holder r.agent r.write r.many with
      | some m => (gives y m).sendTok k r.agent r.who m
      | none => seen y
    let now := s.agentClock r.agent
    let again (y : TReq) : TReq :=
      if r.fails < 2 ∧ now < r.first + 4096 then { y with atHome := false, direct := false, done := [] } else y
    (holder = r.agent ∨ x.resetting = true ∨ holder ∈ r.done → exec (.transientRequest i holder) s = .next s) ∧
    (holder ≠ r.agent → x.resetting = false → holder ∉ r.done →
      (r.viaRdc home = true →
        (holder ≠ rdc → exec (.transientRequest i holder) s = .next s) ∧
        (holder = rdc → 2 ≤ (x.holding home rdc).count →
          exec (.transientRequest i holder) s = .next (s.sendTok k r.agent r.who ⟨rdc, r.agent, 1, false, true⟩)) ∧
        (holder = rdc → (x.holding home rdc).count = 1 →
          exec (.transientRequest i holder) s = .next { s with reqs := tabSet s.reqs i { r with direct := true } }) ∧
        (holder = rdc → (x.holding home rdc).count = 0 →
          exec (.transientRequest i holder) s = .next (s.addReq k rdc false r.who true))) ∧
      (r.viaRdc home = false → holder ≠ home →
        (r.forwardedTo x home holder = false → exec (.transientRequest i holder) s = .next s) ∧
        (r.forwardedTo x home holder = true → s.pinned k holder true = true → exec (.transientRequest i holder) s = .next s) ∧
        (r.forwardedTo x home holder = true → s.pinned k holder true = false → s.pinned k holder false = true →
          exec (.transientRequest i holder) s = .next (seen passed)) ∧
        (r.forwardedTo x home holder = true → s.pinned k holder false = false →
          exec (.transientRequest i holder) s = .next (served passed))) ∧
      (r.viaRdc home = false → holder = home →
        (s.heldUp (64 * k) r.agent r.who = true → exec (.transientRequest i holder) s = .next s) ∧
        (s.heldUp (64 * k) r.agent r.who = false → s.turnsAway (64 * k) r.agent r.who = true →
          exec (.transientRequest i holder) s = .next { s with reqs := tabDel s.reqs i }) ∧
        (s.heldUp (64 * k) r.agent r.who = false → s.turnsAway (64 * k) r.agent r.who = false → s.pinned k holder false = false →
          (∀ m, x.answer home holder r.agent r.write r.many = some m → m.data = true → (gives athome m).errorFree k = true) →
          exec (.transientRequest i holder) s = .next (served athome)))) ∧
    (s.lacks r = true → r.since + 512 ≤ now → r.fails < 3 → exec (.transientRequestFail i) s = .next (({ s with
      reqs := tabSet s.reqs i (again { r with fails := r.fails + 1, since := now }) } : State).countAsker r.who 10)) ∧
    (s.lacks r = false ∨ now < r.since + 512 ∨ 3 ≤ r.fails → exec (.transientRequestFail i) s = .next s) ∧
    (s.refuses (64 * k) = true → exec (.persistentRequest i) s = .next { s with reqs := tabDel s.reqs i }) ∧
    (s.refuses (64 * k) = false →
      (s.lacks r = true → 3 ≤ r.fails ∨ r.first + 4096 ≤ now → (∀ p ∈ x.fifo, p.agent ≠ r.agent ∨ p.who ≠ r.who) → ∃ t,
        exec (.persistentRequest i) s = .next t ∧ t.sector k = { x with fifo := x.fifo ++ [⟨r.agent, r.write, r.who, false⟩] } ∧
        t.msgs = s.msgs ∧ t.mem = s.mem) ∧
      (s.lacks r = false ∨ (r.fails < 3 ∧ now < r.first + 4096) ∨ (∃ p ∈ x.fifo, p.agent = r.agent ∧ p.who = r.who) →
        exec (.persistentRequest i) s = .next s))

/-- While the request at the head of a sector's table is not served and no message brings a reader its tokens, an agent without a pin that defers it, other than the requester, and the home unless a bias flip or an incoming frame holds the request up, splits the region that it holds in bulk and sends what it owes the requester, or, for a remote-data cache that must not have the owner token, the cluster that it serves; the head is removed once it has been served or its access has gone, and not before. (R292, R293, R295) -/
def Sys2Proof.Machine.claimPersistentRequests : Prop :=
  ∀ (s : State) (k agent : Nat) (p : PReq) (rest : List PReq),
    let x := s.sector k
    let home := agentHome (homeDie (64 * k))
    let h := x.holding home agent
    let coming : Prop := p.write = false ∧ ∃ m ∈ s.msgs, m.2.sector = k ∧ m.2.target = p.agent
    let target := if agentKind p.agent = 3 ∧ h.owner = true ∧ h.count = 1 then s.readerFor k p.agent p.who else p.agent
    x.fifo = p :: rest →
    (p.served = false → x.resetting = false → ¬ coming → agent ≠ p.agent → s.pinned k agent true = false →
      agent ≠ home ∨ s.heldUp (64 * k) p.agent p.who = false →
      (∀ m, x.answer home agent target p.write (agentKind p.agent == 3 && target == p.agent) = some m →
        let u := (s.splitFor k agent).hostSettled k agent target p.write p.who m
        (agent = home → m.data = true → u.errorFree k = true) →
        exec (.persistentActivation k agent) s = .next (u.sendTok k target p.who m)) ∧
      (x.answer home agent target p.write (agentKind p.agent == 3 && target == p.agent) = none →
        exec (.persistentActivation k agent) s = .next (s.splitFor k agent))) ∧
    (agent = home → s.heldUp (64 * k) p.agent p.who = true → exec (.persistentActivation k agent) s = .next s) ∧
    (p.served = true ∨ x.resetting = true ∨ coming ∨ agent = p.agent ∨ s.pinned k agent true = true →
      exec (.persistentActivation k agent) s = .next s) ∧
    (p.served = false → s.gone k p = false → exec (.persistentDeactivation k) s = .next s) ∧
    (p.served = true ∨ s.gone k p = true → ∃ t, exec (.persistentDeactivation k) s = .next t ∧ t.sector k = { x with fifo := rest } ∧
      (∀ j, j ≠ k → t.sector j = s.sector j) ∧ t.mem = s.mem ∧ t.msgs = s.msgs)

/-- A hint update sets the owner hint of its sector and adds the die of that owner; two idle halves whose cluster holds what one mode needs of every sector, of that mode or of one line, merge into a piece of that mode, idle as long as the later of them, and others do not; a sector reset takes every token and pin away and keeps its unit, and its end gives 1,024 fresh tokens to the home, drops the sector's messages, poisons it and logs it for that unit; a line without an error is filled from HBM under its key slot; clearing the statistics of a die clears its three counters and nothing else. (R287, R298, R301, R307, R308) -/
def Sys2Proof.Machine.claimCoherenceBookkeeping : Prop :=
  ∀ (s : State) (i k die cluster base size : Nat) (h : Hint) (x y : Region),
    (tabGet? s.hints i = some h → ∃ t, exec (.hintUpdate i) s = .next t ∧ t.hints = tabDel s.hints i ∧ t.mem = s.mem ∧
      (t.sector h.sector).hintOwner = h.owner ∧ agentDie h.owner ∈ (t.sector h.sector).hintDies ∧
      (∀ d, d ≠ agentDie h.owner → (d ∈ (t.sector h.sector).hintDies ↔ d ∈ (s.sector h.sector).hintDies)) ∧
      (∀ j, j ≠ h.sector → t.sector j = s.sector j)) ∧
    (let now := s.clusterCyc cluster
     let may (e : Bool) : Prop :=
       (x.excl = e ∨ size ≤ 2) ∧ (y.excl = e ∨ size ≤ 2) ∧ ∀ j < 2 * size, s.holdsBulk cluster e (base + j) = true
     cluster < 512 → s.regions.find? (fun r => r.cluster == cluster && r.base == base && r.size == size) = some x →
      s.regions.find? (fun r => r.cluster == cluster && r.base == base + size && r.size == size) = some y →
      (base % (2 * size) = 0 → 2 * size ≤ 1024 → x.since + 16384 ≤ now → y.since + 16384 ≤ now →
        ∀ e, may e → (e = false → ¬ may true) →
          let whole : Region := { x with size := 2 * size, excl := e, since := max x.since y.since }
          exec (.regionMerge cluster base size) s = .next { s with regions := whole :: s.regions.filter (fun r => r != x && r != y) }) ∧
      (base % (2 * size) ≠ 0 ∨ 1024 < 2 * size ∨ now < x.since + 16384 ∨ now < y.since + 16384 ∨ (¬ may true ∧ ¬ may false) →
        exec (.regionMerge cluster base size) s = .next s)) ∧
    (s.backed (64 * k) 64 = true → (s.sector k).resetting = false → ∃ t, exec (.sectorReset k) s = .next t ∧
      t.sector k = { s.sector k with resetting := true, unit := 7, home := 0, homeOwner := false, held := [] } ∧
      (∀ p ∈ t.pins, p.sector ≠ k) ∧ t.mem = s.mem) ∧
    ((s.sector k).resetting = true →
      let fresh : Sector := { s.sector k with resetting := false, poison := true, home := 1024, homeOwner := true, held := [],
                                              hintOwner := agentHome (homeDie (64 * k)), hintDies := [] }
      exec (.sectorResetEnd k) s = .next (({ s.putSector k fresh with
        msgs := s.msgs.filter (fun p => p.2.sector != k), hbmErr := tabDel s.hbmErr k } : State).logRecord (homeDie (64 * k))
          ⟨2, (s.sector k).unit, cUNCORRECTABLE, BitVec.ofNat 64 (64 * k)⟩ 0 none 0)) ∧
    (s.backed (128 * k) 128 = true → s.errorFree (2 * k) = true → s.errorFree (2 * k + 1) = true →
      exec (.hbmFill k) s = .next (s.fillLine (s.sector (2 * k)).slot k)) ∧
    (die < 4 → exec (.l2StatClear die) s =
      .next (s.putDie die { s.die die with l2 := { (s.die die).l2 with hhit := 0, hmis := 0, rcov := 0 } }))

/-- Transient and persistent requests move tokens, and sectors are reset, merged and filled. (R287, R288, R289, R291, R292, R293, R295, R298, R301, R307, R308, R442) -/
def Obligations.CoherenceRequests : Prop :=
  claimTransientRequests ∧ claimPersistentRequests ∧ claimCoherenceBookkeeping

/-- A command of sch.cmd in progress that names a device is performed by the event of its operation: enabling a device whose descriptor has V clear is refused with BAD clear; a disable of a device that is not enabled, and a removal from a free slot, complete with REFUSED clear; an install into a used slot or of a malformed reservation is refused and BAD, one that would load a region beyond 64,225 is refused naming the region and the sum; otherwise the device is enabled or the reservation installed, with what follows placed, and a command that must wait, as for a descriptor that delivers no data, stays in progress. An event whose operation, device or slot is not the command's changes nothing. (Which account is charged is log 30, the waiting command logs 56 and 95, a refused enable log 57.) (R413, R415, R416, R417) -/
def Sys2Proof.Machine.claimSchedulerCommands : Prop :=
  ∀ (s : State) (c vd slot : Nat), s.hub.schCmd = some c → c % 64 = vd → c / 2 ^ 8 % 4 = slot →
    let t : State := { s with hub := { s.hub with schCmd := none } }
    let r := t.readDesc vd
    let beyond (x : Reservation) : Option Nat :=
      ((List.range 64).filter (fun g => x.mask.testBit g)).find? (fun g => decide (64225 < r.utilization g + x.util))
    (s.descSound vd = false → exec (.vdEnable vd) s = .next s ∧ exec (.vdDisable vd) s = .next s ∧
      exec (.reservationInstall vd slot) s = .next s ∧ exec (.reservationRemove vd slot) s = .next s) ∧
    (s.descSound vd = true → c / 2 ^ 10 = 0 →
      (r.descWord vd 0 % 2 = 0 → exec (.vdEnable vd) s = .next (t.schStat true false s.hub.schRegion s.hub.schSum)) ∧
      (r.descWord vd 0 % 2 = 1 → exec (.vdEnable vd) s = .next (s.scheduled
        ((r.putVdev vd { r.vdev vd with enabled := true }).schOk.watchAll vd (List.range 8))))) ∧
    (s.descSound vd = true → c / 2 ^ 10 = 1 →
      ((s.vdev vd).enabled = false → exec (.vdDisable vd) s = .next t.schOk) ∧
      ((s.vdev vd).enabled = true → exec (.vdDisable vd) s = .next (s.scheduled (.ok ((List.range 64).foldl (fun u g =>
          (u.deviceSites vd g).foldl (fun u n => u.haltCore n cPREEMPT) u)
        (r.putVdev vd { r.vdev vd with
          enabled := false, rings := (r.vdev vd).rings.map (fun p => (p.1, { p.2 with watched := false })) }).schOk) 0)))) ∧
    (s.descSound vd = true → c / 2 ^ 10 = 2 →
      ((tabGet? (s.vdev vd).slots slot).isSome = true ∨ reservationOf ((r.vdev vd).desc.drop (48 + 4 * slot)) s.time = none →
        exec (.reservationInstall vd slot) s = .next (r.schStat true true s.hub.schRegion s.hub.schSum)) ∧
      ∀ x, tabGet? (s.vdev vd).slots slot = none → reservationOf ((r.vdev vd).desc.drop (48 + 4 * slot)) s.time = some x →
        (∀ g, beyond x = some g → exec (.reservationInstall vd slot) s =
          .next (r.schStat true false g (min (r.utilization g + x.util) 65535))) ∧
        (beyond x = none → exec (.reservationInstall vd slot) s =
          let u := r.putVdev vd { r.vdev vd with slots := tabSet (r.vdev vd).slots slot x }
          .next (s.scheduled (.ok (u.writeOwn (u.reservationWord vd slot) 8 (x.util * 2 ^ 16 + 1)).schOk 0)))) ∧
    (s.descSound vd = true → c / 2 ^ 10 = 3 →
      (tabGet? (s.vdev vd).slots slot = none → exec (.reservationRemove vd slot) s = .next r.schOk) ∧
      ∀ x, tabGet? (s.vdev vd).slots slot = some x → exec (.reservationRemove vd slot) s =
        let u := r.putVdev vd { r.vdev vd with slots := tabDel (r.vdev vd).slots slot }
        let v := (u.writeOwn (u.reservationWord vd slot) 8 (x.util * 2 ^ 16)).schOk
        .next (s.scheduled (.ok (((List.range 64).filter (fun g => x.mask.testBit g && (v.reservations vd g).isEmpty)).foldl
          (fun u g => (u.deviceSites vd g).foldl (fun u n => u.haltCore n cPREEMPT) u) v) 0))) ∧
    (c / 2 ^ 10 ≠ 0 → exec (.vdEnable vd) s = .next s) ∧ (c / 2 ^ 10 ≠ 1 → exec (.vdDisable vd) s = .next s) ∧
    (c / 2 ^ 10 ≠ 2 → exec (.reservationInstall vd slot) s = .next s) ∧
    (c / 2 ^ 10 ≠ 3 → exec (.reservationRemove vd slot) s = .next s) ∧
    (∀ v, v ≠ vd → exec (.vdEnable v) s = .next s ∧ exec (.vdDisable v) s = .next s) ∧
    ∀ v k, v ≠ vd ∨ k ≠ slot → exec (.reservationInstall v k) s = .next s ∧ exec (.reservationRemove v k) s = .next s

/-- Four words give a reservation exactly when the mask is not 0, the period is 1 to 10,000,000, the budget 1 to the period and the reserved bits are zero; it then has the utilization, the budget times 65,536 over the period rounded up and saturated at 65,535, starts at the µs of its installation, and has its whole budget and no debt in every region of its mask. A renewed account has its budget less its debt, and the rest of the debt; time that passes while its device holds the region is taken from the remaining budget, and what it lacks becomes debt. (R416, R417, R418) -/
def Sys2Proof.Machine.claimReservationsWellFormed : Prop :=
  (∀ (a b c d now : Nat), a < 2 ^ 64 → b < 2 ^ 64 → c < 2 ^ 64 → d < 2 ^ 64 →
    let period := b / 2 ^ 32
    let budget := b % 2 ^ 32
    ((reservationOf [a, b, c, d] now).isSome = true ↔
      a ≠ 0 ∧ 1 ≤ period ∧ period ≤ 10000000 ∧ 1 ≤ budget ∧ budget ≤ period ∧ c / 2 ^ 32 = 0 ∧ c / 2 % 2 ^ 15 = 0 ∧ d = 0) ∧
    ∀ x, reservationOf [a, b, c, d] now = some x → x.mask = a ∧ x.period = period ∧ x.budget = budget ∧
      (65536 * budget ≤ 65535 * period → period * x.util < 65536 * budget + period ∧ 65536 * budget ≤ period * x.util) ∧
      (65535 * period < 65536 * budget → x.util = 65535) ∧ x.start ≤ now ∧ now < x.start + 1000 ∧ x.start % 1000 = 0 ∧
      ∀ g < 64, a.testBit g = true → x.account g = ⟨1000 * budget, 0⟩) ∧
  (∀ (y : Account) (budget : Nat), (y.renew budget).remaining + min y.debt budget = budget ∧ (y.renew budget).debt + min y.debt budget = y.debt) ∧
  ∀ (s : State) (v g slot dt : Nat) (x : Reservation), s.budgetOn v g = some (slot, x) →
    let y := tabGet ((s.chargeRegion v g dt).vdev v).slots slot x
    (y.account g).remaining = (x.account g).remaining - dt ∧ (y.account g).debt = (x.account g).debt + (dt - (x.account g).remaining) ∧
    ∀ n, n ≠ v → (s.chargeRegion v g dt).vdev n = s.vdev n

/-- The device chosen for a region is enabled, has demand (log 104) and remaining budget there, and no other such device has an earlier deadline, nor the same one with a lower number; none is chosen only when there is no such device. The choice is granted a region that no device holds, or whose holder has no core there. (The deadline and the budget of a device with several reservations are log 30.) (R419) -/
def Obligations.EarliestDeadlineFirst : Prop :=
  ∀ (s : State) (r : Nat),
    let may (v : Nat) (x : VDev) : Prop := (v, x) ∈ s.vds ∧ x.enabled = true ∧ s.demand v r = true
    rising s.vds →
    (∀ v, s.choice r = some v → (∃ x k y, may v x ∧ s.budgetOn v r = some (k, y) ∧
      ∀ w z i u, may w z → s.budgetOn w r = some (i, u) → y.deadline ≤ u.deadline ∧ (u.deadline = y.deadline → v ≤ w)) ∧
      (tabGet? s.holders r = none ∨ (∃ h, tabGet? s.holders r = some h ∧ h ≠ v ∧ s.deviceSites h r = []) →
        s.regrant r = { s with holders := tabSet s.holders r v })) ∧
    (s.choice r = none ↔ ∀ v x, may v x → s.budgetOn v r = none)

/-- At or after the deadline of an installed reservation its period starts where the last one ended, with every account renewed, and before it nothing changes; when a reservation's remaining budget on a region that its device holds is 0, and no other reservation of the device has budget there, the device's cores in the region are marked to be quiesced with BUDGET_END, and otherwise nothing changes. (R418, R419) -/
def Sys2Proof.Machine.claimPeriodsAndBudgets : Prop :=
  ∀ (s : State) (vd slot region : Nat) (x : Reservation), tabGet? (s.vdev vd).slots slot = some x →
    (s.time < x.deadline → exec (.reservationPeriodStart vd slot) s = .next s) ∧
    (x.deadline ≤ s.time → exec (.reservationPeriodStart vd slot) s =
      let y : Reservation :=
        { x with start := x.start + 1000 * x.period, accounts := x.accounts.map (fun p => (p.1, p.2.renew (1000 * x.budget))) }
      .next (s.scheduled (.ok (s.putVdev vd { s.vdev vd with slots := tabSet (s.vdev vd).slots slot y }) 0))) ∧
    (x.mask.testBit region = true → (x.account region).remaining = 0 → s.budgetOn vd region = none →
      tabGet? s.holders region = some vd → exec (.budgetExhausted vd slot region) s =
        .next (s.scheduled (.ok ((s.deviceSites vd region).foldl (fun t n => t.haltCore n cBUDGET_END) s) 0))) ∧
    (x.mask.testBit region = false ∨ (x.account region).remaining ≠ 0 ∨ s.budgetOn vd region ≠ none ∨
      tabGet? s.holders region ≠ some vd → exec (.budgetExhausted vd slot region) s = .next s)

/-- Scheduler commands admit well-formed reservations within the limit, and their periods renew budgets. (R413, R415, R416, R417, R418, R419) -/
def Obligations.SchedulerAndReservations : Prop :=
  claimSchedulerCommands ∧ claimReservationsWellFormed ∧ claimPeriodsAndBudgets

/-- A record has no broken field exactly when it meets the rules of its table, and so has an image header; the status entry holds the cause, the state, PVAL, the age up to 15 and the region in its first word, then the predicate, the value and the time of an ended launch. (R423, R424, R425) -/
def Sys2Proof.Machine.claimLaunchesJudged : Prop :=
  (∀ (l : Launch), (recordFailure l = none ↔
    l.word 0 % 64 = 0 ∧ 1 ≤ l.nlen ∧ l.nlen ≤ 4096 ∧ l.field 13 15 = 0 ∧ 1 ≤ l.clustersOf ∧ l.clustersOf ≤ 8 ∧ 1 ≤ l.coresOf ∧
    l.coresOf ≤ 8 ∧ (l.rb = true → l.ssm = true) ∧ l.field 44 4 = 0 ∧ (l.link = 0 → l.parts = 0) ∧
    (l.link ≠ 0 → 2 ≤ l.parts ∧ l.parts ≤ 8) ∧ l.word 3 % 64 = 0 ∧ l.word 4 % 64 = 0 ∧ l.word 5 % 64 = 0 ∧ l.word 6 % 8 = 0 ∧
    l.word 7 % 64 = 0 ∧ (l.word 7 = 0 ↔ l.ssm = false))) ∧
  (∀ (l : Launch),
    let w (i : Nat) : Nat := l.header.getD i 0
    let top := min 253952 (262144 - 8 * l.wsz)
    (headerFailure l = none ↔ w 0 / 2 ^ 18 = 0 ∧ w 1 % 2 ^ 63 / 2 ^ 18 = 0 ∧ 64 ≤ l.wsz ∧ l.wsz ≤ 2040 ∧ l.wsz % 8 = 0 ∧ l.xb % 64 = 0 ∧
      w 4 = 0 ∧ w 5 = 0 ∧ w 6 = 0 ∧ w 7 = 0 ∧ l.entry % 4 = 0 ∧ l.entry < l.xb ∧
      (l.hv = true → l.handler % 4 = 0 ∧ l.handler < l.xb) ∧ l.xb ≤ 64 * l.nlen ∧
      64 * l.nlen + 64 * max (l.wsz / 8) 41 ≤ top)) ∧
  ∀ (l : Launch) (time : Nat), l.state < 8 → time < 2 ^ 64 →
    let n := l.statusWord time
    n % 2 ^ 9 = l.cause % 2 ^ 9 ∧ n / 2 ^ 9 % 8 = l.state ∧ n.testBit 12 = l.pval ∧ n / 2 ^ 13 % 8 = 0 ∧ n / 2 ^ 16 % 16 = min l.age 15 ∧
    n / 2 ^ 20 % 64 = l.region % 64 ∧ n / 2 ^ 26 % 2 ^ 38 = 0 ∧ n / 2 ^ 64 % 2 ^ 64 = l.pred % 2 ^ 64 ∧
    n / 2 ^ 128 % 2 ^ 64 = l.value % 2 ^ 64 ∧ n / 2 ^ 192 = (if 4 ≤ l.state then time else 0)

/-- The launches of a list, in its order, have read the dependencies that name a signal, and those that had their last one satisfied their
predicate (17 R426). -/
def Sys2Proof.Machine.advancesAll (a : Nat) : State → List Nat → State → Prop
  | s, [], u => u = s
  | s, i :: t, u => ∃ l s1 n, tabGet? s.launches i = some l ∧
      s.advanceLaunch i ([0, 1].filter (fun k => l.word (3 + k) == a)) = .ok s1 n ∧ advancesAll a s1 t u

/-- A tail change of a watched ring of an enabled device is read, after those of rings that changed before, and a ring that is not watched takes no record; a dependency line that changes is read again for every waiting launch of the device that depends on the same signal, in taking order; a counter of 0 or below satisfies it, and a satisfied one is not read again; a placed launch without a live thread or a fault completes with state 4; with a fault it ends with state 7, the cause and the value once no core of it runs in M mode, in a repetition or with work in flight, and until then its running cores are marked to stop; other launches are left alone. (The types of memory of a dependency are log 31, the end by a fault log 87.) (R421, R426, R432, R433) -/
def Sys2Proof.Machine.claimLaunchEvents : Prop :=
  ∀ (s : State) (vd q id d : Nat),
    ((s.vdev vd).enabled = true → (vd, q) ∉ s.hub.tails ∨ s.hub.tails.head? = some (vd, q) →
      exec (.ringTailChange vd q) s = .next (s.scheduled (s.readTail vd q))) ∧
    ((s.vdev vd).enabled = false ∨ ((vd, q) ∈ s.hub.tails ∧ s.hub.tails.head? ≠ some (vd, q)) →
      exec (.ringTailChange vd q) s = .next s) ∧
    (∀ r, tabGet? (s.vdev vd).rings q = some r → r.watched = false → s.readTail vd q = .ok s 0) ∧
    (∀ l u, d < 2 → tabGet? s.launches id = some l →
      let a := l.word (3 + d)
      advancesAll a s ((s.launches.filter (fun p => p.2.vd == l.vd && p.2.state == 1 && (p.2.word 3 == a || p.2.word 4 == a))).map
        (fun p => p.1)) u →
      exec (.dependencySatisfied id d) s = .next (s.scheduled (.ok u 0))) ∧
    (∀ l s1 v, tabGet? s.launches id = some l → l.state = 1 →
      let a := l.word (3 + d)
      let satisfied (t : State) : State :=
        t.onLaunch id (fun l => if d = 0 then { l with dep0 := true } else { l with dep1 := true })
      ((if d = 0 then l.dep0 else l.dep1) = true → s.readDep id d = .ok s 0) ∧
      ((if d = 0 then l.dep0 else l.dep1) = false →
        (a = 0 → s.readDep id d = .ok (satisfied s) 0) ∧
        (a ≠ 0 → s.schedAcc signalTypes l.agent a 8 .load [rR] false = .ok s1 v →
          s.readDep id d = .ok (if (BitVec.ofNat 64 v).toInt ≤ 0 then satisfied s1 else s1) 0))) ∧
    (∀ l, tabGet? s.launches id = some l →
      (l.state = 3 → l.live = [] → l.failed = none → exec (.launchComplete id) s =
        .next (s.scheduled ((s.endLaunch id 4 0 0).andThen fun t _ => .ok (t.endGang l.gang) 0))) ∧
      (l.state ≠ 3 ∨ l.live ≠ [] ∨ l.failed ≠ none → exec (.launchComplete id) s = .next s) ∧
      (∀ cause value, l.state = 3 → l.failed = some (cause, value) →
        ((∀ n ∈ l.clusters.flatMap s.clusterCores, (s.core n).lingers = false) ∨ tabGet? s.holders l.region ≠ some l.vd →
          exec (.launchFaultEnd id) s = .next (s.scheduled
            (((s.abandon l).endLaunch id 7 cause value).andThen fun t _ => .ok (t.endGang l.gang) 0))) ∧
        (∀ n ∈ l.clusters.flatMap s.clusterCores, (s.core n).lingers = true → tabGet? s.holders l.region = some l.vd → ∃ u,
          exec (.launchFaultEnd id) s = .next u ∧ u.launches = s.launches ∧ u.mem = s.mem ∧
          ∀ i ∈ l.clusters.flatMap s.clusterCores, (s.core i).run = .running → (s.core i).halt = none → (u.core i).halt = some cPREEMPT)) ∧
      (l.state ≠ 3 ∨ l.failed = none → exec (.launchFaultEnd id) s = .next s))

/-- Launch records are judged field by field, and launches wait, complete or end by fault. (R421, R423, R424, R425, R426, R432, R433) -/
def Obligations.Launches : Prop :=
  claimLaunchesJudged ∧ claimLaunchEvents

/-- A host access to a backed sector waits while no port reaches the host, while the budget of host DMA is spent, and while a flip that has not finished the sector, a migration or a reset holds it; to a granule that is not exposed it is only logged; else in host bias a read recalls the owner token and records S, and a read for ownership collects every token and records X; in device bias, and during a flip, both collect a token with data and record no copy; a write collects every token unless the host state is X and stores the bytes of its mask (log 12). Else it leaves a request. A snoop of a type-H line takes it, or its exclusivity, from every slice, and leaves other lines. (R362, R451, R453, R455) -/
def Sys2Proof.Machine.claimHostAccesses : Prop :=
  (∀ (s s1 : State) (k v : Nat) (data : BitVec 512) (mask : BitVec 64), s.backed (64 * k) 64 = true →
    let key := s.ownKey (64 * k)
    let home := agentHome (homeDie (64 * k))
    let die := homeDie (64 * k)
    let t := s.charge die 5
    let x := s.sector k
    (s.hostLink = false ∨ s.homeBusy k .host = true ∨ s.mayCharge die 5 = false →
      exec (.hostRead k) s = .next s ∧ exec (.hostReadOwn k) s = .next s ∧ exec (.hostWrite k data mask) s = .next s) ∧
    (s.hostLink = true → s.homeBusy k .host = false → s.mayCharge die 5 = true →
      (s.exposed (64 * k) = false →
        let u := t.logRecord die ⟨0, 9, 0, BitVec.ofNat 64 (64 * k)⟩ 0 none 0
        exec (.hostRead k) s = .next u ∧ exec (.hostReadOwn k) s = .next u ∧ exec (.hostWrite k data mask) s = .next u) ∧
      (s.exposed (64 * k) = true →
        (s.underHost k = false →
          (t.homeObtain k false .host = .ok s1 v → exec (.hostRead k) s = .next s1 ∧ exec (.hostReadOwn k) s = .next s1) ∧
          (t.homeObtain k false .host = .wait s1 → exec (.hostRead k) s = .next s1 ∧ exec (.hostReadOwn k) s = .next s1)) ∧
        (s.underHost k = true →
          (t.recallOwner k = none → exec (.hostRead k) s = .next (t.addReq k home false .host false)) ∧
          (t.recallOwner k = some s1 → s1.errorFree k = true → (s1.sector k).resetting = false →
            exec (.hostRead k) s = .next (if (s1.sector k).host = .x then s1 else s1.setHost k .s)) ∧
          (x.host = .x → exec (.hostReadOwn k) s = .next t) ∧
          (x.host ≠ .x → t.homeObtain k true .host = .ok s1 v → ∃ u, exec (.hostReadOwn k) s = .next u ∧
            (u.sector k).host = .x ∧ tabGet? u.hostCache k = some (s1.readOwn (64 * k) 64)) ∧
          (x.host ≠ .x → t.homeObtain k true .host = .wait s1 → exec (.hostReadOwn k) s = .next s1)) ∧
        (let put (y : State) : State :=
           let w := maskBytes (y.readOwn (64 * k) 64) data.toNat mask.toNat
           let u := (y.homeWrite key (64 * k) 64 w).healed k (if mask = BitVec.allOnes 64 then 64 else 0)
           if (u.sector k).host = .x then { u with hostCache := tabSet u.hostCache k w } else u
         (x.host = .x → exec (.hostWrite k data mask) s = .next (put t)) ∧
         (x.host ≠ .x → t.homeObtain k true .host = .ok s1 v → exec (.hostWrite k data mask) s = .next (put s1)) ∧
         (x.host ≠ .x → t.homeObtain k true .host = .wait s1 → exec (.hostWrite k data mask) s = .next s1))))) ∧
  (∀ (old new mask i : Nat), i < 64 → maskBytes old new mask / 256 ^ i % 256 =
    if mask.testBit i then new / 256 ^ i % 256 else old / 256 ^ i % 256) ∧
  ∀ (s : State) (line : Nat) (excl : Bool), rising s.hostLines → s.hostLink = true → ∃ u, exec (.hostSnoop line excl) s = .next u ∧
    (∀ h, tabGet? s.hostLines line = some h → tabGet? u.hostLines line = if excl then none else some { h with excl := false }) ∧
    (tabGet? s.hostLines line = none → u = s) ∧ (∀ n, n ≠ line → tabGet? u.hostLines n = tabGet? s.hostLines n)

/-- A peer's access of 1, 2, 4 or 8 aligned bytes, or a load or store of up to 64, of backed memory to an exposed granule that nothing holds up collects a token for a load, or every token, and performs at the home (log 12): a load changes nothing more, a store stores, an atomic stores its result and leaves a record with its function code, or its SUB, in ARG; poisoned data is given to none. A frame that migrates refuses it, unless its persistent request is the active one, a granule not exposed has it logged, an unaligned or unbacked address or a closed port changes nothing. A store of a whole sector to an incoming frame is the driving engine's copy and performs under the key slot of the new place, a poisoned one poisoning the sector (log 79). (R441, R442, R444, R449, R453, R458) -/
def Sys2Proof.Machine.claimPeerAccesses : Prop :=
  ∀ (s s1 : State) (port code n pa x : Nat) (v1 v2 : BitVec 512), code ≤ 14 →
    let bad := code = 14
    let op := if bad then 1 else code
    n = 1 ∨ n = 2 ∨ n = 4 ∨ n = 8 ∨ (op ≤ 1 ∧ (n = 16 ∨ n = 32 ∨ n = 64)) →
    let k := pa / 64
    let who := Asker.peer port
    let new := s.drives op n pa
    let key := new.getD (s.ownKey pa)
    let o := peerOp op (v1.toNat % 2 ^ (8 * n)) (v2.toNat % 2 ^ (8 * n))
    let run := exec (.peerAccess port code n pa v1 v2) s
    (new = if op = 1 ∧ n = 64 then tabGet? s.incomingFrames (pa / 65536) else none) ∧
    (s.portUp port = false ∨ s.backed pa n = false ∨ pa % n ≠ 0 → run = .next s) ∧
    (s.portUp port = true → s.backed pa n = true → pa % n = 0 →
      (s.turnsAway pa (agentHome (homeDie pa)) who = true → run = .next (s.peerRefused port)) ∧
      (s.turnsAway pa (agentHome (homeDie pa)) who = false →
        (new = none ∨ (s.sector k).resetting = true → s.homeBusy k who = true → run = .next s) ∧
        (new = none → s.homeBusy k who = false → s.exposed pa = false →
          run = .next (s.logRecord (homeDie pa) ⟨0, 9, 0, BitVec.ofNat 64 pa⟩ 0 none 0)) ∧
        ((new ≠ none ∧ (s.sector k).resetting = false) ∨ (s.homeBusy k who = false ∧ s.exposed pa = true) →
          (s.homeObtain k (op != 0) who = .wait s1 → run = .next s1) ∧
          (s.homeObtain k (op != 0) who = .ok s1 x →
            let after (v : Nat) : State := (s1.homeWrite key pa n v).healed k n
            ((s1.sector k).poison = true → op ≠ 1 → run = .next s1) ∧
            (op = 0 → run = .next s1) ∧
            (op = 1 → let u := after (v1.toNat % 2 ^ (8 * n))
              run = .next (if new ≠ none ∧ bad then u.putSector k { u.sector k with poison := true } else u)) ∧
            (2 ≤ op → (s1.sector k).poison = false → ∃ u e, run = .next (u.note [e]) ∧ e.pa = 64 * k ∧
              e.arg = (if op ≤ 10 then op - 2 + (if n = 4 then 16 else 0) else 2 * (op - 11) + (if n = 4 then 1 else 0)) ∧
              e.from_ = agentPeer port ∧ (o.result n (s1.readOwn pa n) = none → u = s1) ∧
              (∀ v, o.result n (s1.readOwn pa n) = some v → u = after v))))))

/-- With 8 flips in flight a command of hb.cmd is dropped and DROP set; before a table is given, or for an unbacked granule, or with bits that match, it completes (log 23); to-device of a granule in host bias, to-host of an exposed one in device bias, expose and withdraw of one in host bias start a flip, an expose setting EXP first, a withdraw in device bias clearing it. A flip to host goes on sector by sector and ends when every token of its 64 sectors stands at home, one to device when every host copy is back; a sector done that has lost this since is done again; HB of the granule is then written, and EXP cleared for a withdraw, the bits of every other granule kept where the table delivers data (logs 12, 95). Writing DROP clears it. (R452, R453) -/
def Obligations.BiasFlips : Prop :=
  (∀ (s : State) (g : Nat),
    let exp := s.exposed (g * 4096)
    let hb := s.hostBias (g * 4096)
    let fly (t : State) (f : Flip) : Out := .next { t with hub := { t.hub with flips := t.hub.flips ++ [f] } }
    let done (t : State) : Out := .next { t with hub := { t.hub with hbDone := t.hub.hbDone + 1 } }
    let drop : Out := .next { s with hub := { s.hub with hbDrop := true } }
    (8 ≤ s.hub.flips.length → exec (.biasToDevice g) s = drop ∧ exec (.biasToHost g) s = drop ∧ exec (.biasExpose g) s = drop ∧
      exec (.biasWithdraw g) s = drop) ∧
    (s.hub.flips.length < 8 → s.hub.hbSet = false ∨ s.backed (g * 4096) 4096 = false →
      exec (.biasToDevice g) s = done s ∧ exec (.biasToHost g) s = done s ∧ exec (.biasExpose g) s = done s ∧
      exec (.biasWithdraw g) s = done s) ∧
    (s.hub.flips.length < 8 → s.hub.hbSet = true → s.backed (g * 4096) 4096 = true →
      exec (.biasToDevice g) s = (if hb then fly s ⟨g, false, false, []⟩ else done s) ∧
      exec (.biasToHost g) s = (if exp && !hb then fly s ⟨g, true, false, []⟩ else done s) ∧
      (exp = true → exec (.biasExpose g) s = if hb then fly s ⟨g, false, false, []⟩ else done s) ∧
      (exp = false → exec (.biasExpose g) s = if hb then fly (s.putBias g true true) ⟨g, false, false, []⟩ else done (s.putBias g true false)) ∧
      exec (.biasWithdraw g) s = (if hb then fly s ⟨g, false, true, []⟩ else if exp then done (s.putBias g false false) else done s)) ∧
    (∀ f s1 ks, s.hub.flips.find? (fun x => x.gran == g) = some f →
      let who := Asker.unit (homeDie (4096 * g))
      let stands (k : Nat) : Bool := f.done.contains k && (if f.toHost then (s.sector k).home == 1024 else (s.sector k).host == .i)
      let left := (granSectors g).filter (fun k => !stands k)
      let ends (t : State) : Out :=
        let u := t.putBias g (t.exposed (g * 4096) && !f.withdraw) f.toHost
        .next { u with hub := { u.hub with flips := u.hub.flips.erase f, hbDone := u.hub.hbDone + 1 } }
      (f.toHost = true → s.recallAll who left = (s1, ks) →
        (ks.length < left.length → exec (.biasFlipComplete g) s = .next { s1 with hub := { s1.hub with
          flips := s1.hub.flips.map (fun x => if x = f then { f with done := (granSectors g).filter stands ++ ks } else x) } }) ∧
        (left.length ≤ ks.length → exec (.biasFlipComplete g) s = ends s1)) ∧
      (f.toHost = false → exec (.biasFlipComplete g) s = ends (left.foldl (fun t k => t.recallHost k who) s))) ∧
    (s.hub.flips.find? (fun x => x.gran == g) = none → exec (.biasFlipComplete g) s = .next s)) ∧
  (∀ (s : State) (g : Nat) (e h : Bool), s.mem.wf = true →
    let t := s.putBias g e h
    let bits (u : State) (n : Nat) : Nat := u.readOwn (s.biasByte n) 1 / 2 ^ (2 * (n % 4)) % 4
    let sec (n : Nat) : Nat := s.biasByte n / 64
    (t.sound (sec g) = true → bits t g = (if e then 1 else 0) + (if h then 2 else 0)) ∧
    ∀ n, n ≠ g → s.sound (sec n) = true → t.sound (sec n) = true →
      sec n = sec g ∨ (t.sector (sec n)).host = (s.sector (sec n)).host → bits t n = bits s n) ∧
  ∀ s : State, exec .hbStatClear s = .next { s with hub := { s.hub with hbDrop := false } }

/-- The oldest command of a die's migration engine is taken by its event: a start beyond 16 migrations is dropped and DROP set, one whose descriptor breaks the rules gets state 5 and ILLEGAL_FIELD, another enters phase 1 with the two frames, slots and address of its descriptor (log 12), of the persistent requests for the old frame only the active ones kept; a command whose descriptor delivers no data stands (log 95); a release of a moved or failed migration takes it off with state 7, and another release is ignored. STATUS holds the state and the cause, and states 4 to 7 are counted. DROP is cleared, and a frame of another device's migration is marked with its key slot and released. (R439, R440, R441, R444) -/
def Sys2Proof.Machine.claimMigrationCommands : Prop :=
  (∀ (s : State) (die desc : Nat) (rest : List Nat), die < 4 → desc % 64 = 0 →
    let t := s.putDie die { s.die die with migCmds := rest }
    let w (i : Nat) : Nat := t.readOwn (desc + 8 * i) 8
    ((s.die die).migCmds = desc :: rest →
      (s.backed desc 64 = true → s.sound (desc / 64) = false → exec (.migrationStart die desc) s = .next s) ∧
      (16 ≤ (s.die die).migs.length → s.backed desc 64 = false ∨ s.sound (desc / 64) = true → ∃ u, exec (.migrationStart die desc) s = .next u ∧ (u.die die).migDrop = true ∧
        (u.die die).migs = (s.die die).migs ∧ (u.die die).migCmds = rest) ∧
      ((s.die die).migs.length < 16 → t.backed desc 64 = false → exec (.migrationStart die desc) s = .next t) ∧
      ((s.die die).migs.length < 16 → t.backed desc 64 = true → s.sound (desc / 64) = true →
        (t.migBad die desc = true → exec (.migrationStart die desc) s = .next (t.migStatus die desc 5 cILLEGAL_FIELD)) ∧
        (t.migBad die desc = false → exec (.migrationStart die desc) s =
          let m : Migration :=
            { desc := desc, old := w 1 / 65536, new := w 2 / 65536, oldKey := w 3 % 256, newKey := w 3 / 256 % 256, va := w 0,
              xdev := (w 3).testBit 16, state := 1, round := none, copied := false }
          let v : State := { t with sectors := t.sectors.map (fun p =>
            if p.1 / 1024 = m.old then (p.1, { p.2 with fifo := p.2.fifo.take 1 }) else p) }
          .next ((v.putDie die { t.die die with migs := (t.die die).migs ++ [m] }).migStatus die desc 1 0)))) ∧
    ((s.die die).migCmds = (desc + 1) :: rest → s.backed desc 64 = true → s.sound (desc / 64) = false →
      exec (.migrationRelease die desc) s = .next s) ∧
    ((s.die die).migCmds = (desc + 1) :: rest → s.backed desc 64 = false ∨ s.sound (desc / 64) = true →
      (∀ m, (s.die die).migs.find? (fun m => m.desc == desc) = some m → m.state = 4 ∨ m.state = 6 →
        exec (.migrationRelease die desc) s =
          .next ((t.putDie die { t.die die with migs := (t.die die).migs.erase m }).migStatus die desc 7 0)) ∧
      ((∀ m ∈ (s.die die).migs, m.desc = desc → m.state ≠ 4 ∧ m.state ≠ 6) → exec (.migrationRelease die desc) s = .next t)) ∧
    ((s.die die).migCmds.head? ≠ some desc → exec (.migrationStart die desc) s = .next s) ∧
    ((s.die die).migCmds.head? ≠ some (desc + 1) → exec (.migrationRelease die desc) s = .next s)) ∧
  (∀ (s : State) (die desc state cause : Nat), s.mem.wf = true → state < 8 → cause < 512 → desc % 64 = 0 →
    let u := s.migStatus die desc state cause
    (u.sound (desc / 64) = true → u.readOwn (desc + 32) 8 = cause * 2 ^ 8 + state) ∧
    (u.die die).migDone = (s.die die).migDone + (if 4 ≤ state then 1 else 0) ∧ (u.die die).migs = (s.die die).migs) ∧
  ∀ (s : State) (die frame mark : Nat),
    let f := mark / 256
    (die < 4 → exec (.migStatClear die) s = .next (s.putDie die { s.die die with migDrop := false })) ∧
    exec (.migrationIncomingMark mark) s = .next (if s.frameBacked f = true ∧ tabGet? s.incomingFrames f = none then
      { s with incomingFrames := tabSet s.incomingFrames f (mark % 256) } else s) ∧
    exec (.migrationIncomingRelease frame) s = .next { s with incomingFrames := tabDel s.incomingFrames frame }

/-- In phase 1 every host copy and token of the page's 1,024 sectors is recalled to the home, and the event waits while one is missing; then phase 2 begins, and within its budget, once the tokens of a new frame of the module have come home as well, the errors of the old frame are met and each sector is copied under the new slot; an uncorrectable error met stops the migration with state 6 and UNCORRECTABLE, a target device that refuses with state 6 and REMOTE_ABORT (log 80). After the copy the switch starts a shootdown of the page's 64 KiB in state 3, and once that has ended the migration is moved, state 4. A sector copied within the device reads under the new slot as the old one did under the old, poison with it. (R441, R444) -/
def Sys2Proof.Machine.claimMigrationPhases : Prop :=
  (∀ (s s1 : State) (die desc : Nat) (m : Migration) (home : List Nat), die < 4 →
    (s.die die).migs.find? (fun m => m.desc == desc) = some m →
    let ks := (List.range 1024).map (fun i => 1024 * m.old + i)
    let ns := (List.range 1024).map (fun i => 1024 * m.new + i)
    let put (t : State) (x y : Migration) : State :=
      t.putDie die { t.die die with migs := (t.die die).migs.map (fun z => if z = x then y else z) }
    let failed (t : State) (x : Migration) (cause : Nat) : State := (put t x { x with state := 6 }).migStatus die x.desc 6 cause
    let begun : Migration := { m with state := 2 }
    (m.state = 1 → s.recallAll (.unit die) ks = (s1, home) →
      ((∃ k ∈ ks, (s1.sector k).resetting = true) → exec (.migrationCopy die desc) s = .next (failed s1 m cUNCORRECTABLE)) ∧
      ((∀ k ∈ ks, (s1.sector k).resetting = false) → home.length < 1024 → exec (.migrationCopy die desc) s = .next s1) ∧
      ((∀ k ∈ ks, (s1.sector k).resetting = false) → 1024 ≤ home.length → exec (.migrationCopy die desc) s =
        .next (((put s1 m begun).migStatus die desc 2 0).migWrite die begun))) ∧
    (m.state = 2 → m.copied = false → exec (.migrationCopy die desc) s = .next (s.migWrite die m)) ∧
    (m.state ≠ 1 → m.state ≠ 2 ∨ m.copied = true → exec (.migrationCopy die desc) s = .next s) ∧
    (let copy (t : State) : State :=
       let u := ks.foldl (fun u k => (u.meetHbm k).1) (t.charge die 4)
       if ks.any (fun k => (u.sector k).resetting) then failed u m cUNCORRECTABLE
       else put (ks.foldl (fun u k => u.migSector m k) u) m { m with copied := true }
     let w := s.window (65536 * m.new)
     (s.mayCharge die 4 = false → s.migWrite die m = s) ∧
     (s.mayCharge die 4 = true → m.xdev = false → s.recallAll (.unit die) ns = (s1, home) →
       ((∃ k ∈ ns, (s1.sector k).resetting = true) → s.migWrite die m = failed s1 m cUNCORRECTABLE) ∧
       ((∀ k ∈ ns, (s1.sector k).resetting = false) → home.length < 1024 → s.migWrite die m = s1) ∧
       ((∀ k ∈ ns, (s1.sector k).resetting = false) → 1024 ≤ home.length → s.migWrite die m = copy s1)) ∧
     (s.mayCharge die 4 = true → m.xdev = true →
       (23 < w.port → s.migWrite die m = failed s m cREMOTE_ABORT) ∧
       (w.port ≤ 23 → s.targetAnswer w = .refuses → s.migWrite die m = failed (s.countWindow (65536 * m.new) false) m cREMOTE_ABORT) ∧
       (w.port ≤ 23 → s.targetAnswer w = .silent → s.migWrite die m = s) ∧
       (w.port ≤ 23 → s.targetAnswer w = .serves → s.migWrite die m = copy s))) ∧
    (m.state = 2 → m.copied = true → ∃ u id, s.startShoot (die * 1024) m.va 65536 false = (u, id) ∧
      exec (.migrationSwitch die desc) s = .next ((put u m { m with state := 3, round := some id }).migStatus die desc 3 0)) ∧
    (m.state ≠ 2 ∨ m.copied = false → exec (.migrationSwitch die desc) s = .next s) ∧
    (m.state = 3 → m.round = none → exec (.migrationMoved die desc) s =
      .next ((put s m { m with state := 4 }).migStatus die desc 4 0)) ∧
    (m.state ≠ 3 ∨ m.round ≠ none → exec (.migrationMoved die desc) s = .next s)) ∧
  ∀ (s : State) (m : Migration) (i : Nat), s.mem.wf = true → i < 1024 → m.xdev = false → m.newKey ≠ 0xFF →
    let k := 1024 * m.old + i
    let n := 1024 * m.new + i
    let t := s.migSector m k
    t.readPa m.newKey (64 * n) 64 = s.readPa m.oldKey (64 * k) 64 ∧ (t.sector n).poison = (s.sector k).poison

/-- Migration commands are taken or refused, and a page is recalled, copied, switched and moved. (R439, R440, R441, R444) -/
def Obligations.Migration : Prop :=
  claimMigrationCommands ∧ claimMigrationPhases

/-- When the oldest unanswered access of a working core is one that the core waits for in place, its time-out raises HOST_ABORT for host memory, or REMOTE_ABORT with TOUT of its window counted, with the address of the access, whether it performed or not, and its operation has then the effect on the target's memory that the event says; one that an engine waits for faults the engine's command; one of a posted store that its page's move sent there raises its cause where its core can take it, and stands until then (log 75); one nothing waits for is dropped. (R388, R450) -/
def Sys2Proof.Machine.claimFabricTimeouts : Prop :=
  ∀ (s : State) (site : Nat) (performed : Bool) (o : OutWait) (rest : List OutWait),
    let c := s.core site
    s.works site = true → c.out = o :: rest →
    let t := s.putCore site (c.outDone o.eng)
    let host := o.pa < 2 ^ 44
    let old := if host then memRead s.hostMem o.pa o.n else memRead s.extMem (t.target o.pa) o.n
    let hit (u : State) : Prop := match o.op.result o.n old with
      | some v => u = if performed then (if host then { t with hostMem := memWrite t.hostMem o.pa o.n v }
          else { t with extMem := memWrite t.extMem (t.target o.pa) o.n v }) else t
      | none => u = t
    let counted (u : State) : State := if host then u else u.countWindow o.pa true
    let cause := if host then cHOST_ABORT else cREMOTE_ABORT
    (o.eng = 5 → c.wait = .stall → ∃ u, hit u ∧ exec (.fabricTimeout site performed) s =
      .next ((counted u).trapAt site ((counted u).core site) ⟨cause, BitVec.ofNat 64 o.va⟩)) ∧
    (o.eng = 5 → c.wait ≠ .stall → exec (.fabricTimeout site performed) s = .next t) ∧
    (o.eng = 6 → c.posted = [] → exec (.fabricTimeout site performed) s = .next t) ∧
    (o.eng = 6 → c.posted ≠ [] → (t.core site).takesPosted = false → c.settling = false → exec (.fabricTimeout site performed) s = .next s) ∧
    (o.eng = 6 → c.posted ≠ [] → (t.core site).takesPosted = true ∨ c.settling = true →
      ∃ u, hit u ∧ exec (.fabricTimeout site performed) s = .next ((counted u).postedFails site o.va cause)) ∧
    (o.eng ≠ 5 → o.eng ≠ 6 → (c.eng o.eng).running = none → exec (.fabricTimeout site performed) s = .next t) ∧
    (∀ x, o.eng ≠ 5 → o.eng ≠ 6 → (c.eng o.eng).running = some x → ∃ u, hit u ∧ exec (.fabricTimeout site performed) s =
      .next ((counted u).engFail site o.eng cause (BitVec.ofNat 64 o.va) (nestIndex (nestCounts (wordsNum x.blk)) x.k) false))

/-- Host, peer and fabric accesses are answered by exposure, bias and availability. (R362, R388, R441, R442, R444, R449, R450, R451, R453, R455, R458) -/
def Obligations.HostAndFabric : Prop :=
  claimHostAccesses ∧ claimPeerAccesses ∧ claimFabricTimeouts

/-- A port trains to 64 GT/s with 256-byte flits or to 32 GT/s with 68-byte ones; one that would face a third host is held in link-down state; other combinations do not train. A resent flit or a retrained link leaves a record of severity 0, unit 9, in the log of a die, and changes nothing else but that log. (R405, R437, R447) -/
def Sys2Proof.Machine.claimLinksAndPorts : Prop :=
  ∀ (s : State) (port rate link : Nat) (flit256 host : Bool), port < 24 →
    let hosts := (s.ports.filter (fun p => p.1 != port && p.2.host && !p.2.down)).length
    (rate = 2 ∧ flit256 = true ∨ rate = 1 ∧ flit256 = false → ∃ u, exec (.linkTrain port rate flit256 host) s = .next u ∧
      tabGet? u.ports port = some (if host = true ∧ 2 ≤ hosts then ⟨0, false, true, true⟩ else ⟨rate, flit256, host, false⟩) ∧
      ∀ n, n ≠ port → rising s.ports → tabGet? u.ports n = tabGet? s.ports n) ∧
    (¬ (rate = 2 ∧ flit256 = true ∨ rate = 1 ∧ flit256 = false) → exec (.linkTrain port rate flit256 host) s = .next s) ∧
    (link < 34 → ∃ die a, die < 4 ∧
      exec (.flitRetry link) s = .next (s.logRecord die ⟨0, 9, 0, a⟩ 0 none 0) ∧
      exec (.linkRetrain link) s = .next (s.logRecord die ⟨0, 9, 0, a⟩ 0 none 0)) ∧
    (34 ≤ link → exec (.flitRetry link) s = .next s ∧ exec (.linkRetrain link) s = .next s)

/-- A module that is down starts cold: after three failed starts it boots recovery, where that image verifies; else with a firmware image that does not verify it fails in step 4, and otherwise stands in step 4 with the first working site of each die knowing its own coordinates (its steps and a cold start from recovery: log 33). A packet from a site that knows its coordinates to a working neighbour that does not gives that neighbour its row and column in the mesh and its parent; other packets change nothing. When step 5 ends, sites not reached count as absent, and it fails for a die with fewer than 1,000 cores. (R464, R465, R467) -/
def Sys2Proof.Machine.claimColdStartAndDiscovery : Prop :=
  (∀ s : State,
    (s.started = true ∨ s.boot.going = true → exec .coldStart s = .next s) ∧
    (s.started = false → s.boot.going = false →
      (3 ≤ s.boot.flashFails → s.boot.recov = false → ∃ u, exec .coldStart s = .next u ∧ u.boot.recov = s.boot.verifies s.boot.recovery ∧
        u.boot.going = false ∧ u.boot.fails = s.boot.flashFails ∧ u.cores = []) ∧
      (s.boot.flashFails < 3 ∨ s.boot.recov = true → s.boot.verifies s.boot.firmware = false →
        exec .coldStart s = .next ((s.beginStart false).failStart 3 4 0 .image)) ∧
      (s.boot.flashFails < 3 ∨ s.boot.recov = true → s.boot.verifies s.boot.firmware = true →
        ∃ u, exec .coldStart s = .next u ∧ u.boot.step = 4 ∧ u.boot.going = true ∧
        u.boot.recov = false ∧ u.boot.warm = false ∧ u.mem = [] ∧ u.sectors = [] ∧ u.hub = State.reset.hub ∧
        ∀ die < 4, ∀ f, firstSite s.boot.fuses die = some f → tabGet? u.boot.found f = some (siteX f, siteY f, f)))) ∧
  (∀ (s : State) (src dst p : Nat), s.boot.going = true → s.boot.step = 4 → src < 4096 →
    tabGet? s.boot.found src = some (siteX src, siteY src, p) →
    ((neighbours src).contains dst = true → s.boot.fuses.contains dst = false → tabGet? s.boot.found dst = none →
      ∃ u, exec (.discoveryPacket src dst) s = .next u ∧ tabGet? u.boot.found dst = some (siteX dst, siteY dst, src) ∧
        (∀ n, n ≠ dst → tabGet? u.boot.found n = tabGet? s.boot.found n)) ∧
    ((neighbours src).contains dst = false ∨ s.boot.fuses.contains dst = true ∨ tabGet? s.boot.found dst ≠ none →
      exec (.discoveryPacket src dst) s = .next s)) ∧
  ∀ s : State, s.boot.going = true → s.boot.step = 4 →
    let absent := (List.range 4096).filter (fun t => !s.isFound t)
    let missing (d : Nat) : Nat := (absent.filter (fun t => t / 1024 == d)).length
    ((∀ d < 4, missing d ≤ 24) →
      exec (.startStepTimeout 5 0) s = .next { s with fused := absent, boot := { s.boot with step := 6, map := some absent } }) ∧
    (∀ d < 4, 24 < missing d → (∀ e < d, missing e ≤ 24) → exec (.startStepTimeout 5 0) s = .next (s.failStart 4 5 d .cores))

/-- In step 6, a working core without the image whose parent has it takes it: the core has its reset values, mode M, pc 0 and its counters, and its local bytes below 16 KiB are the image's; with the last core the start is complete and the count cleared; a wrong digest fails step 7 (log 33). A failed start raises the count, up to 255, keeps the failing step, its cause and the die, and from 3 on boots recovery where that image verifies, whose mailbox answers them with the start status; steps 1 to 4, 6 and 7 fail on their time-outs (log 33). (R464, R466, R467) -/
def Sys2Proof.Machine.claimImageAndStartsThatFail : Prop :=
  (∀ (s : State) (site : Nat), s.boot.going = true → s.boot.step = 6 → s.present site = true →
    s.boot.imaged.contains site = false → (s.parent site = site ∨ s.boot.imaged.contains (s.parent site) = true) →
    (exec (.bootImageHop site false) s = .next (s.failStart 6 7 (siteDie site) .digest)) ∧
    ∃ u, exec (.bootImageHop site true) s = .next u ∧
      let c := u.core site
      c.pc = 0 ∧ c.mode = 3 ∧ c.sp = (Core.reset (BitVec.ofNat 64 (siteSlot site * 256))).sp ∧ c.cnt = (s.core site).cnt ∧ c.flips = [] ∧
      (∀ a < 16384, memGet c.loc a = memGet s.boot.image a) ∧ (∀ a, 16384 ≤ a → memGet c.loc a = 0) ∧
      (s.boot.imaged.length + 1 + s.fused.length = 4096 → u.started = true ∨ s.boot.recov = true) ∧
      (s.boot.imaged.length + 1 + s.fused.length = 4096 → u.boot.flashFails = 0 ∧ u.boot.going = false ∧ u.boot.step = 7) ∧
      (s.boot.imaged.length + 1 + s.fused.length ≠ 4096 → u.boot = { s.boot with imaged := site :: s.boot.imaged })) ∧
  (∀ (s : State) (last step die : Nat) (why : StartFault),
    let u := s.failStart last step die why
    u.boot.going = false ∧ u.boot.flashFails = min (s.boot.flashFails + 1) 255 ∧ u.boot.failStep = step ∧ u.boot.failDie = die ∧ u.boot.failCause = why ∧
    (u.boot.recov = true ↔ 3 ≤ u.boot.flashFails ∧ s.boot.verifies s.boot.recovery = true) ∧
    u.boot.mailbox = (if u.boot.recov then some (step, why, die, u.boot.word) else none) ∧ u.cores = [] ∧ u.mem = [] ∧ u.boot.step = last) ∧
  ∀ (s : State) (step die : Nat), die < 4 →
    (s.boot.going = false → s.started = false → 1 ≤ step → step ≤ 4 →
      exec (.startStepTimeout step die) s = .next ((s.beginStart false).failStart (step - 1) step die .step)) ∧
    (s.boot.going = true → s.boot.step = 6 → s.boot.imaged = [] → (step = 6 ∨ (s.boot.warm = true ∧ 1 ≤ step ∧ step ≤ 4)) →
      exec (.startStepTimeout step die) s = .next (s.failStart (step - 1) step die .step)) ∧
    (s.boot.going = true → s.boot.step = 6 → exec (.startStepTimeout 7 die) s = .next (s.failStart 6 7 die .step)) ∧
    (s.started = true → s.boot.going = false → exec (.startStepTimeout step die) s = .next s)

/-- A warm start of a module that runs or is in recovery, once every sector carries the current epoch, its firmware image verified, keeps the device memory, the logical map of the last discovery, the time (log 4) and the training, and what else log 54 names, inverts the epoch, frees every key slot, puts the tokens at their homes and stands before step 7; an image that does not verify fails it in step 4, and with its kept state bad or lost it is a cold start. Old bytes then read as zero under every slot. A loss of power leaves the memories of the module empty, the flash's image, its signature index and its count (log 33: a start under way is not counted). (R467, R469, R470) -/
def Sys2Proof.Machine.claimWarmStartAndPowerLoss : Prop :=
  (∀ s : State, s.started = true ∨ s.boot.recov = true → s.boot.going = false → s.scrubDone = true →
    exec (.warmStart false) s = .next s.coldStart ∧ (s.boot.map = none → exec (.warmStart true) s = .next s.coldStart) ∧
    ∀ absent, s.boot.map = some absent →
    (s.boot.verifies s.boot.firmware = false → exec (.warmStart true) s = .next ((s.beginStart true).failStart 3 4 0 .image)) ∧
    (s.boot.verifies s.boot.firmware = true → ∃ u, exec (.warmStart true) s = .next u ∧ u.mem = s.mem ∧ u.pe = !s.pe ∧ u.fused = absent ∧ u.time = s.time ∧ u.ports = s.ports ∧
      u.hub.keySlots = [] ∧ u.boot.going = true ∧ u.boot.step = 6 ∧ u.boot.warm = true ∧ u.launches = [] ∧ u.vds = [] ∧
      (∀ k, tabGet? s.sectors k ≠ none → (u.sector k).home = 1024 ∧ (u.sector k).homeOwner = true ∧ (u.sector k).held = [] ∧
        (u.sector k).slot = (s.sector k).slot ∧ (u.sector k).poison = (s.sector k).poison) ∧
      ∀ k key, u.readPa key (64 * k) 64 = 0)) ∧
  (∀ (s : State) (ok : Bool), s.started = false → s.boot.recov = false → exec (.warmStart ok) s = .next s) ∧
  ∀ s : State, ∃ u, exec .powerLoss s = .next u ∧ u.started = false ∧ u.cores = [] ∧ u.mem = [] ∧ u.sectors = [] ∧ u.dies = [] ∧
    u.boot.image = s.boot.image ∧ u.boot.sigIndex = s.boot.sigIndex ∧
    u.boot.flashFails = s.boot.flashFails

/-- Cold and warm starts go through their steps, fail with a count, and reach every working core. (R464, R465, R466, R467, R469, R470) -/
def Obligations.Starts : Prop :=
  claimColdStartAndDiscovery ∧ claimImageAndStartsThatFail ∧ claimWarmStartAndPowerLoss

/-- The command of ks.cmd in progress ends with its event: assign makes a free slot below 255 active, discard makes an active one scrubbing, and in another state, or for slot 255, it is refused; no other slot changes, and an event of another slot changes nothing. A signed report advances the index of the flash; when it cannot be advanced nothing changes. (R468, R471) -/
def Sys2Proof.Machine.claimKeySlotsAndSignatures : Prop :=
  (∀ (s : State) (slot : Nat), slot < 256 →
    let st := tabGet s.hub.keySlots slot 0
    let ends (t : State) (refused : Bool) : Prop := t.hub.ksCmd = none ∧ t.hub.ksRefused = refused ∧
      (∀ n, n ≠ slot → tabGet t.hub.keySlots n 0 = tabGet s.hub.keySlots n 0) ∧ t.cores = s.cores ∧ t.mem = s.mem
    (s.hub.ksCmd = some slot →
      (slot ≠ 255 → st = 0 → ∃ u, exec (.keySlotAssign slot) s = .next u ∧ tabGet u.hub.keySlots slot 0 = 1 ∧ ends u false) ∧
      (slot = 255 ∨ st ≠ 0 → ∃ u, exec (.keySlotAssign slot) s = .next u ∧ tabGet u.hub.keySlots slot 0 = st ∧ ends u true)) ∧
    (s.hub.ksCmd = some (256 + slot) →
      (slot ≠ 255 → st = 1 → ∃ u, exec (.keySlotDiscard slot) s = .next u ∧ tabGet u.hub.keySlots slot 0 = 2 ∧ ends u false) ∧
      (slot = 255 ∨ st ≠ 1 → ∃ u, exec (.keySlotDiscard slot) s = .next u ∧ tabGet u.hub.keySlots slot 0 = st ∧ ends u true)) ∧
    (s.hub.ksCmd ≠ some slot → exec (.keySlotAssign slot) s = .next s) ∧
    (s.hub.ksCmd ≠ some (256 + slot) → exec (.keySlotDiscard slot) s = .next s)) ∧
  ∀ (s : State) (advanced : Bool), s.started = true →
    (advanced = true → s.boot.sigIndex < 2 ^ 20 → exec (.attestationSign advanced) s =
      .next { s with boot := { s.boot with sigIndex := s.boot.sigIndex + 1 } }) ∧
    (advanced = false ∨ 2 ^ 20 ≤ s.boot.sigIndex → exec (.attestationSign advanced) s = .next s)

/-- A write of an aligned address of the device windows writes the register there and changes nothing elsewhere. The registers of a die's uncore, the hub and a quadrant that are plainly writable read back the writable bits of what was written; own.lim takes 1 to 2^20, and 1 for another value; a quadrant's limit and classes take 16 bits. Windows past 20 read as zero and ignore writes. (R361, R389, R406, R448, R456, R472, R473) -/
def Sys2Proof.Machine.claimRegistersWrittenAndRead : Prop :=
  (∀ (s : State) (pa : Nat) (v : BitVec 64), pa / 2 ^ 40 = 1 → pa % 8 = 0 → exec (.registerWrite pa v) s = .next (s.devWrite pa v)) ∧
  (∀ (s : State) (pa : Nat) (v : BitVec 64), pa / 2 ^ 40 ≠ 1 ∨ pa % 8 ≠ 0 → exec (.registerWrite pa v) s = .next s) ∧
  (∀ (s : State) (d : Nat) (v : BitVec 64) (o : Nat) (mask : BitVec 64), d < 4 →
    (o, mask) ∈ [(0, 0x0000FFFFFFFFF000), (8, 0x0000FFFFFFFFFFF0), (0xC00, 0xFFFF), (0xC08, 0x3FFFC), (0xD00, 0x0000FFFFFFFFFFC0),
      (0xD08, 0x1F), (0x1408, 0xFFFFFFFFFFFFFFF8), (0x1410, 0x1FF), (0x1418, 0x0000FFFFFFFFFFC0), (0x1420, 0x0000FFFFFFFFFFC0)] →
    let pa := 2 ^ 40 + 65536 * (1 + 5 * d) + o
    (s.devWrite pa v).devRead pa = v &&& mask ∧ (s.devWrite pa v).cores = s.cores ∧ (s.devWrite pa v).mem = s.mem ∧
    ∀ e, e ≠ d → (s.devWrite pa v).die e = s.die e) ∧
  (∀ (s : State) (d : Nat) (v : BitVec 64), d < 4 →
    let pa := 2 ^ 40 + 65536 * (1 + 5 * d) + 16
    let n := v.toNat % 2 ^ 21
    (s.devWrite pa v).devRead pa = if 1 ≤ n ∧ n ≤ 2 ^ 20 then BitVec.ofNat 64 n else 1) ∧
  (∀ (s : State) (v : BitVec 64) (o : Nat) (mask : BitVec 64),
    (o, mask) ∈ [(0xE00, 0x0000FFFFFFFFFE00), (0x1800, 0x0000FFFFFFFF0000)] ∨
      (∃ n, 16 ≤ n ∧ n < 256 ∧ ((o = 0x2000 + 32 * n ∧ mask = 0xE0001F000FFF0000) ∨ (o = 0x2008 + 32 * n ∧ mask = 0xFFFFFF0000000000))) →
    (s.devWrite (2 ^ 40 + o) v).devRead (2 ^ 40 + o) = v &&& mask) ∧
  (∀ (s : State) (d i : Nat) (v : BitVec 64), d < 4 → i < 4 →
    let pa := 2 ^ 40 + 65536 * (2 + 5 * d + i) + 0x900
    (s.devWrite pa v).devRead pa = v &&& 0xFFFF ∧ ((s.gov (4 * d + i)).cls.length = 4 → ∀ j < 4,
      (s.devWrite (pa + 16 + 8 * j) v).devRead (pa + 16 + 8 * j) = v &&& 0xFFFF)) ∧
  ∀ (s : State) (pa : Nat) (v : BitVec 64), pa / 2 ^ 40 = 1 → 20 < pa % 2 ^ 40 / 65536 → s.devRead pa = 0 ∧ s.devWrite pa v = s

/-- Device registers read back what may be written; key slots, signatures and ports follow their rules. (R361, R389, R405, R406, R437, R447, R448, R456, R468, R471, R472, R473) -/
def Obligations.RegistersKeysAndPorts : Prop :=
  claimRegistersWrittenAndRead ∧ claimKeySlotsAndSignatures ∧ claimLinksAndPorts

/-- Setting EN of a disabled unit clears DROP, PAGE, REC and FULL and holds a TIME record first, which stays in the buffer with no page in the list (log 22), while on a gated die the buffer stays empty; a unit already enabled keeps its place. A page of the list that is invalid stops the unit there. Every 10 µs a stopped unit tries that page and those that follow it and opens the first valid one, whose first record is the TRACE_GAP record (its DELTA: log 22), once the budget lets it be written. A record goes to the end of a buffer with room, below 128, and else is dropped and counted. A gated die keeps its time and records nothing; on wake a unit enabled before the gating holds a RESYNC record next, and one enabled meanwhile a RESYNC and a TIME record first (log 22). (R456, R458, R459, R461) -/
def Obligations.TraceUnits : Prop :=
  ∀ (s s1 : State) (die : Nat), die < 4 →
    let t := (s.die die).tr
    ((s.die die).gated ≠ none → t.en = false → ∃ u, exec (.traceEnable die) s = .next u ∧
      let x := (u.die die).tr
      x.en = true ∧ x.drop = 0 ∧ x.page = 0 ∧ x.rec_ = 0 ∧ x.full = false ∧ x.buf = [] ∧ x.open_ = none ∧ x.stopped = none) ∧
    ((s.die die).gated = none → t.en = false → t.npg = 0 → ∃ u, exec (.traceEnable die) s = .next u ∧
      let x := (u.die die).tr
      x.en = true ∧ x.drop = 0 ∧ x.page = 0 ∧ x.rec_ = 0 ∧ x.full = false ∧ x.buf = [[9 * 2 ^ 58, 0, 2 ^ 12, s.time]] ∧ x.last = s.time ∧
      x.list = t.list ∧ x.lo = t.lo ∧ x.hi = t.hi) ∧
    ((s.die die).gated = none → t.en = false → t.npg ≠ 0 → ∃ u : State, exec (.traceEnable die) s = .next ((u.traceOpen die 0).traceDrain die 130) ∧
      let x := (u.die die).tr
      x.en = true ∧ x.drop = 0 ∧ x.page = 0 ∧ x.rec_ = 0 ∧ x.full = false ∧ x.buf = [[9 * 2 ^ 58, 0, 2 ^ 12, s.time]]) ∧
    (t.en = true → ∃ u, exec (.traceEnable die) s = .next u ∧ (u.die die).tr = { t with ctl := (t.ctl ||| 1) &&& 0xFF73 }) ∧
    (t.stopped = none → exec (.traceRetry die) s = .next (s.traceDrain die 130)) ∧
    (∀ first, t.stopped = some first → s.tracing die = true →
      (s.traceFind die (t.following first) = (s1, none) → exec (.traceRetry die) s = .next (s1.traceDrain die 130)) ∧
      ∀ i p s2, s.traceFind die (t.following first) = (s1, some (i, p)) →
        let wrote := s1.traceWrite die p.key p.pa
          [11 * 2 ^ 58 + (if t.buf.isEmpty ∧ s.time - t.last < 2 ^ 20 then s.time - t.last else 0) * 2 ^ 24, 0, 2 ^ 12, t.gap]
        (wrote = (s2, false) → exec (.traceRetry die) s = .next (s2.traceDrain die 130)) ∧
        (wrote = (s2, true) → ∃ u : State, exec (.traceRetry die) s = .next (u.traceDrain die 130) ∧
          let x := (u.die die).tr
          x.page = i ∧ x.rec_ = 1 ∧ x.open_ = some p ∧ x.stopped = none ∧ x.gap = 0 ∧
          (((s2.die die).tr.buf = [] → s.time < (s2.die die).tr.last + 2 ^ 20) → x.buf = (s2.die die).tr.buf))) ∧
    (∀ i, s.tracePage die i = (s1, none) →
      ∃ u : State, s.traceOpen die i = u.traceResume die ∧ (u.die die).tr.stopped = some i ∧ (u.die die).tr.open_ = none) ∧
    (∀ i p, s.tracePage die i = (s1, some p) → let x := ((s.traceOpen die i).die die).tr
      x.page = i ∧ x.rec_ = 0 ∧ x.open_ = some p ∧ x.stopped = none) ∧
    (∀ (x : TraceUnit) r, (x.full = false → x.buf.length < 128 → x.push r = { x with buf := x.buf ++ [r] }) ∧
      (x.full = true ∨ 128 ≤ x.buf.length → (x.push r).buf = x.buf ∧ (x.push r).drop = min (x.drop + 1) (2 ^ 32 - 1))) ∧
    (s.started = true → (s.die die).gated = none → exec (.diePowerGate die) s =
      .next (s.putDie die { s.die die with gated := some s.time })) ∧
    ((s.die die).gated ≠ none → (t.en = false → exec (.dieWake die) s = .next (s.putDie die { s.die die with gated := none })) ∧
      (t.en = true → t.buf = [] → t.open_ = none → t.stopped = none → t.full = false → ∃ u : State,
        exec (.dieWake die) s = .next (u.traceBegin die) ∧ (u.die die).gated = none ∧
        (u.die die).tr.buf = [[10 * 2 ^ 58, 0, 2 ^ 12, s.time], [9 * 2 ^ 58, 0, 2 ^ 12, s.time]]) ∧
      (t.en = true → t.buf ≠ [] ∨ t.open_ ≠ none ∨ t.stopped ≠ none ∨ t.full = true → ∃ u : State,
        exec (.dieWake die) s = .next (u.traceDrain die 130) ∧ (u.die die).gated = none ∧
        (t.full = false → t.buf.length < 128 → (u.die die).tr.buf = t.buf ++ [[10 * 2 ^ 58, 0, 2 ^ 12, s.time]]))) ∧
    ((s.die die).gated = none → exec (.dieWake die) s = .next s) ∧
    ∀ e : TraceEv, e.die = die → (s.die die).gated ≠ none ∨ t.en = false ∨ t.takes e = false → s.traceOne e = s

/-- The event changes nothing for a core without a double trap, or below M mode with work in flight, which settles first. For one below M mode of no launch the core is left idle, with its record in the log (its words: log 53); for one of a launch the launch ends by fault with DOUBLE_TRAP and s.eval, if it runs and has no fault yet, and its thread is over; in M mode the start counts as failed, in step 7 (log 33). (R58, R391, R392, R433) -/
def Sys2Proof.Machine.claimDoubleTrapsHandled : Prop :=
  ∀ (s : State) (site : Nat), s.works site = true →
    let c := s.core site
    let logged := s.logFor (siteDie site) site ⟨3, 11, c.sp.cause.toNat % 512, c.sp.eval⟩
    let freed := ((logged.stopCore site ⟨cDOUBLE_TRAP, true, false, false, s.time, none⟩).writeContext c.vdev site).onCore site Core.freed
    (c.dbl = false → exec (.doubleTrapHandling site) s = .next s) ∧
    (c.dbl = true → c.mode = 3 → exec (.doubleTrapHandling site) s = .next (logged.failStart 0 7 (siteDie site) .doubleTrap)) ∧
    (c.dbl = true → c.mode ≠ 3 → c.settledWork = false ∨ s.mxArriving site = true → exec (.doubleTrapHandling site) s = .next s) ∧
    (c.dbl = true → c.mode ≠ 3 → c.settledWork = true → s.mxArriving site = false → (freed.core site).run = .idle ∧ (freed.core site).tag = none ∧
      (c.tag = none → exec (.doubleTrapHandling site) s = .next freed) ∧
      (∀ t, c.tag = some t → exec (.doubleTrapHandling site) s = .next
        ((((freed.failLaunch (fun p => p.2.vd == c.vdev && p.2.tag == t) cDOUBLE_TRAP c.sp.eval.toNat).tagAdd c.vdev t false).threadEnded
          c.sp.thr.toNat).unwait c.sp.thr.toNat))) ∧
    ∀ (mine : Nat × Launch → Bool) (cause value id : Nat) (l : Launch), tabGet? s.launches id = some l →
      tabGet? (s.failLaunch mine cause value).launches id =
        some (if mine (id, l) = true ∧ l.state = 3 ∧ l.failed = none then { l with failed := some (cause, value) } else l)

/-- The contexts of a device in a region are copied out only when its area exists and every core that it holds there has stopped; each core is then left idle, its context kept under the device and the site. A restore takes place on an idle core of a region that the device holds, for a context that is not dead: an image that a reset, a poisoned sector or an uncorrectable error has spoilt ends the launch with the address, and else, idle where it was idle or without a footprint to pin, the core goes on, running or idle, with its site's counters; either way the saved context is gone. Regions are granted and launches placed after each event. A record of an open shadow gives the shadow back. (R393, R395, R397, R400) -/
def Sys2Proof.Machine.claimContextsSavedAndRestored : Prop :=
  (∀ (s : State) (vd region : Nat), vd < 64 → region < 64 →
    let ts := s.deviceSites vd region
    (ts = [] ∨ (∃ t ∈ ts, (s.core t).run ≠ .stopped ∨ (s.core t).stop = none) ∨ s.backed (s.siteRecord vd 0) 64 = false →
      exec (.contextSave vd region) s = .next (s.scheduled (.ok s 0))) ∧
    (ts ≠ [] → (∀ t ∈ ts, (s.core t).run = .stopped ∧ (s.core t).stop ≠ none) → s.backed (s.siteRecord vd 0) 64 = true →
      rising s.holders → ∃ u : State, exec (.contextSave vd region) s = .next (s.scheduled (.ok u 0)) ∧
        tabGet? u.holders region = none ∧ ∀ t ∈ ts, (u.core t).run = .idle) ∧
    ∀ site, ((s.saveCore vd site).core site).run = .idle ∧ ((s.saveCore vd site).core site).tag = none ∧
      (∃ x, tabGet? (s.saveCore vd site).saved (savedKey vd site) = some x ∧ x.core = s.core site) ∧
      ∀ n, n ≠ site → (s.saveCore vd site).core n = s.core n) ∧
  (∀ (s : State) (site vd : Nat) (x : Saved), s.works site = true → tabGet? s.holders (siteRegion site) = some vd →
    tabGet? s.saved (savedKey vd site) = some x → rising s.saved →
    (x.dead = true ∨ (s.core site).run ≠ .idle → exec (.contextRestore site) s = .next (s.scheduled (.ok s 0))) ∧
    (∀ va, x.dead = false → (s.core site).run = .idle → s.imageLost vd site = some va → ∃ u : State,
      exec (.contextRestore site) s = .next (s.scheduled (.ok u 0)) ∧
      tabGet? u.saved (savedKey vd site) = none ∧ (u.core site).run = .idle ∧
      (∀ id l, tabGet? s.launches id = some l → x.core.tag = some l.tag → l.vd = vd → l.state = 3 → l.failed = none →
        tabGet? u.launches id = some { l with failed := some (cUNCORRECTABLE, va) }) ∧
      ∀ p ∈ u.launches, x.core.tag = some p.2.tag → p.2.vd = vd → p.2.state = 3 → p.2.failed ≠ none) ∧
    (x.dead = false → (s.core site).run = .idle → s.imageLost vd site = none →
      x.core.cont.foot = 0 ∨ x.core.stop.any (fun i => i.idle) = true →
      ∃ u : State, exec (.contextRestore site) s = .next (s.scheduled (.ok u 0)) ∧ tabGet? u.saved (savedKey vd site) = none ∧
      (u.core site).cnt = (s.core site).cnt ∧ (∀ n, n ≠ site → u.core n = s.core n) ∧
      (u.core site).run = if x.core.stop.any (fun i => i.idle) then .idle else .running)) ∧
  (∀ (s : State) (site : Nat), tabGet? s.holders (siteRegion site) = none → s.works site = true →
    exec (.contextRestore site) s = .next (s.scheduled (.ok s 0))) ∧
  ∀ (level : Nat) (x : Shadow), level < 4 → x.w1 < 2 ^ 15 → 1 ≤ x.n1 → x.n1 ≤ 32 → x.n2 ≤ 32 → x.slots < 32 →
    (x.n2 = 0 → x.w2 = 0) → x.w2 < 2 ^ 15 →
    shadowOfWord (shadowWord level x) = x ∧ shadowWord level x / 2 ^ 48 = level ∧ (shadowWord level x).testBit 47 = true

/-- For a backed sector, within the scrub budget, and with no swatch error on its line: one with a correctable error is corrected and logged, one with an uncorrectable error whose owner token is at home starts its reset, and one of an earlier epoch or a discarded slot is zeroed under slot 0xFF, its tokens at home; else only slots in state 2 that no sector carries become free. Outside the budget or backed memory nothing changes. (R403, R470, R471) -/
def Sys2Proof.Machine.claimScrubPasses : Prop :=
  (∀ (s : State) (k : Nat), k < 2 ^ 34 →
    let die := homeDie (64 * k)
    let t := s.charge die 0
    let x := s.sector k
    (s.mayCharge die 0 = false ∨ s.backed (64 * k) 64 = false → exec (.scrubSector k) s = .next s) ∧
    (s.mayCharge die 0 = true → s.backed (64 * k) 64 = true → t.meetSwatch (lineOf k) = t →
      (x.resetting = true → exec (.scrubSector k) s = .next t) ∧
      (x.resetting = false →
        (tabGet? s.hbmErr k = some true → exec (.scrubSector k) s = .next (if x.homeOwner then t.startReset k 6 else t)) ∧
        (tabGet? s.hbmErr k = some false → exec (.scrubSector k) s = .next
          (({ t with hbmErr := tabDel t.hbmErr k } : State).logRecord die ⟨0, 6, 0, BitVec.ofNat 64 (64 * k)⟩ 0 none 0)) ∧
        (tabGet? s.hbmErr k = none → x.epoch ≠ s.pe ∨ tabGet s.hub.keySlots x.slot 0 = 2 →
          exec (.scrubSector k) s = .next (t.zeroSector k).freeSlots) ∧
        (tabGet? s.hbmErr k = none → x.epoch = s.pe → tabGet s.hub.keySlots x.slot 0 ≠ 2 →
          exec (.scrubSector k) s = .next t.freeSlots)))) ∧
  (∀ (s : State) (k : Nat), s.mem.wf = true → (s.sector k).home = 1024 → (s.sector k).resetting = false → (s.sector k).host = .i →
    let u := s.zeroSector k
    (u.sector k).slot = 0xFF ∧ (u.sector k).epoch = s.pe ∧ (u.sector k).poison = false ∧
    (∀ a, 64 * k ≤ a → a < 64 * k + 64 → memGet u.mem a = 0) ∧
    (∀ a, a < 64 * k ∨ 64 * k + 64 ≤ a → memGet u.mem a = memGet s.mem a) ∧ ∀ n, n ≠ k → u.sector n = s.sector n) ∧
  ∀ (s : State) (n : Nat), tabGet s.freeSlots.hub.keySlots n 0 =
    if tabGet s.hub.keySlots n 0 = 2 ∧ (∀ q ∈ s.sectors, q.2.slot ≠ n) then 0 else tabGet s.hub.keySlots n 0

/-- Double traps are handled, contexts are saved and restored, and the scrub mends sectors. (R58, R391, R392, R393, R395, R397, R400, R403, R433, R470, R471) -/
def Obligations.ContextsAndScrubs : Prop :=
  claimDoubleTrapsHandled ∧ claimContextsSavedAndRestored ∧ claimScrubPasses

/-- A rep outside a delay slot and another repetition, its count register clear, whose body is captured: a body instruction of a forbidden kind traps with REP_BODY and its address, even with a count of 0; a count above 4,096 traps with REP_BODY and the count; else it ends at the first body instruction with the count and the strides, or with a count of 0 after the body, and drops a repetition held through a trap. Where the instructions before it are captured, the first word of the next one at or above s.xb traps with OVERLAY at its address, and so does the first such word of one that begins below (the order of the checks: log 69). (R147, R148, R149, R150, R153) -/
def Obligations.RepResult : Prop :=
  ∀ (s : State) (cr : Bool) (a : GOp) (nc : BitVec 12) (len : BitVec 4) (sd sa sb sc : BitVec 3)
    (body : List (BitVec 18 × List Word)) (e : Exc) (c1 : Core),
    let c := s.core s.cur
    let n := if cr then (c.rg .A a).toNat else nc.toNat + 1
    let start := addPc c.pc 12
    let i : Instr := .rep cr a nc len sd sa sb sc
    let k := c.tickShadows
    let stop (e : Exc) : State := s.trapAt s.cur { k with shadows := c.shadows, late := c.late } e
    c.Clear { ctl := true, uses := if cr then [rd .A a] else [] } →
    (k.capture start.toNat (len.toNat + 1) = (k, .ok body) →
      (∀ x, body.find? (fun x => repForbidden x.2) = some x → exec i s = .next (stop ⟨cREP_BODY, x.1.setWidth 64⟩)) ∧
      ((∀ x ∈ body, repForbidden x.2 = false) →
        (4096 < n → exec i s = .next (stop ⟨cREP_BODY, BitVec.ofNat 64 n⟩)) ∧
        (n ≤ 4096 → ∃ u, exec i s = .next u ∧ s.sameBut u s.cur ∧
          let d := u.core s.cur
          d.pc = (if n = 0 then bodyEnd start body else start) ∧
          d.rep = (if n = 0 then none else some ⟨c.pc, body, bodyEnd start body, n, 0, 0, sd, sa, sb, sc⟩) ∧
          (∀ h ∈ d.held, h.rep = none) ∧ d.held.length = c.held.length ∧ d.loc = c.loc ∧ d.sp = c.sp))) ∧
    (∀ j, j ≤ len.toNat → k.capture start.toNat j = (c1, .ok body) →
      let a := start.toNat + 4 * (body.map (fun x => x.2.length)).sum
      (c.xbAddr ≤ a →
        exec i s = .next (s.trapAt s.cur { c1 with shadows := c.shadows, late := c.late } ⟨cOVERLAY, BitVec.ofNat 64 a⟩)) ∧
      ∀ c2 w m, a < c.xbAddr → c1.fetchFrom a 1 = (c2, .ok [w]) → 1 ≤ m → m < lengthOf w → a + 4 * (m - 1) < c.xbAddr → c.xbAddr ≤ a + 4 * m →
        exec i s = .next (s.trapAt s.cur { c2 with shadows := c.shadows, late := c.late } ⟨cOVERLAY, BitVec.ofNat 64 (a + 4 * m)⟩)) ∧
    (k.capture start.toNat (len.toNat + 1) = (c1, .error e) →
      exec i s = .next (s.trapAt s.cur { c1 with shadows := c.shadows, late := c.late } e))

/-- For every well-formed instruction, with every operand at every value that its encoding admits, the decoder reads from its words, whatever follows them, exactly that instruction. (R59, R67, R84, R86) -/
def Obligations.DecodeEncode : Prop :=
  ∀ (i : Instr) (rest : List Word), i.wf = true → decode true (encode i ++ rest) = .instr i

/-- When a list of words decodes to an instruction, that instruction is well-formed and no event, the list starts with its own encoding, and the length code of the first word gives the number of its words; a base word whose major and function name no entry of the base map is an illegal opcode. (R59, R76, R84, R86) -/
def Obligations.DecodedWordsAreOneEncoding : Prop :=
  (∀ (cap : Bool) (ws : List Word) (i : Instr), decode cap ws = .instr i →
    i.wf = true ∧ i.isEvent = false ∧ (encode i).length = lengthOf (ws.headD 0) ∧ ∃ rest, ws = encode i ++ rest) ∧
  ∀ (cap : Bool) (w : Word) (rest : List Word), w.extractLsb' 0 2 = 0 → baseEntry w 0 (majorOf w) = none →
    decode cap (w :: rest) = .illegalOpcode

/-- The words of the worked program and of the worked encodings decode to the instructions that the manual gives for them: a load, immediates, a literal, an addition, a branch, a call, a jump, a special-register write, eret, a division, and extended words of the integer, compare, vector, repeat and thread families; the words that it says are none decode to the cause that it gives. (R63, R66, R67, R76, R80, R84, R147) -/
def Obligations.WordsDecode : Prop :=
  decode true [0x000083CC] = .instr (.ldD 3 2 0) ∧ decode true [0x1000052C] = .instr (.li 5 256) ∧
  decode true [0x0000062D, 0x3F800000, 0] = .instr (.liLit 6 0x3F800000) ∧ decode true [0xFFF1040C] = .instr (.addi 4 4 (-1)) ∧
  decode true [0x007186F8] = .instr (.fadd 0 6 6 7) ∧ decode true [0xFFC00444] = .instr (.bne 4 0 (-4)) ∧
  decode true [0x0000245C] = .instr (.jal 36) ∧ decode true [0x002240B4] = .instr (.wrs 9 2) ∧ decode true [0x00004060] = .instr (.jr 1) ∧
  decode true [0x080000FC] = .instr .eret ∧ decode true [0x10510608] = .instr (.div 6 4 5) ∧
  decode true [0x0001820A, 0x00000040, 0] = .instr (.intx 0 ⟨true, 2⟩ ⟨false, 6⟩ ⟨false, 0⟩) ∧
  decode true [0x0010C11A, 0x0C028000, 0] = .instr (.vfle 10 false 0 1 3 1) ∧
  decode true [0x00104216, 0x0002A400, 0] = .instr (.vfadd 10 0 true 1 2 1 1) ∧
  decode true [0x00000042, 0x02000000, 0] = .instr .endT ∧
  decode true [0x0000000E, 0, 0x00300282] = .instr (.rep false ⟨false, 0⟩ 3 0 1 2 0 2) ∧
  decode true [0] = .illegalOpcode ∧ decode true [0x00000039, 0, 0] = .illegalOpcode ∧ decode true [0x000083CD, 0, 0] = .illegalLength ∧
  decode true [0x50014405, 0, 0] = .illegalLength ∧ decode true [0x00714405, 0, 0] = .illegalField ∧
  decode true [0x006000F4] = .illegalField ∧ decode true [0x00104216, 0x1802A400, 0] = .illegalOpcode ∧
  decode true [0x00104216, 0x1602A400, 0] = .illegalField ∧ decode true [0x0001820A, 0x00000200, 0] = .illegalField

/-- The words from an address, n of them, as they stand in the local memory of a core. -/
def Sys2Proof.Machine.Core.wordsAt (c : Core) (a n : Nat) : List Word := (List.range n).map (fun k => c.codeWord (a + 4 * k))

/-- The current core issues an instruction of its own in the next step (00 R3, 02 R52, 08 R206; log 8): nothing is on the agenda, it
may issue, it takes no interrupt, it follows no stitch and waits for no follower of its own. -/
structure Sys2Proof.Machine.State.OwnIssue (s : State) : Prop where
  agenda : s.agenda = []
  may : s.mayIssue = true
  quiet : (s.core s.cur).mayInterrupt = false
  own : s.follows s.cur = false
  free : s.awaitsFollower s.cur = false

/-- When nothing else is to happen, the current core may issue, it holds no repetition, its pc is aligned, and the words that the length code asks for lie below s.xb with good check bits and decode to an instruction, the step is that instruction's meaning on the machine with its current core listed, followed by what stitches and launches without a handler make of it and by the passage of time; a step of an event of the agenda is that event's meaning in the same way, and an input takes its effect. (R44, R45, R59, R84) -/
def Obligations.StepRunsDecoded : Prop :=
  (∀ (s : State) (i : Instr),
    let c := s.core s.cur
    let a := c.pc.toNat
    let n := lengthOf (c.codeWord a)
    s.OwnIssue → c.rep = none → a % 4 = 0 → a + 4 * n ≤ c.xbAddr → c.flips = [] →
    decode s.errInj (c.wordsAt a n) = .instr i →
    step s = match exec i (s.putCore s.cur c) with
      | .next t => .next ((t.after s).tick)
      | .fault r => .fault r
      | .refused r => .refused r) ∧
  (∀ (s : State) (e : Instr) (rest : List Move), s.agenda = .event e :: rest → e.isEvent = true →
    step s = match exec e { s with agenda := rest } with
      | .next t => .next ((t.after s).tick)
      | .fault r => .fault r
      | .refused r => .refused r) ∧
  (∀ (s : State) (x : Input) (rest : List Move), s.agenda = .input x :: rest →
    step s = .next (((({ s with agenda := rest } : State).input x).after s).tick)) ∧
  ∀ (s : State) (n : Nat) (rest : List Move), s.agenda = .issue n :: rest → (s.core n).run = .idle →
    step s = .next ((({ s with agenda := rest, cur := n } : State).after s).tick)

/-- A core that issues of its own, outside a repetition, traps: with LOCAL_ALIGN and its pc when that is not a multiple of 4; with OVERLAY and the address of the first word of the instruction at or above s.xb; and where its words lie below s.xb with good check bits but decode to none, with ILLEGAL_OPCODE, ILLEGAL_LENGTH or ILLEGAL_FIELD and the first word, with word 1 above it when bit 1 of the length code is 1. (R44, R45, R84, R85) -/
def Sys2Proof.Machine.claimUndecodedWordsTrap : Prop :=
  ∀ (s : State),
    let c := s.core s.cur
    let a := c.pc.toNat
    let n := lengthOf (c.codeWord a)
    let traps (u : State) (e : Exc) : Prop := step s = .next (((u.trapAt s.cur c e).after s).tick)
    s.OwnIssue → c.rep = none → c.flips = [] →
    (a % 4 ≠ 0 → traps s ⟨cLOCAL_ALIGN, BitVec.ofNat 64 a⟩) ∧
    (a % 4 = 0 → c.xbAddr ≤ a → traps s ⟨cOVERLAY, BitVec.ofNat 64 a⟩) ∧
    (∀ k, a % 4 = 0 → 0 < k → k < n → a + 4 * (k - 1) < c.xbAddr → c.xbAddr ≤ a + 4 * k →
      traps s ⟨cOVERLAY, BitVec.ofNat 64 (a + 4 * k)⟩) ∧
    (a % 4 = 0 → a + 4 * n ≤ c.xbAddr →
      let ws := c.wordsAt a n
      let eval : DWord := if (ws.getD 0 0).getLsbD 1 then ws.getD 1 0 ++ ws.getD 0 0 else (0 : Word) ++ ws.getD 0 0
      (decode s.errInj ws = .illegalOpcode → traps (s.putCore s.cur c) ⟨cILLEGAL_OPCODE, eval⟩) ∧
      (decode s.errInj ws = .illegalLength → traps (s.putCore s.cur c) ⟨cILLEGAL_LENGTH, eval⟩) ∧
      (decode s.errInj ws = .illegalField → traps (s.putCore s.cur c) ⟨cILLEGAL_FIELD, eval⟩) ∧
      decode s.errInj ws ≠ .short)

/-- A bad rounding mode raises ILLEGAL_FIELD before all else; then a control instruction in a delay slot DS_CONTROL with 0; then too low a mode PRIVILEGE with 0; then the first operand out of its bound, in operand order, raises its cause; then the first word read in a shadow raises SHADOW_READ with its address; and the instruction then traps with that cause. With none of these and good check bits its body runs. (R50, R73, R84, R85, R142) -/
def Sys2Proof.Machine.claimChecksInOrder : Prop :=
  (∀ (r : Req) (c : Core),
    (c.badRM r.rm = true → c.gate r = (c, some ⟨cILLEGAL_FIELD, c.evalWords⟩)) ∧
    (c.badRM r.rm = false → r.ctl = true → c.ds ≠ .none → c.gate r = (c, some ⟨cDS_CONTROL, 0⟩)) ∧
    (c.badRM r.rm = false → (r.ctl = true → c.ds = .none) →
      (c.mode < r.mode → c.gate r = (c, some ⟨cPRIVILEGE, 0⟩)) ∧
      (r.mode ≤ c.mode →
        (∀ pre u post e, r.uses = pre ++ u :: post → (∀ v ∈ pre, c.boundOf v = none) → c.boundOf u = some e →
          c.gate r = (c, some e)) ∧
        ((∀ u ∈ r.uses, c.boundOf u = none) →
          (∀ pre w post, c.readWords r.uses = pre ++ w :: post → (∀ v ∈ pre, c.inShadow v = false) → c.inShadow w = true →
            c.gate r = (c, some ⟨cSHADOW_READ, BitVec.ofNat 64 (8 * w)⟩)) ∧
          ((∀ w ∈ c.readWords r.uses, c.inShadow w = false) → (∀ w ∈ c.readWords r.uses, tabGet? c.flips w = none) →
            c.gate r = (c, none)))))) ∧
  (∀ (o : GOp) (f : Fld) (rd : Bool) (c : Core), c.rep = none →
    (o.rel = false → c.boundOf ⟨f, .g o, rd⟩ = none) ∧
    (o.rel = true →
      let w := c.sp.ix.toInt + o.n.toInt
      c.boundOf ⟨f, .g o, rd⟩ = if 1 ≤ w ∧ w < c.sp.wsz.toNat then none else some ⟨cREG_BOUND, BitVec.ofInt 64 w⟩)) ∧
  ∀ (s : State) (r : Req) (next : Core → Core) (body : Core → CoreRes) (c1 : Core) (e : Exc),
    (s.core s.cur).gate r = (c1, some e) → s.local_ r next body = .next (s.trapAt s.cur c1 e)

/-- Fetching, decoding and checking an instruction raises the first cause in the order of the rules. (R44, R45, R50, R73, R84, R85, R142) -/
def Obligations.FetchAndChecksInOrder : Prop :=
  claimUndecodedWordsTrap ∧ claimChecksInOrder

/-- What follows a move adds the open number of ticks to the package time, counted modulo 2^64, and one to the count of open values, and leaves every core's special registers, pc, scratchpad, run state, delay slot, repetition and shadows as they are; the open amounts are the model's free values (log 6), so the statement holds for each of them. (R1, R461, R463) -/
def Obligations.TimePasses : Prop :=
  ∀ s : State, s.tick.time = (s.time + Config.freeTicks s.free) % 2 ^ 64 ∧ s.tick.free = s.free + 1 ∧ s.tick.cur = s.cur ∧
    s.tick.agenda = s.agenda ∧
    ∀ site, let c := s.core site
      let d := s.tick.core site
      d.sp = c.sp ∧ d.pc = c.pc ∧ d.loc = c.loc ∧ d.flips = c.flips ∧ d.run = c.run ∧ d.ds = c.ds ∧ d.rep = c.rep ∧ d.shadows = c.shadows ∧
      d.held = c.held ∧ d.logs = (if (tabGet? s.cores site).isSome then [] else c.logs)

/-- After a cold start every working core runs at local address 0 in M mode with s.xb 0x4000, s.wp 0x3F000 and s.twp 0x3E000, no interrupt enabled and nothing in flight; a die delegates nothing, its owner limit is 1 and its tables stand at 0; every sector is zero under slot 0xFF with its tokens at home, 255 key slots are free, and no window, launch or region is in use; the package time is 0 (log 4), and no site is fused (log 3). (R36, R389, R464, R470, R471, R473) -/
def Sys2Proof.Machine.claimResetValues : Prop :=
  (∀ site, site < 4096 → State.reset.works site = true ∧
    let c := State.reset.core site
    c.run = .running ∧ c.pc = 0 ∧ c.mode = 3 ∧ c.sp.xb = 0x4000 ∧ c.sp.wp = 0x3F000 ∧ c.sp.twp = 0x3E000 ∧ c.sp.psw.getLsbD 2 = false ∧
    c.shadows = [] ∧ c.rep = none ∧ c.ds = .none ∧ c.posted = [] ∧ c.preempt = false) ∧
  (∀ die, die < 4 →
    let d := State.reset.die die
    d.root = 0 ∧ d.ownLim = 1 ∧ d.deleg = 0 ∧ d.mvec = 0 ∧ d.el.base = 0 ∧ d.migs = [] ∧ d.tr.en = false ∧
    d.budgets.map (fun b => b.budget) = [500, 500, 1000, 2000, 1000, 10000, 1000]) ∧
  (∀ k, let x := State.reset.sector k
    x.slot = 0xFF ∧ x.home = 1024 ∧ x.homeOwner = true ∧ x.poison = false ∧ x.host = .i) ∧
  State.reset.hub.freeKeys = 255 ∧ State.reset.hub.hbBase = 0 ∧ State.reset.hub.windows = [] ∧ State.reset.launches = [] ∧
  State.reset.boot.step = 7 ∧ State.reset.time = 0 ∧ State.reset.holders = [] ∧ State.reset.fused = []

/-- Every memory of the module is in its canonical form: addresses rise, and no entry holds what an unlisted address reads as. -/
structure Sys2Proof.Machine.State.Canonical (s : State) : Prop where
  device : s.mem.wf = true
  host : s.hostMem.wf = true
  fabric : s.extMem.wf = true
  image : s.boot.image.wf = true
  cores : ∀ p ∈ s.cores, p.2.loc.wf = true
  snaps : ∀ p ∈ s.snaps, p.2.loc.wf = true
  saved : ∀ p ∈ s.saved, p.2.core.loc.wf = true

/-- After reset every memory of the module is in its canonical form, and reads as zero: the device memory as the manual says, the others as the model chooses (log 2, 5). (R36, R470) -/
def Sys2Proof.Machine.claimResetMemoryCanonical : Prop :=
  State.reset.Canonical ∧ ∀ a site, memGet State.reset.mem a = 0 ∧ memGet (State.reset.core site).loc a = 0

/-- After reset registers, tables and memories hold the values that the manual gives. (R36, R389, R464, R470, R471, R473) -/
def Obligations.ResetState : Prop :=
  claimResetValues ∧ claimResetMemoryCanonical

/-- From every state whose memories are in canonical form, reached by a run or not, a step of the module, whichever agent moves, gives a state whose memories are in canonical form: the device memory, the host's and the fabric's as the module sees them, and the scratchpad of every core, running, kept by a release or saved. (R2, R36, R253, R393) -/
def Obligations.MemoryStaysCanonical : Prop :=
  ∀ s t : State, s.Canonical → step s = .next t → t.Canonical

/-- An instruction of the core at a site is over in the next step: the core waits for nothing, and its fetch has moved past the
instruction's bytes. -/
def Sys2Proof.Machine.State.completes (s : State) (i : Instr) (site len : Nat) : Prop :=
  ∃ u, exec i s = .next u ∧ (u.core site).wait = .none ∧ (u.core site).pc = (Core.advance len (s.core site)).pc

/-- Barrier and exchange forms and fences are over in one step: fence with nothing of its core outstanding; join, leave, arriveb and btx on a channel that lets them through; in an exchange phase xsend at its cycle, xrecv with a free arm, xwait at or after its cycle, xend with nothing outstanding; and an ordered operation that passes its checks. seam enters its wait for the release. The events that end the waits of fence, xsend, xwait and xend do so. (R197, R200, R203, R224, R226, R227, R228, R229, R312, R315) -/
def Sys2Proof.Machine.claimBarrierAndExchangeFormsComplete : Prop :=
  ∀ (i : Instr) (s s1 : State) (d a b : GOp) (n : BitVec 6) (kind scope : BitVec 3) (cyc : BitVec 16) (ln : BitVec 3)
      (dst site k g sub id : Nat) (ty : BitVec 4) (rm : BitVec 3) (v : DWord) (us : List Use) (e : TlbEntry) (gang : Gang),
    let c := s.core s.cur
    let t := s.begun
    let ch := chanAt s.cur n
    let x := t.chan ch
    let ended (len : Nat) : Prop := s.completes i s.cur len
    let whole (r : DWord) : Prop := ∀ j < ln.toNat + 1, inBounds c (r.toInt + 8 * j) 8
    let sum (y : Channel) (w : DWord) : Prop := w.toNat < 2 ^ 27 ∧ y.cnt0 + w.toNat < 2 ^ 27
    (i = .fence kind scope → c.computePhase = false ∨ scope = 0 → c.posted = [] → c.eng0.queue = [] → c.eng1.queue = [] →
      c.conv.queue = [] → c.mx.cmds = [] → (∀ q ∈ s.ords, q.2.site ≠ s.cur) → (∀ q ∈ s.lands, q.2.site ≠ s.cur) → ended 4) ∧
    (t.chanCheck s.cur ch false = none →
      (i = .join d n → c.Clear { uses := [wr .D d] } → s.cur ∉ x.members → s.cur ∉ x.joins → ended 12) ∧
      (i = .leave d n → c.Clear { uses := [wr .D d] } → s.cur ∈ x.members ∨ s.cur ∈ x.joins → ended 12) ∧
      (i = .arriveb d a n → c.Clear { uses := [rd .A a, wr .D d] } → x.st ≠ .broken → s.cur ∈ x.members → s.cur ∉ x.arr0 →
        sum x (c.rg .A a) → ended 12) ∧
      (i = .btx d a n → c.Clear { uses := [rd .A a, wr .D d] } → (c.rg .A a).toNat ≤ (if ch < 128 then 1024 else 4096) → ended 12)) ∧
    (i = .seam d a → c.Clear { ctl := true, uses := [rd .A a, wr .D d] } → (∀ d k p, c.wait ≠ .seam d k p) → c.sp.psw.getLsbD 4 = true →
      c.sp.psw.getLsbD 5 = false → c.tickShadows.exchReport = none → t.gangOf s.cur = some (id, gang) →
      (t.chan gang.chan).st ≠ .broken → s.cur ∈ (t.chan gang.chan).members → s.cur ∉ (t.chan gang.chan).arr0 →
      sum (t.chan gang.chan) (c.rg .A a) →
      ∃ u, exec i s = .next u ∧ (u.core s.cur).wait = .seam d gang.chan (t.chan gang.chan).phase ∧ (u.core s.cur).pc = c.pc) ∧
    (exchanging c →
      (c.Clear { uses := [rd .A a, rd .B b] } → (∀ n r f l, c.wait ≠ .xsend n r f l) →
        (i = .xsend a b cyc ln → t.rankSite s.cur (c.rg .A a) = some dst → whole (c.rg .B b) → c.flips = [] → cyc.toNat ∉ c.exch.sent →
          t.xcyc s.cur = cyc.toNat → ended 12) ∧
        (i = .xrecv a b cyc ln → t.rankSite s.cur (c.rg .B b) = some dst → whole (c.rg .A a) → t.xcyc s.cur ≤ cyc.toNat →
          (∀ y ∈ c.exch.arms, ¬ (y.src = (c.rg .B b).toNat ∧ y.cyc = cyc.toNat)) → c.exch.armed < 16 → ended 12)) ∧
      (i = .xwait cyc → cyc.toNat ≤ t.xcyc s.cur → ended 12) ∧
      (i = .xend → c.ds = .none → (∀ p ∈ s.xmsgs, p.2.src ≠ s.cur) → c.exch.collide = [] → c.exch.unmatched = [] →
        (∀ y ∈ c.exch.arms, y.filled = true) → ended 12)) ∧
    (orderedRule c i = some (sub, ty, rm, d, a, v, us) → c.Clear { rm := rm, uses := us } →
      (c.sp.psw.getLsbD 4 = true → c.ordCount < 256) →
      (c.sp.psw.getLsbD 4 = false → (c.ordPend.filter (fun p => !p.2)).length < 16) →
      s.begun.reach { site := s.cur, mode := c.mode, owner := c.owner, vd := c.vdev, va := (c.rg .A a).toNat,
                      n := if ty.toNat = 2 ∨ ty.toNat = 6 ∨ ty.toNat = 10 then 4 else 8, op := .amo 0 0, need := [rA],
                      engine := false, obj := true } = .ok s1 e →
      inBounds c (c.rg .D d).toInt 16 → ended 12) ∧
    ((s.core site).run = .running →
      (i = .fenceComplete site → (s.core site).wait = .fence k g → (s.core site).computePhase = false →
        (s.begunAt site).fenceMet site k g = true → s.completes i site 4) ∧
      (i = .xwaitComplete site → (s.core site).wait = .xwait k → exchanging (s.core site) →
        s.sendBefore site ((s.core site).xbase + k) = false → s.dueBefore site ((s.core site).xbase + k) = false → s.completes i site 12) ∧
      (i = .xendComplete site → (s.core site).wait = .xend → exchanging (s.core site) → (∀ y ∈ (s.core site).exch.arms, y.filled = true) →
        (∀ p ∈ s.xmsgs, p.2.src ≠ site) → (s.core site).exch.collide = [] → (s.core site).exch.unmatched = [] → s.completes i site 12))

/-- Forms of the engines, the crossbar, the matrix unit and maintenance are over in one step: a copy or a matrix command without a footprint and without a signal, a converter command and mzero, each with a place in its queue and a valid block or descriptor; cpwait of idle engines, cpstat, evcfg of good values, evarm, evread, evwait with a credit; msave with no unit in the array, mrest of a good image, mstat and bndread, bndset with no mstore left, minj; l1wb and l1inv of an empty range, tlbinv and rlbinv of its own core, errlog 0 and snapctl 0. (R338, R350) -/
def Sys2Proof.Machine.claimEngineAndMaintenanceFormsComplete : Prop :=
  ∀ (i : Instr) (s : State) (d a b f : GOp) (sub ch tm w : Nat) (he tr sat : Bool) (t1 t2 tm4 sel4 : BitVec 4) (rm sel3 : BitVec 3)
      (sel2 j act : BitVec 2) (fld sel5 : BitVec 5) (row0 : BitVec 8) (count : BitVec 9) (row col p : BitVec 6) (blk : BitVec 3)
      (words : List Nat) (c1 : Core) (q : MxQueue),
    let c := s.core s.cur
    let n := wordsNum words
    let v := c.rg .A a
    let ended : Prop := s.completes i s.cur 12
    (copyRule i = some (sub, ch, tm, he, false, d, a, b, f) → c.Clear { uses := [rd .A a, rd .B b, rd .C f, rd .D d] } →
      c.noPlace ch false = false → (sub = 2 ∨ c.computePhase = false) → c.guarded = false → c.rg .C f = 0 →
      c.blockBusy (c.rg .B b) 64 = false → c.tickShadows.readBlock (c.rg .B b).toInt 64 = (c1, .ok words) → c1.guarded = false →
      nestValid n (c1.sp.psw.getLsbD 4) (sub == 0) = true → nestBar n = false → nestSig n = false →
      (2 ≤ sub → nestSelfMeets n (if sub = 3 then ((c.rg .D d).toNat : Int) else (c.rg .D d).toInt)
        (if sub = 3 then (v.toNat : Int) else v.toInt) = false) → ended) ∧
    (convRule i = some (sub, t1, t2, rm, sat, tm, he, false, d, a, b) → c.Clear { rm := rm, uses := [rd .A a, rd .B b, rd .D d] } →
      c.noPlace 2 false = false → c.tickShadows.readBlock (c.rg .B b).toInt 16 = (c1, .ok words) →
      descValid sub t1.toNat t2.toNat n = true → ended) ∧
    (matrixRule i = some (sub, tr, rm, w, false, a, f) → c.Clear { rm := rm, uses := [rd .A a, rd .B f] } →
      c.mxNoPlace false = false → c.rg .B f = 0 → c.blockBusy v 32 = false → c.tickShadows.readBlock v.toInt 32 = (c1, .ok words) →
      (mxLocal words = true ∨ c1.computePhase = false) → c1.guarded = false →
      mxDescOk sub (w / 2 ^ 8 % 2 ^ 8) c1.mx.discard.lastK words = true → mxOrientOk sub tr words = true → mxSig words = 0 → ended) ∧
    (i = .mzero row0 count tm4 he false → c.mxNoPlace false = false → ended) ∧
    (i = .cpwait sel2 → c.engFault sel2.toNat = none → c.engIdle sel2.toNat = true → ended) ∧
    (i = .evarm tm4 ∨ (i = .evwait tm4 ∧ c.creditOf tm4.toNat ≠ 0) → ended) ∧
    (1 ≤ c.mode → i = .minj row col blk p → ended) ∧
    (c.Clear { uses := [wr .D d] } → i = .cpstat d fld ∨ i = .evread d sel5 ∨ (i = .mstat d sel4 ∧ sel4.toNat < 8) ∨
      (i = .bndread d sel3 ∧ c.mx.storing = false) → ended) ∧
    (c.Clear { uses := [rd .A a] } →
      (i = .evcfg a sel5 → 24 ≤ sel5.toNat ∨ (8 ≤ sel5.toNat ∧ v.toNat < 2 ^ 17) ∨
        (v.toNat < 2 ^ 32 ∧ v.toNat / 2 ^ 11 % 2 ^ 5 = 0 ∧ v.toNat % 32 < 8) → ended) ∧
      (i = .bndset a j act → c.mx.storing = false → ended) ∧
      (imageCheck c.xbAddr v.toInt = none → c.localBusy v.toInt 83456 = false →
        (i = .msave a → c.mx.inArray = false → s.begun.mxArriving s.cur = false → ended) ∧
        (i = .mrest a → c.mx.cmds = [] → c.flips = [] →
          c.mx.ofImage (memSlice c.loc v.toNat 83456) = some q → ended))) ∧
    (c.Clear { mode := 1, uses := [rd .A a, rd .B b] } →
      (i = .l1wb a b ∨ i = .l1inv a b → (∀ ids at_ left inv, c.wait ≠ .tokens ids at_ left inv) → c.computePhase = false →
        c.rg .B b = 0 → ended) ∧
      (i = .errlog a b 0 → ended)) ∧
    (c.Clear { mode := 1, uses := [wr .D d] } → i = .snapctl d 0 → ended) ∧
    (c.Clear { mode := 3, uses := [rd .A a, rd .B b] } → (∀ id, c.wait ≠ .round id) → i = .tlbinv 0 a b → ended) ∧
    (c.Clear { mode := 3, uses := [rd .A a] } → (∀ id, c.wait ≠ .round id) → v.toNat < 2 ^ 20 → i = .rlbinv 0 a → ended)

/-- Barrier, exchange, ordered, engine, matrix and maintenance forms are over in one step where nothing stands against them. (R197, R200, R203, R224, R226, R227, R228, R229, R312, R315, R338, R350) -/
def Obligations.FormsComplete : Prop :=
  claimBarrierAndExchangeFormsComplete ∧ claimEngineAndMaintenanceFormsComplete

/-- For finite operands of the four arithmetic formats, in every rounding mode, addition, subtraction, multiplication, division by a number other than zero, and the fused multiply-add deliver the exact rational value, and the square root of a positive number the exact real root, rounded once: to the nearest multiple of the spacing of its binade that the mode chooses, to the overflow result beyond the largest finite value, with inexact, tiny and overflow flags as the rules say; an exact zero has the sign of its rule. A number other than zero over zero gives an infinity and DZ, zero over zero the canonical NaN and NV, as the root of a negative number does. (R88, R93, R94, R95, R97, R98) -/
def Sys2Proof.Machine.claimExactArithmetic : Prop :=
  ∀ (t : BitVec 4) (F : Format) (rm : BitVec 3) (x y z : DWord), (t, F) ∈ formats → t.toNat ≤ 11 → rm.toNat < 5 →
    F.finite x.toNat = true →
    let a := F.value x.toNat
    let b := F.value y.toNat
    let c := F.value z.toNat
    let s := F.neg x.toNat
    let u := F.neg y.toNat
    let v := F.neg z.toNat
    let odd := s != u
    let nan : FRes := ⟨BitVec.ofNat 64 F.canonical, 16⟩
    (F.finite y.toNat = true →
      F.Delivers rm false (a + b) (if s = u then s else rm == 3) (fpAdd t rm x y) ∧
      F.Delivers rm false (a - b) (if s ≠ u then s else rm == 3) (fpSub t rm x y) ∧
      F.Delivers rm false (a * b) odd (fpMul t rm x y) ∧
      (b ≠ 0 → F.Delivers rm false (a / b) odd (fpDiv t rm x y)) ∧
      (b = 0 → a ≠ 0 → fpDiv t rm x y = ⟨BitVec.ofNat 64 (F.inf odd), 8⟩) ∧ (b = 0 → a = 0 → fpDiv t rm x y = nan) ∧
      (F.finite z.toNat = true →
        F.Delivers rm false (a * b + c) (if odd = v then v else rm == 3) (fpFma t rm x y z))) ∧
    (0 < a → F.Rounds rm false false (rootCut a) (fpSqrt t rm x)) ∧ (a < 0 → fpSqrt t rm x = nan) ∧
    (a = 0 → fpSqrt t rm x = ⟨BitVec.ofNat 64 (F.zero s), 0⟩)

/-- A NaN operand makes the result of every operation the canonical NaN, with NV for a signalling one, and for zero times infinity whose addend is a NaN. Infinities of opposite signs added, zero times infinity and infinity over infinity give the canonical NaN and NV; another infinite operand gives an infinity or a zero of the sign of its rule and no flag. Minimum and maximum choose the smaller or larger, with -0 below +0, the other operand for a NaN and the canonical NaN for two, with NV for a signalling one. (R90, R97, R98, R99) -/
def Sys2Proof.Machine.claimSpecialOperands : Prop :=
  ∀ (t : BitVec 4) (F : Format) (rm : BitVec 3) (x y z : DWord), (t, F) ∈ formats → t.toNat ≤ 11 →
    let X := x.toNat
    let Y := y.toNat
    let Z := z.toNat
    let s := F.neg X
    let u := F.neg Y
    let odd := s != u
    let nan (nv : Bool) : FRes := ⟨BitVec.ofNat 64 F.canonical, if nv then 16 else 0⟩
    let inf (neg : Bool) : FRes := ⟨BitVec.ofNat 64 (F.inf neg), 0⟩
    let zero (n : Nat) : Bool := F.finite n && F.frac n == 0 && F.expo n == 0
    let code (n : Nat) : DWord := BitVec.ofNat 64 (n % 2 ^ (1 + F.ebits + F.mbits))
    let sn := F.isSNaN X || F.isSNaN Y
    let lost := F.isInf X && zero Y || zero X && F.isInf Y
    (F.isNaN X = true ∨ F.isNaN Y = true → fpAdd t rm x y = nan sn ∧ fpSub t rm x y = nan sn ∧ fpMul t rm x y = nan sn ∧
      fpDiv t rm x y = nan sn) ∧
    (F.isNaN X = true → fpSqrt t rm x = nan (F.isSNaN X)) ∧
    (F.isNaN X = true ∨ F.isNaN Y = true ∨ F.isNaN Z = true → fpFma t rm x y z = nan (sn || F.isSNaN Z || lost)) ∧
    (F.isNaN X = false → F.isNaN Y = false →
      (F.isInf X = true → F.isInf Y = true → fpAdd t rm x y = (if s = u then inf s else nan true) ∧
        fpSub t rm x y = (if s ≠ u then inf s else nan true) ∧ fpMul t rm x y = inf odd ∧ fpDiv t rm x y = nan true) ∧
      (F.isInf X = true → F.isInf Y = false → fpAdd t rm x y = inf s ∧ fpSub t rm x y = inf s ∧
        fpMul t rm x y = (if zero Y then nan true else inf odd) ∧ fpDiv t rm x y = inf odd) ∧
      (F.isInf X = false → F.isInf Y = true → fpAdd t rm x y = inf u ∧ fpSub t rm x y = inf (!u) ∧
        fpMul t rm x y = (if zero X then nan true else inf odd) ∧ fpDiv t rm x y = ⟨BitVec.ofNat 64 (F.zero odd), 0⟩) ∧
      (F.isInf X = true → fpSqrt t rm x = if s then nan true else inf false) ∧
      (F.isNaN Z = false →
        (lost = true → fpFma t rm x y z = nan true) ∧
        (lost = false → F.isInf X = true ∨ F.isInf Y = true →
          fpFma t rm x y z = if F.isInf Z ∧ F.neg Z ≠ odd then nan true else inf odd) ∧
        (F.isInf X = false → F.isInf Y = false → F.isInf Z = true → fpFma t rm x y z = inf (F.neg Z))) ∧
      (F.before Y X → fpMin t x y = ⟨code Y, 0⟩) ∧ (¬ F.before Y X → fpMin t x y = ⟨code X, 0⟩) ∧
      (F.before X Y → fpMax t x y = ⟨code Y, 0⟩) ∧ (¬ F.before X Y → fpMax t x y = ⟨code X, 0⟩)) ∧
    (F.isNaN X = true → F.isNaN Y = true → fpMin t x y = nan sn ∧ fpMax t x y = nan sn) ∧
    (F.isNaN X = true → F.isNaN Y = false → fpMin t x y = ⟨code Y, (nan sn).flags⟩ ∧ fpMax t x y = ⟨code Y, (nan sn).flags⟩) ∧
    (F.isNaN X = false → F.isNaN Y = true → fpMin t x y = ⟨code X, (nan sn).flags⟩ ∧ fpMax t x y = ⟨code X, (nan sn).flags⟩)

/-- Between two formats a finite number is delivered as its exact value rounded once, a zero with its sign, a NaN as the canonical NaN where the format has one and else as +0 with NV, with NV for a signalling one, an infinity as an infinity where the format has them and there is no SAT, and else, with NV, as E4M3's NaN without SAT or the largest finite value. To an integer type a number is rounded to an integer and saturates with NV beyond the type, as an infinity does, and a NaN gives 0 with NV. An integer is delivered as its value rounded once. (R90, R92, R93, R94, R100, R101, R102) -/
def Sys2Proof.Machine.claimConversions : Prop :=
  ∀ (t t' : BitVec 4) (F G : Format) (rm : BitVec 3) (sat : Bool) (x : DWord), (t, F) ∈ formats → rm.toNat < 5 →
    let X := x.toNat
    ((t', G) ∈ formats → t' ≠ t →
      let r := convert t' t rm sat x
      let nv (b : Bool) : Flags := if b then 16 else 0
      (F.finite X = true → G.Delivers rm sat (F.value X) (F.neg X) r) ∧
      (F.isNaN X = true → r = ⟨BitVec.ofNat 64 G.canonical, nv (F.isSNaN X || G.specials == .none)⟩) ∧
      (F.isInf X = true → G.specials = .ieee → sat = false → r = ⟨BitVec.ofNat 64 (G.inf (F.neg X)), 0⟩) ∧
      (F.isInf X = true → G.specials = .nanTop → sat = false → r = ⟨BitVec.ofNat 64 G.canonical, 16⟩) ∧
      (F.isInf X = true → sat = true ∨ G.specials = .none → r.flags = 16 ∧ r.bits.toNat < 2 ^ (1 + G.ebits + G.mbits) ∧
        G.finite r.bits.toNat = true ∧ G.value r.bits.toNat = if F.neg X then -G.largest else G.largest)) ∧
    (t'.toNat < 8 →
      let r := convert t' t rm sat x
      let v := F.value X
      (F.isNaN X = true → r = ⟨0, 16⟩) ∧
      (F.isInf X = true → r = ⟨BitVec.ofInt 64 (if F.neg X then (intRange t').1 else (intRange t').2), 16⟩) ∧
      (F.finite X = true → ∃ n : Nat, Rounded rm (F.neg X) (ratCut (if F.neg X then -v else v)) 1 n ∧
        let i : Int := if F.neg X then -(n : Int) else n
        Saturates t' i (decide ((i : Rat) = v)) r)) ∧
    (t'.toNat < 8 → ∀ v : Int, intOf t' x v → F.Delivers rm sat v false (convert t t' rm sat x))

/-- Arithmetic and conversions deliver the exact value rounded once, and special operands their tables' results. (R88, R90, R92, R93, R94, R95, R97, R98, R99, R100, R101, R102) -/
def Obligations.NumbersRounded : Prop :=
  claimExactArithmetic ∧ claimSpecialOperands ∧ claimConversions
end

