-- ==== Sys2Proof/Laws/Mem.lean ====
section
/-! SUPPORT. Memories and tables: the canonical form is kept by every memory operation, a read after a write gives what was
written, and a write leaves every other address alone. -/

namespace Sys2Proof.Machine

/-! ### The canonical form -/

/-- A memory is canonical from lo on when its first entry stands there and is not a default byte, and the rest comes after it. -/
theorem memWfFrom_iff {k : Nat} {v : Byte} {t : Memory} (lo : Nat) :
    memWfFrom lo ((k, v) :: t) = true ↔ memWfFrom (k + 1) t = true ∧ v ≠ memDefault ∧ lo ≤ k := by
  simp [memWfFrom, and_comm]

theorem memWfFrom_mono {lo hi : Nat} (h : lo ≤ hi) : ∀ {m : Memory}, memWfFrom hi m = true → memWfFrom lo m = true
  | [], _ => rfl
  | (_, _) :: _, hw => (memWfFrom_iff lo).2 (((memWfFrom_iff hi).1 hw).imp_right (And.imp_right (Nat.le_trans h)))

theorem memWfFrom_memCons {m : Memory} {lo a : Nat} {b : Byte} (h : lo ≤ a) (hw : memWfFrom (a + 1) m = true) :
    memWfFrom lo (memCons a b m) = true := by
  by_cases hb : b = memDefault
  · simpa [memCons, hb] using memWfFrom_mono (Nat.le_succ_of_le h) hw
  · simpa [memCons, hb] using (memWfFrom_iff lo).2 ⟨hw, hb, h⟩

theorem memWfFrom_memSet (a : Nat) (b : Byte) : ∀ (m : Memory) (lo : Nat), lo ≤ a → memWfFrom lo m = true →
    memWfFrom lo (memSet m a b) = true
  | [], lo, h, _ => memWfFrom_memCons h rfl
  | (k, v) :: t, lo, h, hw => by
    have parts := (memWfFrom_iff lo).1 hw
    rcases Nat.lt_trichotomy a k with hlt | rfl | hgt
    · simpa [memSet, hlt] using memWfFrom_memCons h ((memWfFrom_iff (a + 1)).2 ⟨parts.1, parts.2.1, hlt⟩)
    · simpa [memSet] using memWfFrom_memCons h parts.1
    · have rest := memWfFrom_memSet a b t (k + 1) hgt parts.1
      simpa [memSet, Nat.not_lt.2 (Nat.le_of_lt hgt), Nat.ne_of_gt hgt] using (memWfFrom_iff lo).2 ⟨rest, parts.2⟩

/-- A byte written keeps the canonical form. -/
theorem Memory.wf_memSet {m : Memory} (h : m.wf = true) (a : Nat) (b : Byte) : (memSet m a b).wf = true :=
  memWfFrom_memSet a b m 0 (Nat.zero_le a) h

/-- Bytes written keep the canonical form. -/
theorem Memory.wf_memWrite {m : Memory} (h : m.wf = true) (a n v : Nat) : (memWrite m a n v).wf = true := by
  induction n generalizing m a v with
  | zero => exact h
  | succ n ih => exact ih (Memory.wf_memSet h a _) (a + 1) (v / 256)

theorem Memory.wf_memWrite64 {m : Memory} (h : m.wf = true) (a : Nat) (v : DWord) : (memWrite64 m a v).wf = true :=
  Memory.wf_memWrite h a 8 v.toNat

/-- A list of bytes written keeps the canonical form. -/
theorem Memory.wf_memPut {m : Memory} (h : m.wf = true) (a : Nat) (bs : List Byte) : (memPut m a bs).wf = true := by
  induction bs generalizing m a with
  | nil => exact h
  | cons b t ih => exact ih (Memory.wf_memSet h a b) (a + 1)

/-- Bytes copied into a memory keep its canonical form. -/
theorem Memory.wf_memCopy (src : Memory) (from_ : Nat) {dst : Memory} (h : dst.wf = true) (target n : Nat) :
    (memCopy src from_ dst target n).wf = true := Memory.wf_memPut h target _

/-! ### Reads after writes -/

theorem memGet_of_lt {lo a : Nat} (h : a < lo) : ∀ {m : Memory}, memWfFrom lo m = true → memGet m a = memDefault
  | [], _ => rfl
  | (_, _) :: _, hw => if_pos (Nat.lt_of_lt_of_le h ((memWfFrom_iff lo).1 hw).2.2)

theorem memGet_memCons {m : Memory} {a x : Nat} {b : Byte} (hw : memWfFrom (a + 1) m = true) :
    memGet (memCons a b m) x = if x = a then b else memGet m x := by
  have below : x ≤ a → memGet m x = memDefault := fun hx => memGet_of_lt (Nat.lt_succ_of_le hx) hw
  by_cases hb : b = memDefault
  · by_cases hx : x = a
    · simpa [memCons, hb, hx] using hx ▸ below (Nat.le_of_eq hx)
    · simp [memCons, hb, hx]
  · rcases Nat.lt_trichotomy x a with hlt | rfl | hgt
    · simp [memCons, hb, memGet, hlt, Nat.ne_of_lt hlt, below (Nat.le_of_lt hlt)]
    · simp [memCons, hb, memGet]
    · simp [memCons, hb, memGet, Nat.not_lt.2 (Nat.le_of_lt hgt), Nat.ne_of_gt hgt]

theorem memGet_memSet_from (a : Nat) (b : Byte) (x : Nat) : ∀ (m : Memory) (lo : Nat), lo ≤ a → memWfFrom lo m = true →
    memGet (memSet m a b) x = if x = a then b else memGet m x
  | [], _, _, _ => memGet_memCons rfl
  | (k, v) :: t, lo, h, hw => by
    have parts := (memWfFrom_iff lo).1 hw
    rcases Nat.lt_trichotomy a k with hlt | rfl | hgt
    · have := memGet_memCons (x := x) (b := b) ((memWfFrom_iff (a + 1)).2 ⟨parts.1, parts.2.1, hlt⟩)
      simpa [memSet, hlt] using this
    · have := memGet_memCons (x := x) (b := b) parts.1
      have low : x < a → memGet t x = memDefault := fun hx => memGet_of_lt (Nat.lt_succ_of_lt hx) parts.1
      rcases Nat.lt_trichotomy x a with hx | rfl | hx
      · simpa [memSet, memGet, hx, Nat.ne_of_lt hx, low hx] using this
      · simpa [memSet] using this
      · simpa [memSet, memGet, Nat.not_lt.2 (Nat.le_of_lt hx), Nat.ne_of_gt hx] using this
    · have rest := memGet_memSet_from a b x t (k + 1) hgt parts.1
      simp only [memSet, Nat.not_lt.2 (Nat.le_of_lt hgt), Nat.ne_of_gt hgt, if_false, memGet, rest]
      by_cases hx : x = a
      · simp [hx, Nat.not_lt.2 (Nat.le_of_lt hgt), Nat.ne_of_gt hgt]
      · simp [hx]

/-- The byte at an address after a write of one byte. -/
theorem memGet_memSet {m : Memory} (h : m.wf = true) (a : Nat) (b : Byte) (x : Nat) :
    memGet (memSet m a b) x = if x = a then b else memGet m x :=
  memGet_memSet_from a b x m 0 (Nat.zero_le a) h

/-- A write of n bytes leaves every other byte alone. -/
theorem memGet_memWrite_outside {m : Memory} (h : m.wf = true) (a n v x : Nat) (hx : x < a ∨ a + n ≤ x) :
    memGet (memWrite m a n v) x = memGet m x := by
  induction n generalizing m a v with
  | zero => rfl
  | succ n ih =>
    unfold memWrite
    rw [ih (Memory.wf_memSet h a _) (a + 1) (v / 256) (by omega), memGet_memSet h, if_neg (by omega)]

/-- The byte at an address after a write of n bytes that covers it. -/
theorem memGet_memWrite_inside {m : Memory} (h : m.wf = true) (a n v i : Nat) (hi : i < n) :
    memGet (memWrite m a n v) (a + i) = BitVec.ofNat 8 (v / 256 ^ i) := by
  induction n generalizing m a v i with
  | zero => omega
  | succ n ih =>
    unfold memWrite
    cases i with
    | zero =>
      rw [memGet_memWrite_outside (Memory.wf_memSet h a _) (a + 1) n (v / 256) (a + 0) (by omega), memGet_memSet h]
      simp
    | succ i =>
      have := ih (Memory.wf_memSet h a (BitVec.ofNat 8 v)) (a + 1) (v / 256) i (by omega)
      rw [show a + (i + 1) = a + 1 + i by omega, this, Nat.div_div_eq_div_mul, Nat.pow_succ, Nat.mul_comm]

/-- A read of n bytes sees only those bytes. -/
theorem memRead_congr {m m' : Memory} (a n : Nat) (h : ∀ x, a ≤ x → x < a + n → memGet m x = memGet m' x) :
    memRead m a n = memRead m' a n := by
  induction n generalizing a with
  | zero => rfl
  | succ n ih =>
    unfold memRead
    rw [h a (by omega) (by omega), ih (a + 1) (fun x h1 h2 => h x (by omega) (by omega))]

/-- A read of bytes that a write does not touch. -/
theorem memRead_memWrite_outside {m : Memory} (h : m.wf = true) (a n v b k : Nat) (hx : b + k ≤ a ∨ a + n ≤ b) :
    memRead (memWrite m a n v) b k = memRead m b k :=
  memRead_congr b k (fun x h1 h2 => memGet_memWrite_outside h a n v x (by omega))

/-- A read after a write of the same n bytes gives the value written. -/
theorem memRead_memWrite {m : Memory} (h : m.wf = true) (a n v : Nat) : memRead (memWrite m a n v) a n = v % 256 ^ n := by
  induction n generalizing m a v with
  | zero => simp [memRead, Nat.mod_one]
  | succ n ih =>
    unfold memRead
    rw [show a = a + 0 by omega, memGet_memWrite_inside h (a + 0) (n + 1) v 0 (by omega)]
    unfold memWrite
    rw [ih (Memory.wf_memSet h _ _), Nat.pow_succ, Nat.mul_comm (256 ^ n) 256, Nat.mod_mul]
    simp only [BitVec.toNat_ofNat, Nat.pow_zero, Nat.div_one]

/-- A 64-bit word read back. -/
theorem memRead64_memWrite64 {m : Memory} (h : m.wf = true) (a : Nat) (v : DWord) : memRead64 (memWrite64 m a v) a = v := by
  unfold memRead64 memWrite64
  rw [memRead_memWrite h]
  apply BitVec.eq_of_toNat_eq
  have := v.isLt
  simp only [BitVec.toNat_ofNat]
  omega

/-- A 64-bit word that a write of another word does not touch. -/
theorem memRead64_memWrite64_outside {m : Memory} (h : m.wf = true) (a b : Nat) (v : DWord) (hx : b + 8 ≤ a ∨ a + 8 ≤ b) :
    memRead64 (memWrite64 m a v) b = memRead64 m b := by
  unfold memRead64 memWrite64
  rw [memRead_memWrite_outside h a 8 v.toNat b 8 hx]

/-! ### Tables -/

/-- The entry of a key after a write. -/
theorem tabGet?_tabSet {α : Type} (a : Nat) (v : α) (b : Nat) : ∀ t : Table α,
    tabGet? (tabSet t a v) b = if b = a then some v else tabGet? t b
  | [] => by
    simp only [tabSet, tabGet?]
    split
    · rw [if_neg (by omega)]
    · rfl
  | (k, w) :: t => by
    unfold tabSet
    split
    · simp only [tabGet?]
      split
      · rw [if_neg (by omega), if_pos (by omega)]
      · rfl
    · split
      · rename_i h1 h2
        subst h2
        simp only [tabGet?]
        split
        · rw [if_neg (by omega)]
        · split <;> rfl
      · simp only [tabGet?]
        rw [tabGet?_tabSet a v b t]
        split
        · rw [if_neg (by omega)]
        · split
          · rw [if_neg (by omega)]
          · rfl

@[simp] theorem tabGet_tabSet_self {α : Type} (t : Table α) (a : Nat) (v d : α) : tabGet (tabSet t a v) a d = v := by
  simp [tabGet, tabGet?_tabSet]

theorem tabGet_tabSet_ne {α : Type} (t : Table α) (a b : Nat) (v d : α) (h : b ≠ a) :
    tabGet (tabSet t a v) b d = tabGet t b d := by
  simp [tabGet, tabGet?_tabSet, h]

/-- A second write to a key replaces the first. -/
theorem tabSet_tabSet {α : Type} (a : Nat) (v w : α) : ∀ t : Table α, tabSet (tabSet t a v) a w = tabSet t a w
  | [] => by simp [tabSet]
  | (k, x) :: t => by
    by_cases h1 : a < k
    · simp [tabSet, h1]
    · by_cases h2 : a = k
      · subst h2; simp [tabSet]
      · simp [tabSet, h1, h2, tabSet_tabSet a v w t]

end Sys2Proof.Machine
end

