-- ==== Sys2Proof/Laws/Ops.lean ====
section
/-! SUPPORT. What each shared operation of one core can do, said once: the gate of 03 R84, a core-local instruction, one that
waits for pending bytes, one that concerns more than its core, an event, and taking an exception. -/

namespace Sys2Proof.Machine

/-! ### The gate -/

theorem Core.boundCheck_none {c : Core} {us : List Use} : c.boundCheck us = none ↔ ∀ u ∈ us, c.boundOf u = none := by
  induction us with
  | nil => simp [Core.boundCheck]
  | cons u t ih =>
    simp only [Core.boundCheck, List.forall_mem_cons]
    cases h : c.boundOf u with
    | none => simp [ih]
    | some e => simp

theorem Core.eccWords_whole {c : Core} : ∀ {ws : List Nat}, (∀ w ∈ ws, tabGet? c.flips w = none) → c.eccWords ws = (c, none)
  | [], _ => rfl
  | w :: t, h => by
    have hw : c.eccRead w = (c, false) := by
      unfold Core.eccRead
      rw [h w (List.mem_cons_self)]
    simp only [Core.eccWords, hw]
    exact Core.eccWords_whole (fun x hx => h x (List.mem_cons_of_mem _ hx))

theorem Core.pre_of_clear {c : Core} {us : List Use} (hb : ∀ u ∈ us, c.boundOf u = none)
    (hs : ∀ w ∈ c.readWords us, c.inShadow w = false) (hf : ∀ w ∈ c.readWords us, tabGet? c.flips w = none) :
    c.pre us = (c, none) := by
  unfold Core.pre
  rw [Core.boundCheck_none.2 hb]
  have : (c.readWords us).find? c.inShadow = none := List.find?_eq_none.2 (fun w hw => by simp [hs w hw])
  simp only [this]
  split
  · rfl
  · exact Core.eccWords_whole hf

/-- The gate lets an instruction through whose operands are clear, and changes nothing. -/
theorem Core.gate_of_clear {c : Core} {r : Req} (h : c.Clear r) : c.gate r = (c, none) := by
  unfold Core.gate
  rw [if_neg (by simp [h.rounding]), if_neg, if_neg (by have := h.mode; omega), Core.pre_of_clear h.bound h.shadow h.whole]
  cases hc : r.ctl with
  | false => simp
  | true => simp [h.slot hc]

/-- Fewer operands are clear when more are. -/
theorem Core.Clear.mono {c : Core} {r r' : Req} (h : c.Clear r) (hr : r'.rm = r.rm) (hc : r'.ctl = r.ctl)
    (hm : r'.mode = r.mode) (hu : r'.uses ⊆ r.uses) : c.Clear r' := by
  have hw : ∀ w ∈ c.readWords r'.uses, w ∈ c.readWords r.uses := by
    intro w hw
    simp only [Core.readWords, List.mem_flatMap] at hw ⊢
    obtain ⟨u, h1, h2⟩ := hw
    exact ⟨u, hu h1, h2⟩
  exact ⟨hr ▸ h.rounding, fun x => h.slot (hc ▸ x), hm ▸ h.mode, fun u x => h.bound u (hu x),
    fun w x => h.shadow w (hw w x), fun w x => h.whole w (hw w x)⟩

/-! ### Instructions of one core -/

theorem Core.runOne_done {c c2 : Core} {r : Req} {next : Core → Core} {body : Core → CoreRes} (h : c.Clear r)
    (hb : body c.tickShadows = .done c2) : c.runOne r next body = .done (next c2).closed := by
  unfold Core.runOne
  rw [Core.gate_of_clear h]
  simp only [hb]
  rfl

theorem Core.runOne_trap {c c2 : Core} {r : Req} {next : Core → Core} {body : Core → CoreRes} {cause : Nat} {eval : DWord}
    (h : c.Clear r) (hb : body c.tickShadows = .trap c2 cause eval) :
    c.runOne r next body = .trap { c2 with shadows := c.shadows, late := c.late } cause eval := by
  unfold Core.runOne
  rw [Core.gate_of_clear h]
  simp only [hb]

theorem Core.runOne_gate {c c1 : Core} {r : Req} {next : Core → Core} {body : Core → CoreRes} {e : Exc}
    (h : c.gate r = (c1, some e)) : c.runOne r next body = .trap c1 e.cause e.eval := by
  unfold Core.runOne
  rw [h]

/-- An instruction of the current core whose operands are clear and whose body completes. -/
theorem State.local_done {s : State} {r : Req} {next : Core → Core} {body : Core → CoreRes} {c : Core}
    (h : (s.core s.cur).Clear r) (hb : body (s.core s.cur).tickShadows = .done c) :
    s.local_ r next body = .next (s.putCore s.cur (next c).closed) := by
  unfold State.local_
  rw [Core.runOne_done h hb]
  rfl

/-- An instruction of the current core whose operands are clear and whose body traps. -/
theorem State.local_trap {s : State} {r : Req} {next : Core → Core} {body : Core → CoreRes} {c : Core} {cause : Nat}
    {eval : DWord} (h : (s.core s.cur).Clear r) (hb : body (s.core s.cur).tickShadows = .trap c cause eval) :
    s.local_ r next body = .next (s.trapAt s.cur { c with shadows := (s.core s.cur).shadows, late := (s.core s.cur).late } ⟨cause, eval⟩) := by
  unfold State.local_
  rw [Core.runOne_trap h hb]
  rfl

/-- An instruction of the current core that the gate refuses. -/
theorem State.local_gate {s : State} {r : Req} {next : Core → Core} {body : Core → CoreRes} {c : Core} {e : Exc}
    (h : (s.core s.cur).gate r = (c, some e)) : s.local_ r next body = .next (s.trapAt s.cur c e) := by
  unfold State.local_
  rw [Core.runOne_gate h]
  rfl

/-- A core-local instruction always answers a next state. -/
theorem State.local_next (s : State) (r : Req) (next : Core → Core) (body : Core → CoreRes) :
    ∃ t, s.local_ r next body = .next t := ⟨_, rfl⟩

/-- An access to bytes that no record or capture is to fill waits for nothing. -/
theorem State.localAt_free {s : State} {r : Req} {next : Core → Core} {touch : Core → List (Int × Nat)}
    {body : Core → CoreRes} (h : (touch (s.core s.cur)).any (fun p => (s.core s.cur).localBusy p.1 p.2) = false) :
    s.localAt r next touch body = s.local_ r next body := by
  unfold State.localAt
  simp [h]

/-! ### Instructions of more than one core -/

theorem State.shared_of_clear {s : State} {r : Req} {next : Core → Core} {body : State → SRes}
    (h : (s.core s.cur).Clear r) :
    s.shared r next body = (s.putCore s.cur (s.core s.cur)).settle s.cur next body := by
  unfold State.shared
  rw [Core.gate_of_clear h]

theorem State.shared_gate {s : State} {r : Req} {next : Core → Core} {body : State → SRes} {c : Core} {e : Exc}
    (h : (s.core s.cur).gate r = (c, some e)) : s.shared r next body = .next (s.trapAt s.cur c e) := by
  unfold State.shared
  rw [h]

/-- An instruction that concerns more than its core always answers a next state. -/
theorem State.settle_next (s : State) (site : Nat) (next : Core → Core) (body : State → SRes) :
    ∃ t, s.settle site next body = .next t := by
  unfold State.settle
  simp only []
  split <;> exact ⟨_, rfl⟩

theorem State.shared_next (s : State) (r : Req) (next : Core → Core) (body : State → SRes) :
    ∃ t, s.shared r next body = .next t := by
  unfold State.shared
  split
  · exact ⟨_, rfl⟩
  · exact State.settle_next _ _ _ _

/-- One core stands where it was put. -/
@[simp] theorem State.core_putCore_self (s : State) (site : Nat) (c : Core) : (s.putCore site c).core site = c := by
  simp [State.core, State.putCore, tabGet_tabSet_self]

/-- The later of two cores put at a site stays. -/
@[simp] theorem State.putCore_putCore (s : State) (site : Nat) (c d : Core) :
    (s.putCore site c).putCore site d = s.putCore site d := by
  simp [State.putCore, tabSet_tabSet]

/-- What an instruction that concerns more than its core does once the gate has let it through: its body runs on the machine
as it begins, and its end is one of three. -/
theorem State.shared_begun {s : State} {r : Req} {next : Core → Core} {body : State → SRes} (h : (s.core s.cur).Clear r) :
    s.shared r next body =
      match body s.begun with
      | .done u => .next (u.putCore s.cur (Core.count 1 1 (next { u.core s.cur with wait := .none, moved := (u.core s.cur).othersMoves })))
      | .trap u e => .next (u.trapped s s.cur e)
      | .wait u w => .next (u.held_ s s.cur w) := by
  rw [State.shared_of_clear h]
  unfold State.settle
  simp only [State.core_putCore_self, State.putCore_putCore]
  rfl

/-! ### Events -/

@[simp] theorem State.event_true (s : State) (f : State → State) : s.event true f = .next (f s) := rfl
@[simp] theorem State.event_false (s : State) (f : State → State) : s.event false f = .next s := rfl

end Sys2Proof.Machine
end

