-- ==== Sys2Proof/Laws/State.lean ====
section
/-! SUPPORT. The fields that each update of the state leaves alone, and what is read back of the one that it writes. -/

namespace Sys2Proof.Machine

/-! ### A core replaced -/

@[simp] theorem State.putCore_time (s : State) (site : Nat) (c : Core) : (s.putCore site c).time = s.time := rfl
@[simp] theorem State.putCore_cyc (s : State) (site : Nat) (c : Core) : (s.putCore site c).cyc = s.cyc := rfl
@[simp] theorem State.putCore_free (s : State) (site : Nat) (c : Core) : (s.putCore site c).free = s.free := rfl
@[simp] theorem State.putCore_cur (s : State) (site : Nat) (c : Core) : (s.putCore site c).cur = s.cur := rfl
@[simp] theorem State.putCore_agenda (s : State) (site : Nat) (c : Core) : (s.putCore site c).agenda = s.agenda := rfl
@[simp] theorem State.putCore_dies (s : State) (site : Nat) (c : Core) : (s.putCore site c).dies = s.dies := rfl
@[simp] theorem State.putCore_hub (s : State) (site : Nat) (c : Core) : (s.putCore site c).hub = s.hub := rfl
@[simp] theorem State.putCore_fused (s : State) (site : Nat) (c : Core) : (s.putCore site c).fused = s.fused := rfl
@[simp] theorem State.putCore_stackGib (s : State) (site : Nat) (c : Core) : (s.putCore site c).stackGib = s.stackGib := rfl
@[simp] theorem State.putCore_errInj (s : State) (site : Nat) (c : Core) : (s.putCore site c).errInj = s.errInj := rfl
@[simp] theorem State.putCore_mem (s : State) (site : Nat) (c : Core) : (s.putCore site c).mem = s.mem := rfl
@[simp] theorem State.putCore_sectors (s : State) (site : Nat) (c : Core) : (s.putCore site c).sectors = s.sectors := rfl
@[simp] theorem State.putCore_msgs (s : State) (site : Nat) (c : Core) : (s.putCore site c).msgs = s.msgs := rfl
@[simp] theorem State.putCore_reqs (s : State) (site : Nat) (c : Core) : (s.putCore site c).reqs = s.reqs := rfl
@[simp] theorem State.putCore_hints (s : State) (site : Nat) (c : Core) : (s.putCore site c).hints = s.hints := rfl
@[simp] theorem State.putCore_regions (s : State) (site : Nat) (c : Core) : (s.putCore site c).regions = s.regions := rfl
@[simp] theorem State.putCore_pe (s : State) (site : Nat) (c : Core) : (s.putCore site c).pe = s.pe := rfl
@[simp] theorem State.putCore_hbmErr (s : State) (site : Nat) (c : Core) : (s.putCore site c).hbmErr = s.hbmErr := rfl
@[simp] theorem State.putCore_homeDiff (s : State) (site : Nat) (c : Core) : (s.putCore site c).homeDiff = s.homeDiff := rfl
@[simp] theorem State.putCore_clusTlb (s : State) (site : Nat) (c : Core) : (s.putCore site c).clusTlb = s.clusTlb := rfl
@[simp] theorem State.putCore_rounds (s : State) (site : Nat) (c : Core) : (s.putCore site c).rounds = s.rounds := rfl
@[simp] theorem State.putCore_incomingFrames (s : State) (site : Nat) (c : Core) : (s.putCore site c).incomingFrames = s.incomingFrames := rfl
@[simp] theorem State.putCore_pins (s : State) (site : Nat) (c : Core) : (s.putCore site c).pins = s.pins := rfl
@[simp] theorem State.putCore_traceQ (s : State) (site : Nat) (c : Core) : (s.putCore site c).traceQ = s.traceQ := rfl
@[simp] theorem State.putCore_hostMem (s : State) (site : Nat) (c : Core) : (s.putCore site c).hostMem = s.hostMem := rfl
@[simp] theorem State.putCore_hostLines (s : State) (site : Nat) (c : Core) : (s.putCore site c).hostLines = s.hostLines := rfl
@[simp] theorem State.putCore_hostAns (s : State) (site : Nat) (c : Core) : (s.putCore site c).hostAns = s.hostAns := rfl
@[simp] theorem State.putCore_hostCache (s : State) (site : Nat) (c : Core) : (s.putCore site c).hostCache = s.hostCache := rfl
@[simp] theorem State.putCore_extMem (s : State) (site : Nat) (c : Core) : (s.putCore site c).extMem = s.extMem := rfl
@[simp] theorem State.putCore_extAns (s : State) (site : Nat) (c : Core) : (s.putCore site c).extAns = s.extAns := rfl
@[simp] theorem State.putCore_extPoison (s : State) (site : Nat) (c : Core) : (s.putCore site c).extPoison = s.extPoison := rfl
@[simp] theorem State.putCore_chans (s : State) (site : Nat) (c : Core) : (s.putCore site c).chans = s.chans := rfl
@[simp] theorem State.putCore_releases (s : State) (site : Nat) (c : Core) : (s.putCore site c).releases = s.releases := rfl
@[simp] theorem State.putCore_gangs (s : State) (site : Nat) (c : Core) : (s.putCore site c).gangs = s.gangs := rfl
@[simp] theorem State.putCore_xmsgs (s : State) (site : Nat) (c : Core) : (s.putCore site c).xmsgs = s.xmsgs := rfl
@[simp] theorem State.putCore_ords (s : State) (site : Nat) (c : Core) : (s.putCore site c).ords = s.ords := rfl
@[simp] theorem State.putCore_lands (s : State) (site : Nat) (c : Core) : (s.putCore site c).lands = s.lands := rfl
@[simp] theorem State.putCore_probes (s : State) (site : Nat) (c : Core) : (s.putCore site c).probes = s.probes := rfl
@[simp] theorem State.putCore_waiters (s : State) (site : Nat) (c : Core) : (s.putCore site c).waiters = s.waiters := rfl
@[simp] theorem State.putCore_owed (s : State) (site : Nat) (c : Core) : (s.putCore site c).owed = s.owed := rfl
@[simp] theorem State.putCore_snaps (s : State) (site : Nat) (c : Core) : (s.putCore site c).snaps = s.snaps := rfl
@[simp] theorem State.putCore_undo (s : State) (site : Nat) (c : Core) : (s.putCore site c).undo = s.undo := rfl
@[simp] theorem State.putCore_vds (s : State) (site : Nat) (c : Core) : (s.putCore site c).vds = s.vds := rfl
@[simp] theorem State.putCore_launches (s : State) (site : Nat) (c : Core) : (s.putCore site c).launches = s.launches := rfl
@[simp] theorem State.putCore_saved (s : State) (site : Nat) (c : Core) : (s.putCore site c).saved = s.saved := rfl
@[simp] theorem State.putCore_holders (s : State) (site : Nat) (c : Core) : (s.putCore site c).holders = s.holders := rfl
@[simp] theorem State.putCore_governors (s : State) (site : Nat) (c : Core) : (s.putCore site c).governors = s.governors := rfl
@[simp] theorem State.putCore_mxWeights (s : State) (site : Nat) (c : Core) : (s.putCore site c).mxWeights = s.mxWeights := rfl
@[simp] theorem State.putCore_arbiters (s : State) (site : Nat) (c : Core) : (s.putCore site c).arbiters = s.arbiters := rfl
@[simp] theorem State.putCore_dividers (s : State) (site : Nat) (c : Core) : (s.putCore site c).dividers = s.dividers := rfl
@[simp] theorem State.putCore_ports (s : State) (site : Nat) (c : Core) : (s.putCore site c).ports = s.ports := rfl
@[simp] theorem State.putCore_boot (s : State) (site : Nat) (c : Core) : (s.putCore site c).boot = s.boot := rfl

theorem State.core_putCore_ne (s : State) (site j : Nat) (c : Core) (h : j ≠ site) : (s.putCore site c).core j = s.core j := by
  simp [State.core, State.putCore, tabGet_tabSet_ne _ _ _ _ _ h]
@[simp] theorem State.die_putCore (s : State) (site j : Nat) (c : Core) : (s.putCore site c).die j = s.die j := rfl
@[simp] theorem State.sector_putCore (s : State) (site j : Nat) (c : Core) : (s.putCore site c).sector j = s.sector j := rfl
@[simp] theorem State.chan_putCore (s : State) (site j : Nat) (c : Core) : (s.putCore site c).chan j = s.chan j := rfl
@[simp] theorem State.gov_putCore (s : State) (site j : Nat) (c : Core) : (s.putCore site c).gov j = s.gov j := rfl
@[simp] theorem State.vdev_putCore (s : State) (site j : Nat) (c : Core) : (s.putCore site c).vdev j = s.vdev j := rfl

/-! ### The registers of a die replaced -/

@[simp] theorem State.putDie_time (s : State) (d : Nat) (x : Die) : (s.putDie d x).time = s.time := rfl
@[simp] theorem State.putDie_cyc (s : State) (d : Nat) (x : Die) : (s.putDie d x).cyc = s.cyc := rfl
@[simp] theorem State.putDie_free (s : State) (d : Nat) (x : Die) : (s.putDie d x).free = s.free := rfl
@[simp] theorem State.putDie_cur (s : State) (d : Nat) (x : Die) : (s.putDie d x).cur = s.cur := rfl
@[simp] theorem State.putDie_agenda (s : State) (d : Nat) (x : Die) : (s.putDie d x).agenda = s.agenda := rfl
@[simp] theorem State.putDie_cores (s : State) (d : Nat) (x : Die) : (s.putDie d x).cores = s.cores := rfl
@[simp] theorem State.putDie_hub (s : State) (d : Nat) (x : Die) : (s.putDie d x).hub = s.hub := rfl
@[simp] theorem State.putDie_fused (s : State) (d : Nat) (x : Die) : (s.putDie d x).fused = s.fused := rfl
@[simp] theorem State.putDie_stackGib (s : State) (d : Nat) (x : Die) : (s.putDie d x).stackGib = s.stackGib := rfl
@[simp] theorem State.putDie_errInj (s : State) (d : Nat) (x : Die) : (s.putDie d x).errInj = s.errInj := rfl
@[simp] theorem State.putDie_mem (s : State) (d : Nat) (x : Die) : (s.putDie d x).mem = s.mem := rfl
@[simp] theorem State.putDie_sectors (s : State) (d : Nat) (x : Die) : (s.putDie d x).sectors = s.sectors := rfl
@[simp] theorem State.putDie_msgs (s : State) (d : Nat) (x : Die) : (s.putDie d x).msgs = s.msgs := rfl
@[simp] theorem State.putDie_reqs (s : State) (d : Nat) (x : Die) : (s.putDie d x).reqs = s.reqs := rfl
@[simp] theorem State.putDie_hints (s : State) (d : Nat) (x : Die) : (s.putDie d x).hints = s.hints := rfl
@[simp] theorem State.putDie_regions (s : State) (d : Nat) (x : Die) : (s.putDie d x).regions = s.regions := rfl
@[simp] theorem State.putDie_pe (s : State) (d : Nat) (x : Die) : (s.putDie d x).pe = s.pe := rfl
@[simp] theorem State.putDie_hbmErr (s : State) (d : Nat) (x : Die) : (s.putDie d x).hbmErr = s.hbmErr := rfl
@[simp] theorem State.putDie_homeDiff (s : State) (d : Nat) (x : Die) : (s.putDie d x).homeDiff = s.homeDiff := rfl
@[simp] theorem State.putDie_clusTlb (s : State) (d : Nat) (x : Die) : (s.putDie d x).clusTlb = s.clusTlb := rfl
@[simp] theorem State.putDie_rounds (s : State) (d : Nat) (x : Die) : (s.putDie d x).rounds = s.rounds := rfl
@[simp] theorem State.putDie_incomingFrames (s : State) (d : Nat) (x : Die) : (s.putDie d x).incomingFrames = s.incomingFrames := rfl
@[simp] theorem State.putDie_pins (s : State) (d : Nat) (x : Die) : (s.putDie d x).pins = s.pins := rfl
@[simp] theorem State.putDie_traceQ (s : State) (d : Nat) (x : Die) : (s.putDie d x).traceQ = s.traceQ := rfl
@[simp] theorem State.putDie_hostMem (s : State) (d : Nat) (x : Die) : (s.putDie d x).hostMem = s.hostMem := rfl
@[simp] theorem State.putDie_hostLines (s : State) (d : Nat) (x : Die) : (s.putDie d x).hostLines = s.hostLines := rfl
@[simp] theorem State.putDie_hostAns (s : State) (d : Nat) (x : Die) : (s.putDie d x).hostAns = s.hostAns := rfl
@[simp] theorem State.putDie_hostCache (s : State) (d : Nat) (x : Die) : (s.putDie d x).hostCache = s.hostCache := rfl
@[simp] theorem State.putDie_extMem (s : State) (d : Nat) (x : Die) : (s.putDie d x).extMem = s.extMem := rfl
@[simp] theorem State.putDie_extAns (s : State) (d : Nat) (x : Die) : (s.putDie d x).extAns = s.extAns := rfl
@[simp] theorem State.putDie_extPoison (s : State) (d : Nat) (x : Die) : (s.putDie d x).extPoison = s.extPoison := rfl
@[simp] theorem State.putDie_chans (s : State) (d : Nat) (x : Die) : (s.putDie d x).chans = s.chans := rfl
@[simp] theorem State.putDie_releases (s : State) (d : Nat) (x : Die) : (s.putDie d x).releases = s.releases := rfl
@[simp] theorem State.putDie_gangs (s : State) (d : Nat) (x : Die) : (s.putDie d x).gangs = s.gangs := rfl
@[simp] theorem State.putDie_xmsgs (s : State) (d : Nat) (x : Die) : (s.putDie d x).xmsgs = s.xmsgs := rfl
@[simp] theorem State.putDie_ords (s : State) (d : Nat) (x : Die) : (s.putDie d x).ords = s.ords := rfl
@[simp] theorem State.putDie_lands (s : State) (d : Nat) (x : Die) : (s.putDie d x).lands = s.lands := rfl
@[simp] theorem State.putDie_probes (s : State) (d : Nat) (x : Die) : (s.putDie d x).probes = s.probes := rfl
@[simp] theorem State.putDie_waiters (s : State) (d : Nat) (x : Die) : (s.putDie d x).waiters = s.waiters := rfl
@[simp] theorem State.putDie_owed (s : State) (d : Nat) (x : Die) : (s.putDie d x).owed = s.owed := rfl
@[simp] theorem State.putDie_snaps (s : State) (d : Nat) (x : Die) : (s.putDie d x).snaps = s.snaps := rfl
@[simp] theorem State.putDie_undo (s : State) (d : Nat) (x : Die) : (s.putDie d x).undo = s.undo := rfl
@[simp] theorem State.putDie_vds (s : State) (d : Nat) (x : Die) : (s.putDie d x).vds = s.vds := rfl
@[simp] theorem State.putDie_launches (s : State) (d : Nat) (x : Die) : (s.putDie d x).launches = s.launches := rfl
@[simp] theorem State.putDie_saved (s : State) (d : Nat) (x : Die) : (s.putDie d x).saved = s.saved := rfl
@[simp] theorem State.putDie_holders (s : State) (d : Nat) (x : Die) : (s.putDie d x).holders = s.holders := rfl
@[simp] theorem State.putDie_governors (s : State) (d : Nat) (x : Die) : (s.putDie d x).governors = s.governors := rfl
@[simp] theorem State.putDie_mxWeights (s : State) (d : Nat) (x : Die) : (s.putDie d x).mxWeights = s.mxWeights := rfl
@[simp] theorem State.putDie_arbiters (s : State) (d : Nat) (x : Die) : (s.putDie d x).arbiters = s.arbiters := rfl
@[simp] theorem State.putDie_dividers (s : State) (d : Nat) (x : Die) : (s.putDie d x).dividers = s.dividers := rfl
@[simp] theorem State.putDie_ports (s : State) (d : Nat) (x : Die) : (s.putDie d x).ports = s.ports := rfl
@[simp] theorem State.putDie_boot (s : State) (d : Nat) (x : Die) : (s.putDie d x).boot = s.boot := rfl

@[simp] theorem State.die_putDie_self (s : State) (d : Nat) (x : Die) : (s.putDie d x).die d = x := by
  simp [State.die, State.putDie]
@[simp] theorem State.putDie_putDie (s : State) (d : Nat) (x y : Die) : (s.putDie d x).putDie d y = s.putDie d y := by
  simp [State.putDie, tabSet_tabSet]
theorem State.die_putDie_ne (s : State) (d j : Nat) (x : Die) (h : j ≠ d) : (s.putDie d x).die j = s.die j := by
  simp [State.die, State.putDie, tabGet_tabSet_ne _ _ _ _ _ h]
@[simp] theorem State.core_putDie (s : State) (d j : Nat) (x : Die) : (s.putDie d x).core j = s.core j := rfl
@[simp] theorem State.sector_putDie (s : State) (d j : Nat) (x : Die) : (s.putDie d x).sector j = s.sector j := rfl
@[simp] theorem State.chan_putDie (s : State) (d j : Nat) (x : Die) : (s.putDie d x).chan j = s.chan j := rfl
@[simp] theorem State.gov_putDie (s : State) (d j : Nat) (x : Die) : (s.putDie d x).gov j = s.gov j := rfl
@[simp] theorem State.vdev_putDie (s : State) (d j : Nat) (x : Die) : (s.putDie d x).vdev j = s.vdev j := rfl

/-! ### A sector replaced -/

@[simp] theorem State.putSector_time (s : State) (k : Nat) (x : Sector) : (s.putSector k x).time = s.time := rfl
@[simp] theorem State.putSector_cyc (s : State) (k : Nat) (x : Sector) : (s.putSector k x).cyc = s.cyc := rfl
@[simp] theorem State.putSector_free (s : State) (k : Nat) (x : Sector) : (s.putSector k x).free = s.free := rfl
@[simp] theorem State.putSector_cur (s : State) (k : Nat) (x : Sector) : (s.putSector k x).cur = s.cur := rfl
@[simp] theorem State.putSector_agenda (s : State) (k : Nat) (x : Sector) : (s.putSector k x).agenda = s.agenda := rfl
@[simp] theorem State.putSector_cores (s : State) (k : Nat) (x : Sector) : (s.putSector k x).cores = s.cores := rfl
@[simp] theorem State.putSector_dies (s : State) (k : Nat) (x : Sector) : (s.putSector k x).dies = s.dies := rfl
@[simp] theorem State.putSector_hub (s : State) (k : Nat) (x : Sector) : (s.putSector k x).hub = s.hub := rfl
@[simp] theorem State.putSector_fused (s : State) (k : Nat) (x : Sector) : (s.putSector k x).fused = s.fused := rfl
@[simp] theorem State.putSector_stackGib (s : State) (k : Nat) (x : Sector) : (s.putSector k x).stackGib = s.stackGib := rfl
@[simp] theorem State.putSector_errInj (s : State) (k : Nat) (x : Sector) : (s.putSector k x).errInj = s.errInj := rfl
@[simp] theorem State.putSector_mem (s : State) (k : Nat) (x : Sector) : (s.putSector k x).mem = s.mem := rfl
@[simp] theorem State.putSector_msgs (s : State) (k : Nat) (x : Sector) : (s.putSector k x).msgs = s.msgs := rfl
@[simp] theorem State.putSector_reqs (s : State) (k : Nat) (x : Sector) : (s.putSector k x).reqs = s.reqs := rfl
@[simp] theorem State.putSector_hints (s : State) (k : Nat) (x : Sector) : (s.putSector k x).hints = s.hints := rfl
@[simp] theorem State.putSector_regions (s : State) (k : Nat) (x : Sector) : (s.putSector k x).regions = s.regions := rfl
@[simp] theorem State.putSector_pe (s : State) (k : Nat) (x : Sector) : (s.putSector k x).pe = s.pe := rfl
@[simp] theorem State.putSector_hbmErr (s : State) (k : Nat) (x : Sector) : (s.putSector k x).hbmErr = s.hbmErr := rfl
@[simp] theorem State.putSector_homeDiff (s : State) (k : Nat) (x : Sector) : (s.putSector k x).homeDiff = s.homeDiff := rfl
@[simp] theorem State.putSector_clusTlb (s : State) (k : Nat) (x : Sector) : (s.putSector k x).clusTlb = s.clusTlb := rfl
@[simp] theorem State.putSector_rounds (s : State) (k : Nat) (x : Sector) : (s.putSector k x).rounds = s.rounds := rfl
@[simp] theorem State.putSector_incomingFrames (s : State) (k : Nat) (x : Sector) : (s.putSector k x).incomingFrames = s.incomingFrames := rfl
@[simp] theorem State.putSector_pins (s : State) (k : Nat) (x : Sector) : (s.putSector k x).pins = s.pins := rfl
@[simp] theorem State.putSector_traceQ (s : State) (k : Nat) (x : Sector) : (s.putSector k x).traceQ = s.traceQ := rfl
@[simp] theorem State.putSector_hostMem (s : State) (k : Nat) (x : Sector) : (s.putSector k x).hostMem = s.hostMem := rfl
@[simp] theorem State.putSector_hostLines (s : State) (k : Nat) (x : Sector) : (s.putSector k x).hostLines = s.hostLines := rfl
@[simp] theorem State.putSector_hostAns (s : State) (k : Nat) (x : Sector) : (s.putSector k x).hostAns = s.hostAns := rfl
@[simp] theorem State.putSector_hostCache (s : State) (k : Nat) (x : Sector) : (s.putSector k x).hostCache = s.hostCache := rfl
@[simp] theorem State.putSector_extMem (s : State) (k : Nat) (x : Sector) : (s.putSector k x).extMem = s.extMem := rfl
@[simp] theorem State.putSector_extAns (s : State) (k : Nat) (x : Sector) : (s.putSector k x).extAns = s.extAns := rfl
@[simp] theorem State.putSector_extPoison (s : State) (k : Nat) (x : Sector) : (s.putSector k x).extPoison = s.extPoison := rfl
@[simp] theorem State.putSector_chans (s : State) (k : Nat) (x : Sector) : (s.putSector k x).chans = s.chans := rfl
@[simp] theorem State.putSector_releases (s : State) (k : Nat) (x : Sector) : (s.putSector k x).releases = s.releases := rfl
@[simp] theorem State.putSector_gangs (s : State) (k : Nat) (x : Sector) : (s.putSector k x).gangs = s.gangs := rfl
@[simp] theorem State.putSector_xmsgs (s : State) (k : Nat) (x : Sector) : (s.putSector k x).xmsgs = s.xmsgs := rfl
@[simp] theorem State.putSector_ords (s : State) (k : Nat) (x : Sector) : (s.putSector k x).ords = s.ords := rfl
@[simp] theorem State.putSector_lands (s : State) (k : Nat) (x : Sector) : (s.putSector k x).lands = s.lands := rfl
@[simp] theorem State.putSector_probes (s : State) (k : Nat) (x : Sector) : (s.putSector k x).probes = s.probes := rfl
@[simp] theorem State.putSector_waiters (s : State) (k : Nat) (x : Sector) : (s.putSector k x).waiters = s.waiters := rfl
@[simp] theorem State.putSector_owed (s : State) (k : Nat) (x : Sector) : (s.putSector k x).owed = s.owed := rfl
@[simp] theorem State.putSector_snaps (s : State) (k : Nat) (x : Sector) : (s.putSector k x).snaps = s.snaps := rfl
@[simp] theorem State.putSector_undo (s : State) (k : Nat) (x : Sector) : (s.putSector k x).undo = s.undo := rfl
@[simp] theorem State.putSector_vds (s : State) (k : Nat) (x : Sector) : (s.putSector k x).vds = s.vds := rfl
@[simp] theorem State.putSector_launches (s : State) (k : Nat) (x : Sector) : (s.putSector k x).launches = s.launches := rfl
@[simp] theorem State.putSector_saved (s : State) (k : Nat) (x : Sector) : (s.putSector k x).saved = s.saved := rfl
@[simp] theorem State.putSector_holders (s : State) (k : Nat) (x : Sector) : (s.putSector k x).holders = s.holders := rfl
@[simp] theorem State.putSector_governors (s : State) (k : Nat) (x : Sector) : (s.putSector k x).governors = s.governors := rfl
@[simp] theorem State.putSector_mxWeights (s : State) (k : Nat) (x : Sector) : (s.putSector k x).mxWeights = s.mxWeights := rfl
@[simp] theorem State.putSector_arbiters (s : State) (k : Nat) (x : Sector) : (s.putSector k x).arbiters = s.arbiters := rfl
@[simp] theorem State.putSector_dividers (s : State) (k : Nat) (x : Sector) : (s.putSector k x).dividers = s.dividers := rfl
@[simp] theorem State.putSector_ports (s : State) (k : Nat) (x : Sector) : (s.putSector k x).ports = s.ports := rfl
@[simp] theorem State.putSector_boot (s : State) (k : Nat) (x : Sector) : (s.putSector k x).boot = s.boot := rfl

@[simp] theorem State.sector_putSector_self (s : State) (k : Nat) (x : Sector) : (s.putSector k x).sector k = x := by
  simp [State.sector, State.putSector]
@[simp] theorem State.putSector_putSector (s : State) (k : Nat) (x y : Sector) : (s.putSector k x).putSector k y = s.putSector k y := by
  simp [State.putSector, tabSet_tabSet]
theorem State.sector_putSector_ne (s : State) (k j : Nat) (x : Sector) (h : j ≠ k) : (s.putSector k x).sector j = s.sector j := by
  simp [State.sector, State.putSector, tabGet_tabSet_ne _ _ _ _ _ h]
@[simp] theorem State.core_putSector (s : State) (k j : Nat) (x : Sector) : (s.putSector k x).core j = s.core j := rfl
@[simp] theorem State.die_putSector (s : State) (k j : Nat) (x : Sector) : (s.putSector k x).die j = s.die j := rfl
@[simp] theorem State.chan_putSector (s : State) (k j : Nat) (x : Sector) : (s.putSector k x).chan j = s.chan j := rfl
@[simp] theorem State.gov_putSector (s : State) (k j : Nat) (x : Sector) : (s.putSector k x).gov j = s.gov j := rfl
@[simp] theorem State.vdev_putSector (s : State) (k j : Nat) (x : Sector) : (s.putSector k x).vdev j = s.vdev j := rfl

/-! ### A barrier channel replaced -/

@[simp] theorem State.putChan_time (s : State) (k : Nat) (x : Channel) : (s.putChan k x).time = s.time := rfl
@[simp] theorem State.putChan_cyc (s : State) (k : Nat) (x : Channel) : (s.putChan k x).cyc = s.cyc := rfl
@[simp] theorem State.putChan_free (s : State) (k : Nat) (x : Channel) : (s.putChan k x).free = s.free := rfl
@[simp] theorem State.putChan_cur (s : State) (k : Nat) (x : Channel) : (s.putChan k x).cur = s.cur := rfl
@[simp] theorem State.putChan_agenda (s : State) (k : Nat) (x : Channel) : (s.putChan k x).agenda = s.agenda := rfl
@[simp] theorem State.putChan_cores (s : State) (k : Nat) (x : Channel) : (s.putChan k x).cores = s.cores := rfl
@[simp] theorem State.putChan_dies (s : State) (k : Nat) (x : Channel) : (s.putChan k x).dies = s.dies := rfl
@[simp] theorem State.putChan_hub (s : State) (k : Nat) (x : Channel) : (s.putChan k x).hub = s.hub := rfl
@[simp] theorem State.putChan_fused (s : State) (k : Nat) (x : Channel) : (s.putChan k x).fused = s.fused := rfl
@[simp] theorem State.putChan_stackGib (s : State) (k : Nat) (x : Channel) : (s.putChan k x).stackGib = s.stackGib := rfl
@[simp] theorem State.putChan_errInj (s : State) (k : Nat) (x : Channel) : (s.putChan k x).errInj = s.errInj := rfl
@[simp] theorem State.putChan_mem (s : State) (k : Nat) (x : Channel) : (s.putChan k x).mem = s.mem := rfl
@[simp] theorem State.putChan_sectors (s : State) (k : Nat) (x : Channel) : (s.putChan k x).sectors = s.sectors := rfl
@[simp] theorem State.putChan_msgs (s : State) (k : Nat) (x : Channel) : (s.putChan k x).msgs = s.msgs := rfl
@[simp] theorem State.putChan_reqs (s : State) (k : Nat) (x : Channel) : (s.putChan k x).reqs = s.reqs := rfl
@[simp] theorem State.putChan_hints (s : State) (k : Nat) (x : Channel) : (s.putChan k x).hints = s.hints := rfl
@[simp] theorem State.putChan_regions (s : State) (k : Nat) (x : Channel) : (s.putChan k x).regions = s.regions := rfl
@[simp] theorem State.putChan_pe (s : State) (k : Nat) (x : Channel) : (s.putChan k x).pe = s.pe := rfl
@[simp] theorem State.putChan_hbmErr (s : State) (k : Nat) (x : Channel) : (s.putChan k x).hbmErr = s.hbmErr := rfl
@[simp] theorem State.putChan_homeDiff (s : State) (k : Nat) (x : Channel) : (s.putChan k x).homeDiff = s.homeDiff := rfl
@[simp] theorem State.putChan_clusTlb (s : State) (k : Nat) (x : Channel) : (s.putChan k x).clusTlb = s.clusTlb := rfl
@[simp] theorem State.putChan_rounds (s : State) (k : Nat) (x : Channel) : (s.putChan k x).rounds = s.rounds := rfl
@[simp] theorem State.putChan_incomingFrames (s : State) (k : Nat) (x : Channel) : (s.putChan k x).incomingFrames = s.incomingFrames := rfl
@[simp] theorem State.putChan_pins (s : State) (k : Nat) (x : Channel) : (s.putChan k x).pins = s.pins := rfl
@[simp] theorem State.putChan_traceQ (s : State) (k : Nat) (x : Channel) : (s.putChan k x).traceQ = s.traceQ := rfl
@[simp] theorem State.putChan_hostMem (s : State) (k : Nat) (x : Channel) : (s.putChan k x).hostMem = s.hostMem := rfl
@[simp] theorem State.putChan_hostLines (s : State) (k : Nat) (x : Channel) : (s.putChan k x).hostLines = s.hostLines := rfl
@[simp] theorem State.putChan_hostAns (s : State) (k : Nat) (x : Channel) : (s.putChan k x).hostAns = s.hostAns := rfl
@[simp] theorem State.putChan_hostCache (s : State) (k : Nat) (x : Channel) : (s.putChan k x).hostCache = s.hostCache := rfl
@[simp] theorem State.putChan_extMem (s : State) (k : Nat) (x : Channel) : (s.putChan k x).extMem = s.extMem := rfl
@[simp] theorem State.putChan_extAns (s : State) (k : Nat) (x : Channel) : (s.putChan k x).extAns = s.extAns := rfl
@[simp] theorem State.putChan_extPoison (s : State) (k : Nat) (x : Channel) : (s.putChan k x).extPoison = s.extPoison := rfl
@[simp] theorem State.putChan_releases (s : State) (k : Nat) (x : Channel) : (s.putChan k x).releases = s.releases := rfl
@[simp] theorem State.putChan_gangs (s : State) (k : Nat) (x : Channel) : (s.putChan k x).gangs = s.gangs := rfl
@[simp] theorem State.putChan_xmsgs (s : State) (k : Nat) (x : Channel) : (s.putChan k x).xmsgs = s.xmsgs := rfl
@[simp] theorem State.putChan_ords (s : State) (k : Nat) (x : Channel) : (s.putChan k x).ords = s.ords := rfl
@[simp] theorem State.putChan_lands (s : State) (k : Nat) (x : Channel) : (s.putChan k x).lands = s.lands := rfl
@[simp] theorem State.putChan_probes (s : State) (k : Nat) (x : Channel) : (s.putChan k x).probes = s.probes := rfl
@[simp] theorem State.putChan_waiters (s : State) (k : Nat) (x : Channel) : (s.putChan k x).waiters = s.waiters := rfl
@[simp] theorem State.putChan_owed (s : State) (k : Nat) (x : Channel) : (s.putChan k x).owed = s.owed := rfl
@[simp] theorem State.putChan_snaps (s : State) (k : Nat) (x : Channel) : (s.putChan k x).snaps = s.snaps := rfl
@[simp] theorem State.putChan_undo (s : State) (k : Nat) (x : Channel) : (s.putChan k x).undo = s.undo := rfl
@[simp] theorem State.putChan_vds (s : State) (k : Nat) (x : Channel) : (s.putChan k x).vds = s.vds := rfl
@[simp] theorem State.putChan_launches (s : State) (k : Nat) (x : Channel) : (s.putChan k x).launches = s.launches := rfl
@[simp] theorem State.putChan_saved (s : State) (k : Nat) (x : Channel) : (s.putChan k x).saved = s.saved := rfl
@[simp] theorem State.putChan_holders (s : State) (k : Nat) (x : Channel) : (s.putChan k x).holders = s.holders := rfl
@[simp] theorem State.putChan_governors (s : State) (k : Nat) (x : Channel) : (s.putChan k x).governors = s.governors := rfl
@[simp] theorem State.putChan_mxWeights (s : State) (k : Nat) (x : Channel) : (s.putChan k x).mxWeights = s.mxWeights := rfl
@[simp] theorem State.putChan_arbiters (s : State) (k : Nat) (x : Channel) : (s.putChan k x).arbiters = s.arbiters := rfl
@[simp] theorem State.putChan_dividers (s : State) (k : Nat) (x : Channel) : (s.putChan k x).dividers = s.dividers := rfl
@[simp] theorem State.putChan_ports (s : State) (k : Nat) (x : Channel) : (s.putChan k x).ports = s.ports := rfl
@[simp] theorem State.putChan_boot (s : State) (k : Nat) (x : Channel) : (s.putChan k x).boot = s.boot := rfl

@[simp] theorem State.chan_putChan_self (s : State) (k : Nat) (x : Channel) : (s.putChan k x).chan k = x := by
  simp [State.chan, State.putChan]
@[simp] theorem State.putChan_putChan (s : State) (k : Nat) (x y : Channel) : (s.putChan k x).putChan k y = s.putChan k y := by
  simp [State.putChan, tabSet_tabSet]
theorem State.chan_putChan_ne (s : State) (k j : Nat) (x : Channel) (h : j ≠ k) : (s.putChan k x).chan j = s.chan j := by
  simp [State.chan, State.putChan, tabGet_tabSet_ne _ _ _ _ _ h]
@[simp] theorem State.core_putChan (s : State) (k j : Nat) (x : Channel) : (s.putChan k x).core j = s.core j := rfl
@[simp] theorem State.die_putChan (s : State) (k j : Nat) (x : Channel) : (s.putChan k x).die j = s.die j := rfl
@[simp] theorem State.sector_putChan (s : State) (k j : Nat) (x : Channel) : (s.putChan k x).sector j = s.sector j := rfl
@[simp] theorem State.gov_putChan (s : State) (k j : Nat) (x : Channel) : (s.putChan k x).gov j = s.gov j := rfl
@[simp] theorem State.vdev_putChan (s : State) (k j : Nat) (x : Channel) : (s.putChan k x).vdev j = s.vdev j := rfl

/-! ### A governor replaced -/

@[simp] theorem State.putGov_time (s : State) (q : Nat) (x : Governor) : (s.putGov q x).time = s.time := rfl
@[simp] theorem State.putGov_cyc (s : State) (q : Nat) (x : Governor) : (s.putGov q x).cyc = s.cyc := rfl
@[simp] theorem State.putGov_free (s : State) (q : Nat) (x : Governor) : (s.putGov q x).free = s.free := rfl
@[simp] theorem State.putGov_cur (s : State) (q : Nat) (x : Governor) : (s.putGov q x).cur = s.cur := rfl
@[simp] theorem State.putGov_agenda (s : State) (q : Nat) (x : Governor) : (s.putGov q x).agenda = s.agenda := rfl
@[simp] theorem State.putGov_cores (s : State) (q : Nat) (x : Governor) : (s.putGov q x).cores = s.cores := rfl
@[simp] theorem State.putGov_dies (s : State) (q : Nat) (x : Governor) : (s.putGov q x).dies = s.dies := rfl
@[simp] theorem State.putGov_hub (s : State) (q : Nat) (x : Governor) : (s.putGov q x).hub = s.hub := rfl
@[simp] theorem State.putGov_fused (s : State) (q : Nat) (x : Governor) : (s.putGov q x).fused = s.fused := rfl
@[simp] theorem State.putGov_stackGib (s : State) (q : Nat) (x : Governor) : (s.putGov q x).stackGib = s.stackGib := rfl
@[simp] theorem State.putGov_errInj (s : State) (q : Nat) (x : Governor) : (s.putGov q x).errInj = s.errInj := rfl
@[simp] theorem State.putGov_mem (s : State) (q : Nat) (x : Governor) : (s.putGov q x).mem = s.mem := rfl
@[simp] theorem State.putGov_sectors (s : State) (q : Nat) (x : Governor) : (s.putGov q x).sectors = s.sectors := rfl
@[simp] theorem State.putGov_msgs (s : State) (q : Nat) (x : Governor) : (s.putGov q x).msgs = s.msgs := rfl
@[simp] theorem State.putGov_reqs (s : State) (q : Nat) (x : Governor) : (s.putGov q x).reqs = s.reqs := rfl
@[simp] theorem State.putGov_hints (s : State) (q : Nat) (x : Governor) : (s.putGov q x).hints = s.hints := rfl
@[simp] theorem State.putGov_regions (s : State) (q : Nat) (x : Governor) : (s.putGov q x).regions = s.regions := rfl
@[simp] theorem State.putGov_pe (s : State) (q : Nat) (x : Governor) : (s.putGov q x).pe = s.pe := rfl
@[simp] theorem State.putGov_hbmErr (s : State) (q : Nat) (x : Governor) : (s.putGov q x).hbmErr = s.hbmErr := rfl
@[simp] theorem State.putGov_homeDiff (s : State) (q : Nat) (x : Governor) : (s.putGov q x).homeDiff = s.homeDiff := rfl
@[simp] theorem State.putGov_clusTlb (s : State) (q : Nat) (x : Governor) : (s.putGov q x).clusTlb = s.clusTlb := rfl
@[simp] theorem State.putGov_rounds (s : State) (q : Nat) (x : Governor) : (s.putGov q x).rounds = s.rounds := rfl
@[simp] theorem State.putGov_incomingFrames (s : State) (q : Nat) (x : Governor) : (s.putGov q x).incomingFrames = s.incomingFrames := rfl
@[simp] theorem State.putGov_pins (s : State) (q : Nat) (x : Governor) : (s.putGov q x).pins = s.pins := rfl
@[simp] theorem State.putGov_traceQ (s : State) (q : Nat) (x : Governor) : (s.putGov q x).traceQ = s.traceQ := rfl
@[simp] theorem State.putGov_hostMem (s : State) (q : Nat) (x : Governor) : (s.putGov q x).hostMem = s.hostMem := rfl
@[simp] theorem State.putGov_hostLines (s : State) (q : Nat) (x : Governor) : (s.putGov q x).hostLines = s.hostLines := rfl
@[simp] theorem State.putGov_hostAns (s : State) (q : Nat) (x : Governor) : (s.putGov q x).hostAns = s.hostAns := rfl
@[simp] theorem State.putGov_hostCache (s : State) (q : Nat) (x : Governor) : (s.putGov q x).hostCache = s.hostCache := rfl
@[simp] theorem State.putGov_extMem (s : State) (q : Nat) (x : Governor) : (s.putGov q x).extMem = s.extMem := rfl
@[simp] theorem State.putGov_extAns (s : State) (q : Nat) (x : Governor) : (s.putGov q x).extAns = s.extAns := rfl
@[simp] theorem State.putGov_extPoison (s : State) (q : Nat) (x : Governor) : (s.putGov q x).extPoison = s.extPoison := rfl
@[simp] theorem State.putGov_chans (s : State) (q : Nat) (x : Governor) : (s.putGov q x).chans = s.chans := rfl
@[simp] theorem State.putGov_releases (s : State) (q : Nat) (x : Governor) : (s.putGov q x).releases = s.releases := rfl
@[simp] theorem State.putGov_gangs (s : State) (q : Nat) (x : Governor) : (s.putGov q x).gangs = s.gangs := rfl
@[simp] theorem State.putGov_xmsgs (s : State) (q : Nat) (x : Governor) : (s.putGov q x).xmsgs = s.xmsgs := rfl
@[simp] theorem State.putGov_ords (s : State) (q : Nat) (x : Governor) : (s.putGov q x).ords = s.ords := rfl
@[simp] theorem State.putGov_lands (s : State) (q : Nat) (x : Governor) : (s.putGov q x).lands = s.lands := rfl
@[simp] theorem State.putGov_probes (s : State) (q : Nat) (x : Governor) : (s.putGov q x).probes = s.probes := rfl
@[simp] theorem State.putGov_waiters (s : State) (q : Nat) (x : Governor) : (s.putGov q x).waiters = s.waiters := rfl
@[simp] theorem State.putGov_owed (s : State) (q : Nat) (x : Governor) : (s.putGov q x).owed = s.owed := rfl
@[simp] theorem State.putGov_snaps (s : State) (q : Nat) (x : Governor) : (s.putGov q x).snaps = s.snaps := rfl
@[simp] theorem State.putGov_undo (s : State) (q : Nat) (x : Governor) : (s.putGov q x).undo = s.undo := rfl
@[simp] theorem State.putGov_vds (s : State) (q : Nat) (x : Governor) : (s.putGov q x).vds = s.vds := rfl
@[simp] theorem State.putGov_launches (s : State) (q : Nat) (x : Governor) : (s.putGov q x).launches = s.launches := rfl
@[simp] theorem State.putGov_saved (s : State) (q : Nat) (x : Governor) : (s.putGov q x).saved = s.saved := rfl
@[simp] theorem State.putGov_holders (s : State) (q : Nat) (x : Governor) : (s.putGov q x).holders = s.holders := rfl
@[simp] theorem State.putGov_mxWeights (s : State) (q : Nat) (x : Governor) : (s.putGov q x).mxWeights = s.mxWeights := rfl
@[simp] theorem State.putGov_arbiters (s : State) (q : Nat) (x : Governor) : (s.putGov q x).arbiters = s.arbiters := rfl
@[simp] theorem State.putGov_dividers (s : State) (q : Nat) (x : Governor) : (s.putGov q x).dividers = s.dividers := rfl
@[simp] theorem State.putGov_ports (s : State) (q : Nat) (x : Governor) : (s.putGov q x).ports = s.ports := rfl
@[simp] theorem State.putGov_boot (s : State) (q : Nat) (x : Governor) : (s.putGov q x).boot = s.boot := rfl

@[simp] theorem State.gov_putGov_self (s : State) (q : Nat) (x : Governor) : (s.putGov q x).gov q = x := by
  simp [State.gov, State.putGov]
@[simp] theorem State.putGov_putGov (s : State) (q : Nat) (x y : Governor) : (s.putGov q x).putGov q y = s.putGov q y := by
  simp [State.putGov, tabSet_tabSet]
theorem State.gov_putGov_ne (s : State) (q j : Nat) (x : Governor) (h : j ≠ q) : (s.putGov q x).gov j = s.gov j := by
  simp [State.gov, State.putGov, tabGet_tabSet_ne _ _ _ _ _ h]
@[simp] theorem State.core_putGov (s : State) (q j : Nat) (x : Governor) : (s.putGov q x).core j = s.core j := rfl
@[simp] theorem State.die_putGov (s : State) (q j : Nat) (x : Governor) : (s.putGov q x).die j = s.die j := rfl
@[simp] theorem State.sector_putGov (s : State) (q j : Nat) (x : Governor) : (s.putGov q x).sector j = s.sector j := rfl
@[simp] theorem State.chan_putGov (s : State) (q j : Nat) (x : Governor) : (s.putGov q x).chan j = s.chan j := rfl
@[simp] theorem State.vdev_putGov (s : State) (q j : Nat) (x : Governor) : (s.putGov q x).vdev j = s.vdev j := rfl

/-! ### A virtual device replaced -/

@[simp] theorem State.putVdev_time (s : State) (v : Nat) (x : VDev) : (s.putVdev v x).time = s.time := rfl
@[simp] theorem State.putVdev_cyc (s : State) (v : Nat) (x : VDev) : (s.putVdev v x).cyc = s.cyc := rfl
@[simp] theorem State.putVdev_free (s : State) (v : Nat) (x : VDev) : (s.putVdev v x).free = s.free := rfl
@[simp] theorem State.putVdev_cur (s : State) (v : Nat) (x : VDev) : (s.putVdev v x).cur = s.cur := rfl
@[simp] theorem State.putVdev_agenda (s : State) (v : Nat) (x : VDev) : (s.putVdev v x).agenda = s.agenda := rfl
@[simp] theorem State.putVdev_cores (s : State) (v : Nat) (x : VDev) : (s.putVdev v x).cores = s.cores := rfl
@[simp] theorem State.putVdev_dies (s : State) (v : Nat) (x : VDev) : (s.putVdev v x).dies = s.dies := rfl
@[simp] theorem State.putVdev_hub (s : State) (v : Nat) (x : VDev) : (s.putVdev v x).hub = s.hub := rfl
@[simp] theorem State.putVdev_fused (s : State) (v : Nat) (x : VDev) : (s.putVdev v x).fused = s.fused := rfl
@[simp] theorem State.putVdev_stackGib (s : State) (v : Nat) (x : VDev) : (s.putVdev v x).stackGib = s.stackGib := rfl
@[simp] theorem State.putVdev_errInj (s : State) (v : Nat) (x : VDev) : (s.putVdev v x).errInj = s.errInj := rfl
@[simp] theorem State.putVdev_mem (s : State) (v : Nat) (x : VDev) : (s.putVdev v x).mem = s.mem := rfl
@[simp] theorem State.putVdev_sectors (s : State) (v : Nat) (x : VDev) : (s.putVdev v x).sectors = s.sectors := rfl
@[simp] theorem State.putVdev_msgs (s : State) (v : Nat) (x : VDev) : (s.putVdev v x).msgs = s.msgs := rfl
@[simp] theorem State.putVdev_reqs (s : State) (v : Nat) (x : VDev) : (s.putVdev v x).reqs = s.reqs := rfl
@[simp] theorem State.putVdev_hints (s : State) (v : Nat) (x : VDev) : (s.putVdev v x).hints = s.hints := rfl
@[simp] theorem State.putVdev_regions (s : State) (v : Nat) (x : VDev) : (s.putVdev v x).regions = s.regions := rfl
@[simp] theorem State.putVdev_pe (s : State) (v : Nat) (x : VDev) : (s.putVdev v x).pe = s.pe := rfl
@[simp] theorem State.putVdev_hbmErr (s : State) (v : Nat) (x : VDev) : (s.putVdev v x).hbmErr = s.hbmErr := rfl
@[simp] theorem State.putVdev_homeDiff (s : State) (v : Nat) (x : VDev) : (s.putVdev v x).homeDiff = s.homeDiff := rfl
@[simp] theorem State.putVdev_clusTlb (s : State) (v : Nat) (x : VDev) : (s.putVdev v x).clusTlb = s.clusTlb := rfl
@[simp] theorem State.putVdev_rounds (s : State) (v : Nat) (x : VDev) : (s.putVdev v x).rounds = s.rounds := rfl
@[simp] theorem State.putVdev_incomingFrames (s : State) (v : Nat) (x : VDev) : (s.putVdev v x).incomingFrames = s.incomingFrames := rfl
@[simp] theorem State.putVdev_pins (s : State) (v : Nat) (x : VDev) : (s.putVdev v x).pins = s.pins := rfl
@[simp] theorem State.putVdev_traceQ (s : State) (v : Nat) (x : VDev) : (s.putVdev v x).traceQ = s.traceQ := rfl
@[simp] theorem State.putVdev_hostMem (s : State) (v : Nat) (x : VDev) : (s.putVdev v x).hostMem = s.hostMem := rfl
@[simp] theorem State.putVdev_hostLines (s : State) (v : Nat) (x : VDev) : (s.putVdev v x).hostLines = s.hostLines := rfl
@[simp] theorem State.putVdev_hostAns (s : State) (v : Nat) (x : VDev) : (s.putVdev v x).hostAns = s.hostAns := rfl
@[simp] theorem State.putVdev_hostCache (s : State) (v : Nat) (x : VDev) : (s.putVdev v x).hostCache = s.hostCache := rfl
@[simp] theorem State.putVdev_extMem (s : State) (v : Nat) (x : VDev) : (s.putVdev v x).extMem = s.extMem := rfl
@[simp] theorem State.putVdev_extAns (s : State) (v : Nat) (x : VDev) : (s.putVdev v x).extAns = s.extAns := rfl
@[simp] theorem State.putVdev_extPoison (s : State) (v : Nat) (x : VDev) : (s.putVdev v x).extPoison = s.extPoison := rfl
@[simp] theorem State.putVdev_chans (s : State) (v : Nat) (x : VDev) : (s.putVdev v x).chans = s.chans := rfl
@[simp] theorem State.putVdev_releases (s : State) (v : Nat) (x : VDev) : (s.putVdev v x).releases = s.releases := rfl
@[simp] theorem State.putVdev_gangs (s : State) (v : Nat) (x : VDev) : (s.putVdev v x).gangs = s.gangs := rfl
@[simp] theorem State.putVdev_xmsgs (s : State) (v : Nat) (x : VDev) : (s.putVdev v x).xmsgs = s.xmsgs := rfl
@[simp] theorem State.putVdev_ords (s : State) (v : Nat) (x : VDev) : (s.putVdev v x).ords = s.ords := rfl
@[simp] theorem State.putVdev_lands (s : State) (v : Nat) (x : VDev) : (s.putVdev v x).lands = s.lands := rfl
@[simp] theorem State.putVdev_probes (s : State) (v : Nat) (x : VDev) : (s.putVdev v x).probes = s.probes := rfl
@[simp] theorem State.putVdev_waiters (s : State) (v : Nat) (x : VDev) : (s.putVdev v x).waiters = s.waiters := rfl
@[simp] theorem State.putVdev_owed (s : State) (v : Nat) (x : VDev) : (s.putVdev v x).owed = s.owed := rfl
@[simp] theorem State.putVdev_snaps (s : State) (v : Nat) (x : VDev) : (s.putVdev v x).snaps = s.snaps := rfl
@[simp] theorem State.putVdev_undo (s : State) (v : Nat) (x : VDev) : (s.putVdev v x).undo = s.undo := rfl
@[simp] theorem State.putVdev_launches (s : State) (v : Nat) (x : VDev) : (s.putVdev v x).launches = s.launches := rfl
@[simp] theorem State.putVdev_saved (s : State) (v : Nat) (x : VDev) : (s.putVdev v x).saved = s.saved := rfl
@[simp] theorem State.putVdev_holders (s : State) (v : Nat) (x : VDev) : (s.putVdev v x).holders = s.holders := rfl
@[simp] theorem State.putVdev_governors (s : State) (v : Nat) (x : VDev) : (s.putVdev v x).governors = s.governors := rfl
@[simp] theorem State.putVdev_mxWeights (s : State) (v : Nat) (x : VDev) : (s.putVdev v x).mxWeights = s.mxWeights := rfl
@[simp] theorem State.putVdev_arbiters (s : State) (v : Nat) (x : VDev) : (s.putVdev v x).arbiters = s.arbiters := rfl
@[simp] theorem State.putVdev_dividers (s : State) (v : Nat) (x : VDev) : (s.putVdev v x).dividers = s.dividers := rfl
@[simp] theorem State.putVdev_ports (s : State) (v : Nat) (x : VDev) : (s.putVdev v x).ports = s.ports := rfl
@[simp] theorem State.putVdev_boot (s : State) (v : Nat) (x : VDev) : (s.putVdev v x).boot = s.boot := rfl

@[simp] theorem State.vdev_putVdev_self (s : State) (v : Nat) (x : VDev) : (s.putVdev v x).vdev v = x := by
  simp [State.vdev, State.putVdev]
@[simp] theorem State.putVdev_putVdev (s : State) (v : Nat) (x y : VDev) : (s.putVdev v x).putVdev v y = s.putVdev v y := by
  simp [State.putVdev, tabSet_tabSet]
theorem State.vdev_putVdev_ne (s : State) (v j : Nat) (x : VDev) (h : j ≠ v) : (s.putVdev v x).vdev j = s.vdev j := by
  simp [State.vdev, State.putVdev, tabGet_tabSet_ne _ _ _ _ _ h]
@[simp] theorem State.core_putVdev (s : State) (v j : Nat) (x : VDev) : (s.putVdev v x).core j = s.core j := rfl
@[simp] theorem State.die_putVdev (s : State) (v j : Nat) (x : VDev) : (s.putVdev v x).die j = s.die j := rfl
@[simp] theorem State.sector_putVdev (s : State) (v j : Nat) (x : VDev) : (s.putVdev v x).sector j = s.sector j := rfl
@[simp] theorem State.chan_putVdev (s : State) (v j : Nat) (x : VDev) : (s.putVdev v x).chan j = s.chan j := rfl
@[simp] theorem State.gov_putVdev (s : State) (v j : Nat) (x : VDev) : (s.putVdev v x).gov j = s.gov j := rfl

/-! ### Records for the trace units noted -/

@[simp] theorem State.note_time (s : State) (es : List TraceEv) : (s.note es).time = s.time := rfl
@[simp] theorem State.note_cyc (s : State) (es : List TraceEv) : (s.note es).cyc = s.cyc := rfl
@[simp] theorem State.note_free (s : State) (es : List TraceEv) : (s.note es).free = s.free := rfl
@[simp] theorem State.note_cur (s : State) (es : List TraceEv) : (s.note es).cur = s.cur := rfl
@[simp] theorem State.note_agenda (s : State) (es : List TraceEv) : (s.note es).agenda = s.agenda := rfl
@[simp] theorem State.note_cores (s : State) (es : List TraceEv) : (s.note es).cores = s.cores := rfl
@[simp] theorem State.note_dies (s : State) (es : List TraceEv) : (s.note es).dies = s.dies := rfl
@[simp] theorem State.note_hub (s : State) (es : List TraceEv) : (s.note es).hub = s.hub := rfl
@[simp] theorem State.note_fused (s : State) (es : List TraceEv) : (s.note es).fused = s.fused := rfl
@[simp] theorem State.note_stackGib (s : State) (es : List TraceEv) : (s.note es).stackGib = s.stackGib := rfl
@[simp] theorem State.note_errInj (s : State) (es : List TraceEv) : (s.note es).errInj = s.errInj := rfl
@[simp] theorem State.note_mem (s : State) (es : List TraceEv) : (s.note es).mem = s.mem := rfl
@[simp] theorem State.note_sectors (s : State) (es : List TraceEv) : (s.note es).sectors = s.sectors := rfl
@[simp] theorem State.note_msgs (s : State) (es : List TraceEv) : (s.note es).msgs = s.msgs := rfl
@[simp] theorem State.note_reqs (s : State) (es : List TraceEv) : (s.note es).reqs = s.reqs := rfl
@[simp] theorem State.note_hints (s : State) (es : List TraceEv) : (s.note es).hints = s.hints := rfl
@[simp] theorem State.note_regions (s : State) (es : List TraceEv) : (s.note es).regions = s.regions := rfl
@[simp] theorem State.note_pe (s : State) (es : List TraceEv) : (s.note es).pe = s.pe := rfl
@[simp] theorem State.note_hbmErr (s : State) (es : List TraceEv) : (s.note es).hbmErr = s.hbmErr := rfl
@[simp] theorem State.note_homeDiff (s : State) (es : List TraceEv) : (s.note es).homeDiff = s.homeDiff := rfl
@[simp] theorem State.note_clusTlb (s : State) (es : List TraceEv) : (s.note es).clusTlb = s.clusTlb := rfl
@[simp] theorem State.note_rounds (s : State) (es : List TraceEv) : (s.note es).rounds = s.rounds := rfl
@[simp] theorem State.note_incomingFrames (s : State) (es : List TraceEv) : (s.note es).incomingFrames = s.incomingFrames := rfl
@[simp] theorem State.note_pins (s : State) (es : List TraceEv) : (s.note es).pins = s.pins := rfl
@[simp] theorem State.note_hostMem (s : State) (es : List TraceEv) : (s.note es).hostMem = s.hostMem := rfl
@[simp] theorem State.note_hostLines (s : State) (es : List TraceEv) : (s.note es).hostLines = s.hostLines := rfl
@[simp] theorem State.note_hostAns (s : State) (es : List TraceEv) : (s.note es).hostAns = s.hostAns := rfl
@[simp] theorem State.note_hostCache (s : State) (es : List TraceEv) : (s.note es).hostCache = s.hostCache := rfl
@[simp] theorem State.note_extMem (s : State) (es : List TraceEv) : (s.note es).extMem = s.extMem := rfl
@[simp] theorem State.note_extAns (s : State) (es : List TraceEv) : (s.note es).extAns = s.extAns := rfl
@[simp] theorem State.note_extPoison (s : State) (es : List TraceEv) : (s.note es).extPoison = s.extPoison := rfl
@[simp] theorem State.note_chans (s : State) (es : List TraceEv) : (s.note es).chans = s.chans := rfl
@[simp] theorem State.note_releases (s : State) (es : List TraceEv) : (s.note es).releases = s.releases := rfl
@[simp] theorem State.note_gangs (s : State) (es : List TraceEv) : (s.note es).gangs = s.gangs := rfl
@[simp] theorem State.note_xmsgs (s : State) (es : List TraceEv) : (s.note es).xmsgs = s.xmsgs := rfl
@[simp] theorem State.note_ords (s : State) (es : List TraceEv) : (s.note es).ords = s.ords := rfl
@[simp] theorem State.note_lands (s : State) (es : List TraceEv) : (s.note es).lands = s.lands := rfl
@[simp] theorem State.note_probes (s : State) (es : List TraceEv) : (s.note es).probes = s.probes := rfl
@[simp] theorem State.note_waiters (s : State) (es : List TraceEv) : (s.note es).waiters = s.waiters := rfl
@[simp] theorem State.note_owed (s : State) (es : List TraceEv) : (s.note es).owed = s.owed := rfl
@[simp] theorem State.note_snaps (s : State) (es : List TraceEv) : (s.note es).snaps = s.snaps := rfl
@[simp] theorem State.note_undo (s : State) (es : List TraceEv) : (s.note es).undo = s.undo := rfl
@[simp] theorem State.note_vds (s : State) (es : List TraceEv) : (s.note es).vds = s.vds := rfl
@[simp] theorem State.note_launches (s : State) (es : List TraceEv) : (s.note es).launches = s.launches := rfl
@[simp] theorem State.note_saved (s : State) (es : List TraceEv) : (s.note es).saved = s.saved := rfl
@[simp] theorem State.note_holders (s : State) (es : List TraceEv) : (s.note es).holders = s.holders := rfl
@[simp] theorem State.note_governors (s : State) (es : List TraceEv) : (s.note es).governors = s.governors := rfl
@[simp] theorem State.note_mxWeights (s : State) (es : List TraceEv) : (s.note es).mxWeights = s.mxWeights := rfl
@[simp] theorem State.note_arbiters (s : State) (es : List TraceEv) : (s.note es).arbiters = s.arbiters := rfl
@[simp] theorem State.note_dividers (s : State) (es : List TraceEv) : (s.note es).dividers = s.dividers := rfl
@[simp] theorem State.note_ports (s : State) (es : List TraceEv) : (s.note es).ports = s.ports := rfl
@[simp] theorem State.note_boot (s : State) (es : List TraceEv) : (s.note es).boot = s.boot := rfl
@[simp] theorem State.note_nil (s : State) : s.note [] = s := by simp [State.note]

/-! ### A counter of a core counts -/

@[simp] theorem Core.count_sp (c : Core) (k n : Nat) : (Core.count k n c).sp = c.sp := rfl
@[simp] theorem Core.count_pc (c : Core) (k n : Nat) : (Core.count k n c).pc = c.pc := rfl
@[simp] theorem Core.count_run (c : Core) (k n : Nat) : (Core.count k n c).run = c.run := rfl
@[simp] theorem Core.count_ds (c : Core) (k n : Nat) : (Core.count k n c).ds = c.ds := rfl
@[simp] theorem Core.count_rep (c : Core) (k n : Nat) : (Core.count k n c).rep = c.rep := rfl
@[simp] theorem Core.count_shadows (c : Core) (k n : Nat) : (Core.count k n c).shadows = c.shadows := rfl
@[simp] theorem Core.count_late (c : Core) (k n : Nat) : (Core.count k n c).late = c.late := rfl
@[simp] theorem Core.count_held (c : Core) (k n : Nat) : (Core.count k n c).held = c.held := rfl
@[simp] theorem Core.count_loc (c : Core) (k n : Nat) : (Core.count k n c).loc = c.loc := rfl
@[simp] theorem Core.count_flips (c : Core) (k n : Nat) : (Core.count k n c).flips = c.flips := rfl
@[simp] theorem Core.count_wrote (c : Core) (k n : Nat) : (Core.count k n c).wrote = c.wrote := rfl
@[simp] theorem Core.count_logs (c : Core) (k n : Nat) : (Core.count k n c).logs = c.logs := rfl
@[simp] theorem Core.count_dbl (c : Core) (k n : Nat) : (Core.count k n c).dbl = c.dbl := rfl
@[simp] theorem Core.count_wait (c : Core) (k n : Nat) : (Core.count k n c).wait = c.wait := rfl
@[simp] theorem Core.count_posted (c : Core) (k n : Nat) : (Core.count k n c).posted = c.posted := rfl
@[simp] theorem Core.count_moved (c : Core) (k n : Nat) : (Core.count k n c).moved = c.moved := rfl
@[simp] theorem Core.count_lost (c : Core) (k n : Nat) : (Core.count k n c).lost = c.lost := rfl
@[simp] theorem Core.count_out (c : Core) (k n : Nat) : (Core.count k n c).out = c.out := rfl
@[simp] theorem Core.count_tlb (c : Core) (k n : Nat) : (Core.count k n c).tlb = c.tlb := rfl
@[simp] theorem Core.count_rlb (c : Core) (k n : Nat) : (Core.count k n c).rlb = c.rlb := rfl
@[simp] theorem Core.count_cont (c : Core) (k n : Nat) : (Core.count k n c).cont = c.cont := rfl
@[simp] theorem Core.count_frameAt (c : Core) (k n : Nat) : (Core.count k n c).frameAt = c.frameAt := rfl
@[simp] theorem Core.count_tag (c : Core) (k n : Nat) : (Core.count k n c).tag = c.tag := rfl
@[simp] theorem Core.count_preempt (c : Core) (k n : Nat) : (Core.count k n c).preempt = c.preempt := rfl
@[simp] theorem Core.count_taken (c : Core) (k n : Nat) : (Core.count k n c).taken = c.taken := rfl
@[simp] theorem Core.count_preemptAt (c : Core) (k n : Nat) : (Core.count k n c).preemptAt = c.preemptAt := rfl
@[simp] theorem Core.count_halt (c : Core) (k n : Nat) : (Core.count k n c).halt = c.halt := rfl
@[simp] theorem Core.count_stop (c : Core) (k n : Nat) : (Core.count k n c).stop = c.stop := rfl
@[simp] theorem Core.count_trail (c : Core) (k n : Nat) : (Core.count k n c).trail = c.trail := rfl
@[simp] theorem Core.count_exch (c : Core) (k n : Nat) : (Core.count k n c).exch = c.exch := rfl
@[simp] theorem Core.count_xbase (c : Core) (k n : Nat) : (Core.count k n c).xbase = c.xbase := rfl
@[simp] theorem Core.count_ordPend (c : Core) (k n : Nat) : (Core.count k n c).ordPend = c.ordPend := rfl
@[simp] theorem Core.count_ordCount (c : Core) (k n : Nat) : (Core.count k n c).ordCount = c.ordCount := rfl
@[simp] theorem Core.count_ordSeq (c : Core) (k n : Nat) : (Core.count k n c).ordSeq = c.ordSeq := rfl
@[simp] theorem Core.count_reads (c : Core) (k n : Nat) : (Core.count k n c).reads = c.reads := rfl
@[simp] theorem Core.count_writes (c : Core) (k n : Nat) : (Core.count k n c).writes = c.writes := rfl
@[simp] theorem Core.count_eng0 (c : Core) (k n : Nat) : (Core.count k n c).eng0 = c.eng0 := rfl
@[simp] theorem Core.count_eng1 (c : Core) (k n : Nat) : (Core.count k n c).eng1 = c.eng1 := rfl
@[simp] theorem Core.count_conv (c : Core) (k n : Nat) : (Core.count k n c).conv = c.conv := rfl
@[simp] theorem Core.count_xbar (c : Core) (k n : Nat) : (Core.count k n c).xbar = c.xbar := rfl
@[simp] theorem Core.count_mx (c : Core) (k n : Nat) : (Core.count k n c).mx = c.mx := rfl
@[simp] theorem Core.count_cmdId (c : Core) (k n : Nat) : (Core.count k n c).cmdId = c.cmdId := rfl
@[simp] theorem Core.count_credits (c : Core) (k n : Nat) : (Core.count k n c).credits = c.credits := rfl

/-! ### A slot passes -/

@[simp] theorem Core.tickShadows_sp (c : Core) : (c.tickShadows).sp = c.sp := rfl
@[simp] theorem Core.tickShadows_pc (c : Core) : (c.tickShadows).pc = c.pc := rfl
@[simp] theorem Core.tickShadows_run (c : Core) : (c.tickShadows).run = c.run := rfl
@[simp] theorem Core.tickShadows_ds (c : Core) : (c.tickShadows).ds = c.ds := rfl
@[simp] theorem Core.tickShadows_rep (c : Core) : (c.tickShadows).rep = c.rep := rfl
@[simp] theorem Core.tickShadows_held (c : Core) : (c.tickShadows).held = c.held := rfl
@[simp] theorem Core.tickShadows_loc (c : Core) : (c.tickShadows).loc = c.loc := rfl
@[simp] theorem Core.tickShadows_flips (c : Core) : (c.tickShadows).flips = c.flips := rfl
@[simp] theorem Core.tickShadows_wrote (c : Core) : (c.tickShadows).wrote = c.wrote := rfl
@[simp] theorem Core.tickShadows_logs (c : Core) : (c.tickShadows).logs = c.logs := rfl
@[simp] theorem Core.tickShadows_cnt (c : Core) : (c.tickShadows).cnt = c.cnt := rfl
@[simp] theorem Core.tickShadows_dbl (c : Core) : (c.tickShadows).dbl = c.dbl := rfl
@[simp] theorem Core.tickShadows_wait (c : Core) : (c.tickShadows).wait = c.wait := rfl
@[simp] theorem Core.tickShadows_posted (c : Core) : (c.tickShadows).posted = c.posted := rfl
@[simp] theorem Core.tickShadows_moved (c : Core) : (c.tickShadows).moved = c.moved := rfl
@[simp] theorem Core.tickShadows_lost (c : Core) : (c.tickShadows).lost = c.lost := rfl
@[simp] theorem Core.tickShadows_out (c : Core) : (c.tickShadows).out = c.out := rfl
@[simp] theorem Core.tickShadows_tlb (c : Core) : (c.tickShadows).tlb = c.tlb := rfl
@[simp] theorem Core.tickShadows_rlb (c : Core) : (c.tickShadows).rlb = c.rlb := rfl
@[simp] theorem Core.tickShadows_cont (c : Core) : (c.tickShadows).cont = c.cont := rfl
@[simp] theorem Core.tickShadows_frameAt (c : Core) : (c.tickShadows).frameAt = c.frameAt := rfl
@[simp] theorem Core.tickShadows_tag (c : Core) : (c.tickShadows).tag = c.tag := rfl
@[simp] theorem Core.tickShadows_preempt (c : Core) : (c.tickShadows).preempt = c.preempt := rfl
@[simp] theorem Core.tickShadows_taken (c : Core) : (c.tickShadows).taken = c.taken := rfl
@[simp] theorem Core.tickShadows_preemptAt (c : Core) : (c.tickShadows).preemptAt = c.preemptAt := rfl
@[simp] theorem Core.tickShadows_halt (c : Core) : (c.tickShadows).halt = c.halt := rfl
@[simp] theorem Core.tickShadows_stop (c : Core) : (c.tickShadows).stop = c.stop := rfl
@[simp] theorem Core.tickShadows_trail (c : Core) : (c.tickShadows).trail = c.trail := rfl
@[simp] theorem Core.tickShadows_exch (c : Core) : (c.tickShadows).exch = c.exch := rfl
@[simp] theorem Core.tickShadows_xbase (c : Core) : (c.tickShadows).xbase = c.xbase := rfl
@[simp] theorem Core.tickShadows_ordPend (c : Core) : (c.tickShadows).ordPend = c.ordPend := rfl
@[simp] theorem Core.tickShadows_ordCount (c : Core) : (c.tickShadows).ordCount = c.ordCount := rfl
@[simp] theorem Core.tickShadows_ordSeq (c : Core) : (c.tickShadows).ordSeq = c.ordSeq := rfl
@[simp] theorem Core.tickShadows_reads (c : Core) : (c.tickShadows).reads = c.reads := rfl
@[simp] theorem Core.tickShadows_writes (c : Core) : (c.tickShadows).writes = c.writes := rfl
@[simp] theorem Core.tickShadows_eng0 (c : Core) : (c.tickShadows).eng0 = c.eng0 := rfl
@[simp] theorem Core.tickShadows_eng1 (c : Core) : (c.tickShadows).eng1 = c.eng1 := rfl
@[simp] theorem Core.tickShadows_conv (c : Core) : (c.tickShadows).conv = c.conv := rfl
@[simp] theorem Core.tickShadows_xbar (c : Core) : (c.tickShadows).xbar = c.xbar := rfl
@[simp] theorem Core.tickShadows_mx (c : Core) : (c.tickShadows).mx = c.mx := rfl
@[simp] theorem Core.tickShadows_cmdId (c : Core) : (c.tickShadows).cmdId = c.cmdId := rfl
@[simp] theorem Core.tickShadows_credits (c : Core) : (c.tickShadows).credits = c.credits := rfl

/-! ### A local word written -/

@[simp] theorem Core.putLocalWord_sp (c : Core) (a : Nat) (x : DWord) : (c.putLocalWord a x).sp = c.sp := rfl
@[simp] theorem Core.putLocalWord_pc (c : Core) (a : Nat) (x : DWord) : (c.putLocalWord a x).pc = c.pc := rfl
@[simp] theorem Core.putLocalWord_run (c : Core) (a : Nat) (x : DWord) : (c.putLocalWord a x).run = c.run := rfl
@[simp] theorem Core.putLocalWord_ds (c : Core) (a : Nat) (x : DWord) : (c.putLocalWord a x).ds = c.ds := rfl
@[simp] theorem Core.putLocalWord_rep (c : Core) (a : Nat) (x : DWord) : (c.putLocalWord a x).rep = c.rep := rfl
@[simp] theorem Core.putLocalWord_shadows (c : Core) (a : Nat) (x : DWord) : (c.putLocalWord a x).shadows = c.shadows := rfl
@[simp] theorem Core.putLocalWord_late (c : Core) (a : Nat) (x : DWord) : (c.putLocalWord a x).late = c.late := rfl
@[simp] theorem Core.putLocalWord_held (c : Core) (a : Nat) (x : DWord) : (c.putLocalWord a x).held = c.held := rfl
@[simp] theorem Core.putLocalWord_logs (c : Core) (a : Nat) (x : DWord) : (c.putLocalWord a x).logs = c.logs := rfl
@[simp] theorem Core.putLocalWord_cnt (c : Core) (a : Nat) (x : DWord) : (c.putLocalWord a x).cnt = c.cnt := rfl
@[simp] theorem Core.putLocalWord_dbl (c : Core) (a : Nat) (x : DWord) : (c.putLocalWord a x).dbl = c.dbl := rfl
@[simp] theorem Core.putLocalWord_wait (c : Core) (a : Nat) (x : DWord) : (c.putLocalWord a x).wait = c.wait := rfl
@[simp] theorem Core.putLocalWord_posted (c : Core) (a : Nat) (x : DWord) : (c.putLocalWord a x).posted = c.posted := rfl
@[simp] theorem Core.putLocalWord_moved (c : Core) (a : Nat) (x : DWord) : (c.putLocalWord a x).moved = c.moved := rfl
@[simp] theorem Core.putLocalWord_lost (c : Core) (a : Nat) (x : DWord) : (c.putLocalWord a x).lost = c.lost := rfl
@[simp] theorem Core.putLocalWord_out (c : Core) (a : Nat) (x : DWord) : (c.putLocalWord a x).out = c.out := rfl
@[simp] theorem Core.putLocalWord_tlb (c : Core) (a : Nat) (x : DWord) : (c.putLocalWord a x).tlb = c.tlb := rfl
@[simp] theorem Core.putLocalWord_rlb (c : Core) (a : Nat) (x : DWord) : (c.putLocalWord a x).rlb = c.rlb := rfl
@[simp] theorem Core.putLocalWord_cont (c : Core) (a : Nat) (x : DWord) : (c.putLocalWord a x).cont = c.cont := rfl
@[simp] theorem Core.putLocalWord_frameAt (c : Core) (a : Nat) (x : DWord) : (c.putLocalWord a x).frameAt = c.frameAt := rfl
@[simp] theorem Core.putLocalWord_tag (c : Core) (a : Nat) (x : DWord) : (c.putLocalWord a x).tag = c.tag := rfl
@[simp] theorem Core.putLocalWord_preempt (c : Core) (a : Nat) (x : DWord) : (c.putLocalWord a x).preempt = c.preempt := rfl
@[simp] theorem Core.putLocalWord_taken (c : Core) (a : Nat) (x : DWord) : (c.putLocalWord a x).taken = c.taken := rfl
@[simp] theorem Core.putLocalWord_preemptAt (c : Core) (a : Nat) (x : DWord) : (c.putLocalWord a x).preemptAt = c.preemptAt := rfl
@[simp] theorem Core.putLocalWord_halt (c : Core) (a : Nat) (x : DWord) : (c.putLocalWord a x).halt = c.halt := rfl
@[simp] theorem Core.putLocalWord_stop (c : Core) (a : Nat) (x : DWord) : (c.putLocalWord a x).stop = c.stop := rfl
@[simp] theorem Core.putLocalWord_trail (c : Core) (a : Nat) (x : DWord) : (c.putLocalWord a x).trail = c.trail := rfl
@[simp] theorem Core.putLocalWord_exch (c : Core) (a : Nat) (x : DWord) : (c.putLocalWord a x).exch = c.exch := rfl
@[simp] theorem Core.putLocalWord_xbase (c : Core) (a : Nat) (x : DWord) : (c.putLocalWord a x).xbase = c.xbase := rfl
@[simp] theorem Core.putLocalWord_ordPend (c : Core) (a : Nat) (x : DWord) : (c.putLocalWord a x).ordPend = c.ordPend := rfl
@[simp] theorem Core.putLocalWord_ordCount (c : Core) (a : Nat) (x : DWord) : (c.putLocalWord a x).ordCount = c.ordCount := rfl
@[simp] theorem Core.putLocalWord_ordSeq (c : Core) (a : Nat) (x : DWord) : (c.putLocalWord a x).ordSeq = c.ordSeq := rfl
@[simp] theorem Core.putLocalWord_reads (c : Core) (a : Nat) (x : DWord) : (c.putLocalWord a x).reads = c.reads := rfl
@[simp] theorem Core.putLocalWord_writes (c : Core) (a : Nat) (x : DWord) : (c.putLocalWord a x).writes = c.writes := rfl
@[simp] theorem Core.putLocalWord_eng0 (c : Core) (a : Nat) (x : DWord) : (c.putLocalWord a x).eng0 = c.eng0 := rfl
@[simp] theorem Core.putLocalWord_eng1 (c : Core) (a : Nat) (x : DWord) : (c.putLocalWord a x).eng1 = c.eng1 := rfl
@[simp] theorem Core.putLocalWord_conv (c : Core) (a : Nat) (x : DWord) : (c.putLocalWord a x).conv = c.conv := rfl
@[simp] theorem Core.putLocalWord_xbar (c : Core) (a : Nat) (x : DWord) : (c.putLocalWord a x).xbar = c.xbar := rfl
@[simp] theorem Core.putLocalWord_mx (c : Core) (a : Nat) (x : DWord) : (c.putLocalWord a x).mx = c.mx := rfl
@[simp] theorem Core.putLocalWord_cmdId (c : Core) (a : Nat) (x : DWord) : (c.putLocalWord a x).cmdId = c.cmdId := rfl
@[simp] theorem Core.putLocalWord_credits (c : Core) (a : Nat) (x : DWord) : (c.putLocalWord a x).credits = c.credits := rfl

/-! ### A workspace word written -/

@[simp] theorem Core.setWs_sp (c : Core) (w : Nat) (x : DWord) : (c.setWs w x).sp = c.sp := rfl
@[simp] theorem Core.setWs_pc (c : Core) (w : Nat) (x : DWord) : (c.setWs w x).pc = c.pc := rfl
@[simp] theorem Core.setWs_run (c : Core) (w : Nat) (x : DWord) : (c.setWs w x).run = c.run := rfl
@[simp] theorem Core.setWs_ds (c : Core) (w : Nat) (x : DWord) : (c.setWs w x).ds = c.ds := rfl
@[simp] theorem Core.setWs_rep (c : Core) (w : Nat) (x : DWord) : (c.setWs w x).rep = c.rep := rfl
@[simp] theorem Core.setWs_shadows (c : Core) (w : Nat) (x : DWord) : (c.setWs w x).shadows = c.shadows := rfl
@[simp] theorem Core.setWs_late (c : Core) (w : Nat) (x : DWord) : (c.setWs w x).late = c.late := rfl
@[simp] theorem Core.setWs_held (c : Core) (w : Nat) (x : DWord) : (c.setWs w x).held = c.held := rfl
@[simp] theorem Core.setWs_logs (c : Core) (w : Nat) (x : DWord) : (c.setWs w x).logs = c.logs := rfl
@[simp] theorem Core.setWs_cnt (c : Core) (w : Nat) (x : DWord) : (c.setWs w x).cnt = c.cnt := rfl
@[simp] theorem Core.setWs_dbl (c : Core) (w : Nat) (x : DWord) : (c.setWs w x).dbl = c.dbl := rfl
@[simp] theorem Core.setWs_wait (c : Core) (w : Nat) (x : DWord) : (c.setWs w x).wait = c.wait := rfl
@[simp] theorem Core.setWs_posted (c : Core) (w : Nat) (x : DWord) : (c.setWs w x).posted = c.posted := rfl
@[simp] theorem Core.setWs_moved (c : Core) (w : Nat) (x : DWord) : (c.setWs w x).moved = c.moved := rfl
@[simp] theorem Core.setWs_lost (c : Core) (w : Nat) (x : DWord) : (c.setWs w x).lost = c.lost := rfl
@[simp] theorem Core.setWs_out (c : Core) (w : Nat) (x : DWord) : (c.setWs w x).out = c.out := rfl
@[simp] theorem Core.setWs_tlb (c : Core) (w : Nat) (x : DWord) : (c.setWs w x).tlb = c.tlb := rfl
@[simp] theorem Core.setWs_rlb (c : Core) (w : Nat) (x : DWord) : (c.setWs w x).rlb = c.rlb := rfl
@[simp] theorem Core.setWs_cont (c : Core) (w : Nat) (x : DWord) : (c.setWs w x).cont = c.cont := rfl
@[simp] theorem Core.setWs_frameAt (c : Core) (w : Nat) (x : DWord) : (c.setWs w x).frameAt = c.frameAt := rfl
@[simp] theorem Core.setWs_tag (c : Core) (w : Nat) (x : DWord) : (c.setWs w x).tag = c.tag := rfl
@[simp] theorem Core.setWs_preempt (c : Core) (w : Nat) (x : DWord) : (c.setWs w x).preempt = c.preempt := rfl
@[simp] theorem Core.setWs_taken (c : Core) (w : Nat) (x : DWord) : (c.setWs w x).taken = c.taken := rfl
@[simp] theorem Core.setWs_preemptAt (c : Core) (w : Nat) (x : DWord) : (c.setWs w x).preemptAt = c.preemptAt := rfl
@[simp] theorem Core.setWs_halt (c : Core) (w : Nat) (x : DWord) : (c.setWs w x).halt = c.halt := rfl
@[simp] theorem Core.setWs_stop (c : Core) (w : Nat) (x : DWord) : (c.setWs w x).stop = c.stop := rfl
@[simp] theorem Core.setWs_trail (c : Core) (w : Nat) (x : DWord) : (c.setWs w x).trail = c.trail := rfl
@[simp] theorem Core.setWs_exch (c : Core) (w : Nat) (x : DWord) : (c.setWs w x).exch = c.exch := rfl
@[simp] theorem Core.setWs_xbase (c : Core) (w : Nat) (x : DWord) : (c.setWs w x).xbase = c.xbase := rfl
@[simp] theorem Core.setWs_ordPend (c : Core) (w : Nat) (x : DWord) : (c.setWs w x).ordPend = c.ordPend := rfl
@[simp] theorem Core.setWs_ordCount (c : Core) (w : Nat) (x : DWord) : (c.setWs w x).ordCount = c.ordCount := rfl
@[simp] theorem Core.setWs_ordSeq (c : Core) (w : Nat) (x : DWord) : (c.setWs w x).ordSeq = c.ordSeq := rfl
@[simp] theorem Core.setWs_reads (c : Core) (w : Nat) (x : DWord) : (c.setWs w x).reads = c.reads := rfl
@[simp] theorem Core.setWs_writes (c : Core) (w : Nat) (x : DWord) : (c.setWs w x).writes = c.writes := rfl
@[simp] theorem Core.setWs_eng0 (c : Core) (w : Nat) (x : DWord) : (c.setWs w x).eng0 = c.eng0 := rfl
@[simp] theorem Core.setWs_eng1 (c : Core) (w : Nat) (x : DWord) : (c.setWs w x).eng1 = c.eng1 := rfl
@[simp] theorem Core.setWs_conv (c : Core) (w : Nat) (x : DWord) : (c.setWs w x).conv = c.conv := rfl
@[simp] theorem Core.setWs_xbar (c : Core) (w : Nat) (x : DWord) : (c.setWs w x).xbar = c.xbar := rfl
@[simp] theorem Core.setWs_mx (c : Core) (w : Nat) (x : DWord) : (c.setWs w x).mx = c.mx := rfl
@[simp] theorem Core.setWs_cmdId (c : Core) (w : Nat) (x : DWord) : (c.setWs w x).cmdId = c.cmdId := rfl
@[simp] theorem Core.setWs_credits (c : Core) (w : Nat) (x : DWord) : (c.setWs w x).credits = c.credits := rfl

/-! ### A shadow opened -/

@[simp] theorem Core.openShadow_sp (c : Core) (w n lat : Nat) : (c.openShadow w n lat).sp = c.sp := by
  unfold Core.openShadow; split <;> rfl
@[simp] theorem Core.openShadow_pc (c : Core) (w n lat : Nat) : (c.openShadow w n lat).pc = c.pc := by
  unfold Core.openShadow; split <;> rfl
@[simp] theorem Core.openShadow_run (c : Core) (w n lat : Nat) : (c.openShadow w n lat).run = c.run := by
  unfold Core.openShadow; split <;> rfl
@[simp] theorem Core.openShadow_ds (c : Core) (w n lat : Nat) : (c.openShadow w n lat).ds = c.ds := by
  unfold Core.openShadow; split <;> rfl
@[simp] theorem Core.openShadow_rep (c : Core) (w n lat : Nat) : (c.openShadow w n lat).rep = c.rep := by
  unfold Core.openShadow; split <;> rfl
@[simp] theorem Core.openShadow_late (c : Core) (w n lat : Nat) : (c.openShadow w n lat).late = c.late := by
  unfold Core.openShadow; split <;> rfl
@[simp] theorem Core.openShadow_held (c : Core) (w n lat : Nat) : (c.openShadow w n lat).held = c.held := by
  unfold Core.openShadow; split <;> rfl
@[simp] theorem Core.openShadow_loc (c : Core) (w n lat : Nat) : (c.openShadow w n lat).loc = c.loc := by
  unfold Core.openShadow; split <;> rfl
@[simp] theorem Core.openShadow_flips (c : Core) (w n lat : Nat) : (c.openShadow w n lat).flips = c.flips := by
  unfold Core.openShadow; split <;> rfl
@[simp] theorem Core.openShadow_wrote (c : Core) (w n lat : Nat) : (c.openShadow w n lat).wrote = c.wrote := by
  unfold Core.openShadow; split <;> rfl
@[simp] theorem Core.openShadow_logs (c : Core) (w n lat : Nat) : (c.openShadow w n lat).logs = c.logs := by
  unfold Core.openShadow; split <;> rfl
@[simp] theorem Core.openShadow_cnt (c : Core) (w n lat : Nat) : (c.openShadow w n lat).cnt = c.cnt := by
  unfold Core.openShadow; split <;> rfl
@[simp] theorem Core.openShadow_dbl (c : Core) (w n lat : Nat) : (c.openShadow w n lat).dbl = c.dbl := by
  unfold Core.openShadow; split <;> rfl
@[simp] theorem Core.openShadow_wait (c : Core) (w n lat : Nat) : (c.openShadow w n lat).wait = c.wait := by
  unfold Core.openShadow; split <;> rfl
@[simp] theorem Core.openShadow_posted (c : Core) (w n lat : Nat) : (c.openShadow w n lat).posted = c.posted := by
  unfold Core.openShadow; split <;> rfl
@[simp] theorem Core.openShadow_moved (c : Core) (w n lat : Nat) : (c.openShadow w n lat).moved = c.moved := by
  unfold Core.openShadow; split <;> rfl
@[simp] theorem Core.openShadow_lost (c : Core) (w n lat : Nat) : (c.openShadow w n lat).lost = c.lost := by
  unfold Core.openShadow; split <;> rfl
@[simp] theorem Core.openShadow_out (c : Core) (w n lat : Nat) : (c.openShadow w n lat).out = c.out := by
  unfold Core.openShadow; split <;> rfl
@[simp] theorem Core.openShadow_tlb (c : Core) (w n lat : Nat) : (c.openShadow w n lat).tlb = c.tlb := by
  unfold Core.openShadow; split <;> rfl
@[simp] theorem Core.openShadow_rlb (c : Core) (w n lat : Nat) : (c.openShadow w n lat).rlb = c.rlb := by
  unfold Core.openShadow; split <;> rfl
@[simp] theorem Core.openShadow_cont (c : Core) (w n lat : Nat) : (c.openShadow w n lat).cont = c.cont := by
  unfold Core.openShadow; split <;> rfl
@[simp] theorem Core.openShadow_frameAt (c : Core) (w n lat : Nat) : (c.openShadow w n lat).frameAt = c.frameAt := by
  unfold Core.openShadow; split <;> rfl
@[simp] theorem Core.openShadow_tag (c : Core) (w n lat : Nat) : (c.openShadow w n lat).tag = c.tag := by
  unfold Core.openShadow; split <;> rfl
@[simp] theorem Core.openShadow_preempt (c : Core) (w n lat : Nat) : (c.openShadow w n lat).preempt = c.preempt := by
  unfold Core.openShadow; split <;> rfl
@[simp] theorem Core.openShadow_taken (c : Core) (w n lat : Nat) : (c.openShadow w n lat).taken = c.taken := by
  unfold Core.openShadow; split <;> rfl
@[simp] theorem Core.openShadow_preemptAt (c : Core) (w n lat : Nat) : (c.openShadow w n lat).preemptAt = c.preemptAt := by
  unfold Core.openShadow; split <;> rfl
@[simp] theorem Core.openShadow_halt (c : Core) (w n lat : Nat) : (c.openShadow w n lat).halt = c.halt := by
  unfold Core.openShadow; split <;> rfl
@[simp] theorem Core.openShadow_stop (c : Core) (w n lat : Nat) : (c.openShadow w n lat).stop = c.stop := by
  unfold Core.openShadow; split <;> rfl
@[simp] theorem Core.openShadow_trail (c : Core) (w n lat : Nat) : (c.openShadow w n lat).trail = c.trail := by
  unfold Core.openShadow; split <;> rfl
@[simp] theorem Core.openShadow_exch (c : Core) (w n lat : Nat) : (c.openShadow w n lat).exch = c.exch := by
  unfold Core.openShadow; split <;> rfl
@[simp] theorem Core.openShadow_xbase (c : Core) (w n lat : Nat) : (c.openShadow w n lat).xbase = c.xbase := by
  unfold Core.openShadow; split <;> rfl
@[simp] theorem Core.openShadow_ordPend (c : Core) (w n lat : Nat) : (c.openShadow w n lat).ordPend = c.ordPend := by
  unfold Core.openShadow; split <;> rfl
@[simp] theorem Core.openShadow_ordCount (c : Core) (w n lat : Nat) : (c.openShadow w n lat).ordCount = c.ordCount := by
  unfold Core.openShadow; split <;> rfl
@[simp] theorem Core.openShadow_ordSeq (c : Core) (w n lat : Nat) : (c.openShadow w n lat).ordSeq = c.ordSeq := by
  unfold Core.openShadow; split <;> rfl
@[simp] theorem Core.openShadow_reads (c : Core) (w n lat : Nat) : (c.openShadow w n lat).reads = c.reads := by
  unfold Core.openShadow; split <;> rfl
@[simp] theorem Core.openShadow_writes (c : Core) (w n lat : Nat) : (c.openShadow w n lat).writes = c.writes := by
  unfold Core.openShadow; split <;> rfl
@[simp] theorem Core.openShadow_eng0 (c : Core) (w n lat : Nat) : (c.openShadow w n lat).eng0 = c.eng0 := by
  unfold Core.openShadow; split <;> rfl
@[simp] theorem Core.openShadow_eng1 (c : Core) (w n lat : Nat) : (c.openShadow w n lat).eng1 = c.eng1 := by
  unfold Core.openShadow; split <;> rfl
@[simp] theorem Core.openShadow_conv (c : Core) (w n lat : Nat) : (c.openShadow w n lat).conv = c.conv := by
  unfold Core.openShadow; split <;> rfl
@[simp] theorem Core.openShadow_xbar (c : Core) (w n lat : Nat) : (c.openShadow w n lat).xbar = c.xbar := by
  unfold Core.openShadow; split <;> rfl
@[simp] theorem Core.openShadow_mx (c : Core) (w n lat : Nat) : (c.openShadow w n lat).mx = c.mx := by
  unfold Core.openShadow; split <;> rfl
@[simp] theorem Core.openShadow_cmdId (c : Core) (w n lat : Nat) : (c.openShadow w n lat).cmdId = c.cmdId := by
  unfold Core.openShadow; split <;> rfl
@[simp] theorem Core.openShadow_credits (c : Core) (w n lat : Nat) : (c.openShadow w n lat).credits = c.credits := by
  unfold Core.openShadow; split <;> rfl

end Sys2Proof.Machine
end

