-- ==== Sys2Proof/Tests/Slice0.lean ====
section
/-! SUPPORT. Tests: ill-formed terms that the checks refuse; every instruction's words, written out from the encoding tables and the
worked encodings of the manual (03 R59 to R82 and each family's own), with the words that are none; and small steps. -/

namespace Sys2Proof.Machine

set_option Elab.async false

/-! ### Well-formedness: a term that each check refuses (03 R64 to R82) -/

theorem test_wf_refuses_special :
    Instr.wf (.rds 1 0x00F) = false ∧
    Instr.wf (.wrs 1 0x004) = false ∧
    Instr.wf (.rds 1 0x052) = false := by
  decide

theorem test_wf_refuses_codes :
    Instr.wf (.fence 4 0) = false ∧
    Instr.wf (.fence 0 5) = false ∧
    Instr.wf (.join ⟨false, 1⟩ 40) = false ∧
    Instr.wf (.leave ⟨false, 1⟩ 40) = false ∧
    Instr.wf (.arrive ⟨false, 1⟩ 40) = false ∧
    Instr.wf (.arriveb ⟨false, 1⟩ ⟨false, 2⟩ 40) = false ∧
    Instr.wf (.btx ⟨false, 1⟩ ⟨false, 2⟩ 40) = false ∧
    Instr.wf (.selfT ⟨false, 1⟩ 3) = false ∧
    Instr.wf (.chinit ⟨false, 1⟩ ⟨false, 2⟩ ⟨false, 3⟩ 13) = false ∧
    Instr.wf (.grant ⟨false, 1⟩ ⟨false, 2⟩ ⟨false, 3⟩ ⟨false, 4⟩ 0) = false ∧
    Instr.wf (.tlbinv 4 ⟨false, 1⟩ ⟨false, 2⟩) = false ∧
    Instr.wf (.tlbinv 1 ⟨false, 1⟩ ⟨false, 2⟩) = false ∧
    Instr.wf (.rlbinv 2 ⟨false, 1⟩) = false ∧
    Instr.wf (.cpstat ⟨false, 1⟩ 5) = false ∧
    Instr.wf (.cpstat ⟨false, 1⟩ 24) = false ∧
    Instr.wf (.evcfg ⟨false, 1⟩ 25) = false ∧
    Instr.wf (.evread ⟨false, 1⟩ 25) = false ∧
    Instr.wf (.mzero 0 0 0 false false) = false ∧
    Instr.wf (.mzero 1 256 0 false false) = false ∧
    Instr.wf (.mstat ⟨false, 1⟩ 5) = false ∧
    Instr.wf (.mstat ⟨false, 1⟩ 15) = false := by
  decide

theorem test_wf_refuses_integer :
    Instr.wf (.intx 32 ⟨false, 1⟩ ⟨false, 2⟩ ⟨false, 3⟩) = false ∧
    Instr.wf (.intx 76 ⟨false, 1⟩ ⟨false, 2⟩ ⟨false, 3⟩) = false ∧
    Instr.wf (.intx 20 ⟨false, 1⟩ ⟨false, 2⟩ ⟨false, 3⟩) = false ∧
    Instr.wf (.intx 20 ⟨false, 1⟩ ⟨false, 2⟩ ⟨true, 0⟩) = false ∧
    Instr.wf (.intxLit 20 ⟨false, 1⟩ ⟨false, 2⟩ 0) = false ∧
    Instr.wf (.intxLit 76 ⟨false, 1⟩ ⟨false, 2⟩ 0) = false ∧
    Instr.wf (.rep true ⟨false, 1⟩ 1 0 0 0 0 0) = false ∧
    Instr.wf (.rep false ⟨false, 1⟩ 1 0 0 0 0 0) = false := by
  decide

theorem test_wf_refuses_float :
    Instr.wf (.fma 7 0 ⟨false, 1⟩ ⟨false, 2⟩ ⟨false, 3⟩ ⟨false, 4⟩) = false ∧
    Instr.wf (.fms 7 0 ⟨false, 1⟩ ⟨false, 2⟩ ⟨false, 3⟩ ⟨false, 4⟩) = false ∧
    Instr.wf (.fnma 7 0 ⟨false, 1⟩ ⟨false, 2⟩ ⟨false, 3⟩ ⟨false, 4⟩) = false ∧
    Instr.wf (.fnms 7 0 ⟨false, 1⟩ ⟨false, 2⟩ ⟨false, 3⟩ ⟨false, 4⟩) = false ∧
    Instr.wf (.fma 10 6 ⟨false, 1⟩ ⟨false, 2⟩ ⟨false, 3⟩ ⟨false, 4⟩) = false ∧
    Instr.wf (.fcvt 2 6 0 false ⟨false, 1⟩ ⟨false, 2⟩) = false ∧
    Instr.wf (.fcvt 10 6 6 false ⟨false, 1⟩ ⟨false, 2⟩) = false ∧
    Instr.wf (.fround 12 0 ⟨false, 1⟩ ⟨false, 2⟩) = false ∧
    Instr.wf (.fround 10 7 ⟨false, 1⟩ ⟨false, 2⟩) = false := by
  decide

theorem test_wf_refuses_lanes :
    Instr.wf (.vadd 3 false 0 1 2 3) = false ∧
    Instr.wf (.vsub 3 false 0 1 2 3) = false ∧
    Instr.wf (.vmul 3 false 0 1 2 3) = false ∧
    Instr.wf (.vand 3 false 0 1 2 3) = false ∧
    Instr.wf (.vor 3 false 0 1 2 3) = false ∧
    Instr.wf (.vxor 3 false 0 1 2 3) = false ∧
    Instr.wf (.vshl 3 false 0 1 2 3) = false ∧
    Instr.wf (.vshr 3 false 0 1 2 3) = false ∧
    Instr.wf (.vsar 3 false 0 1 2 3) = false ∧
    Instr.wf (.vmin 3 false 0 1 2 3) = false ∧
    Instr.wf (.vmax 3 false 0 1 2 3) = false ∧
    Instr.wf (.vfadd 6 0 false 0 1 2 3) = false ∧
    Instr.wf (.vfsub 6 0 false 0 1 2 3) = false ∧
    Instr.wf (.vfmul 6 0 false 0 1 2 3) = false ∧
    Instr.wf (.vfdiv 6 0 false 0 1 2 3) = false ∧
    Instr.wf (.vfadd 10 6 false 0 1 2 3) = false ∧
    Instr.wf (.vfsqrt 12 0 false 0 1 2) = false ∧
    Instr.wf (.vfma 10 7 false 0 1 2 3 4) = false ∧
    Instr.wf (.vfms 10 7 false 0 1 2 3 4) = false ∧
    Instr.wf (.vfnma 10 7 false 0 1 2 3 4) = false ∧
    Instr.wf (.vfmin 2 false 0 1 2 3) = false ∧
    Instr.wf (.vfmax 2 false 0 1 2 3) = false := by
  decide

theorem test_wf_refuses_lanes_more :
    Instr.wf (.vfabs 12 false 0 1 2) = false ∧
    Instr.wf (.vfneg 12 false 0 1 2) = false := by
  decide

theorem test_wf_refuses_masks :
    Instr.wf (.vceq 2 false 0 0 1 2) = false ∧
    Instr.wf (.vclt 2 false 0 0 1 2) = false ∧
    Instr.wf (.vcle 2 false 0 0 1 2) = false ∧
    Instr.wf (.vcltn 2 false 0 0 1 2) = false ∧
    Instr.wf (.vceq 3 false 0 1 1 2) = false ∧
    Instr.wf (.vfeq 10 false 0 0 1 2) = false ∧
    Instr.wf (.vflt 10 false 0 0 1 2) = false ∧
    Instr.wf (.vfle 10 false 0 0 1 2) = false ∧
    Instr.wf (.vfun 10 false 0 0 1 2) = false ∧
    Instr.wf (.vfeq 6 false 0 1 1 2) = false ∧
    Instr.wf (.mand false 0 0 1 2) = false ∧
    Instr.wf (.mor false 0 0 1 2) = false ∧
    Instr.wf (.mxor false 0 0 1 2) = false ∧
    Instr.wf (.mnot false 0 0 1) = false ∧
    Instr.wf (.mpop 0 0 1) = false ∧
    Instr.wf (.mfirst 0 0 1) = false := by
  decide

theorem test_wf_refuses_conversions :
    Instr.wf (.vcvt 2 6 0 false false 0 1 2) = false ∧
    Instr.wf (.vcvt 10 6 6 false false 0 1 2) = false ∧
    Instr.wf (.vpack 11 10 0 false false 0 1 2 3) = false ∧
    Instr.wf (.vpack 12 11 0 false false 0 1 2 3) = false ∧
    Instr.wf (.vpack 12 10 7 false false 0 1 2 3) = false ∧
    Instr.wf (.vunpack 11 12 false 0 1 2) = false ∧
    Instr.wf (.vunpack 2 12 false 0 1 2) = false ∧
    Instr.wf (.vunpack 10 12 false 0 15 2) = false ∧
    Instr.wf (.vredadd 2 0 0 ⟨false, 1⟩ 2) = false ∧
    Instr.wf (.vredadd 10 6 0 ⟨false, 1⟩ 2) = false ∧
    Instr.wf (.vredmax 12 0 ⟨false, 1⟩ 2) = false ∧
    Instr.wf (.vredmin 2 0 ⟨false, 1⟩ 2) = false ∧
    Instr.wf (.vredaddi 1 0 ⟨false, 1⟩ 2) = false := by
  decide

theorem test_wf_refuses_permutes :
    Instr.wf (.vperm 1 false 0 1 2 3) = false ∧
    Instr.wf (.vbcast 8 false 0 1 ⟨false, 2⟩) = false ∧
    Instr.wf (.vext 0 ⟨false, 1⟩ 2 32) = false ∧
    Instr.wf (.vext 3 ⟨false, 1⟩ 2 16) = false ∧
    Instr.wf (.vins 3 1 ⟨false, 2⟩ 16) = false ∧
    Instr.wf (.vbfly 0 false 0 1 2 32) = false ∧
    Instr.wf (.vslide 0 false 0 1 2 3 33) = false ∧
    Instr.wf (.vslide 11 false 0 1 2 3 17) = false ∧
    Instr.wf (.vcmul 11 0 false 0 1 2 3) = false ∧
    Instr.wf (.vcmul 10 6 false 0 1 2 3) = false ∧
    Instr.wf (.vcfma 11 0 false 0 1 2 3 4) = false ∧
    Instr.wf (.vcconj 11 false 0 1 2) = false ∧
    Instr.wf (.vcmulj 10 6 false 0 1 2 3) = false ∧
    Instr.wf (.vldl 8 false 0 1 ⟨false, 2⟩ ⟨false, 0⟩ 0) = false ∧
    Instr.wf (.vstl 8 0 1 ⟨false, 2⟩ ⟨false, 0⟩ 0) = false ∧
    Instr.wf (.vgath 8 false 0 1 ⟨false, 2⟩ 3 0) = false ∧
    Instr.wf (.vscat 8 0 1 ⟨false, 2⟩ 3 0) = false := by
  decide

theorem test_wf_refuses_engines :
    Instr.wf (.ordadd 8 0 ⟨false, 1⟩ ⟨false, 2⟩ ⟨false, 3⟩) = false ∧
    Instr.wf (.ordadd 3 1 ⟨false, 1⟩ ⟨false, 2⟩ ⟨false, 3⟩) = false ∧
    Instr.wf (.ordadd 10 6 ⟨false, 1⟩ ⟨false, 2⟩ ⟨false, 3⟩) = false ∧
    Instr.wf (.ordmin 1 ⟨false, 1⟩ ⟨false, 2⟩ ⟨false, 3⟩) = false ∧
    Instr.wf (.ordmax 8 ⟨false, 1⟩ ⟨false, 2⟩ ⟨false, 3⟩) = false ∧
    Instr.wf (.ordswap 0 ⟨false, 1⟩ ⟨false, 2⟩ ⟨false, 3⟩) = false ∧
    Instr.wf (.ordget 9 ⟨false, 1⟩ ⟨false, 2⟩) = false ∧
    Instr.wf (.convE 2 6 0 false ⟨false, 1⟩ ⟨false, 2⟩ ⟨false, 3⟩ 0 false false) = false ∧
    Instr.wf (.convE 10 6 6 false ⟨false, 1⟩ ⟨false, 2⟩ ⟨false, 3⟩ 0 false false) = false ∧
    Instr.wf (.quant 1 10 0 false ⟨false, 1⟩ ⟨false, 2⟩ ⟨false, 3⟩ 0 false false) = false ∧
    Instr.wf (.quant 12 11 0 false ⟨false, 1⟩ ⟨false, 2⟩ ⟨false, 3⟩ 0 false false) = false ∧
    Instr.wf (.quant 12 10 0 true ⟨false, 1⟩ ⟨false, 2⟩ ⟨false, 3⟩ 0 false false) = false ∧
    Instr.wf (.dequant 11 12 0 ⟨false, 1⟩ ⟨false, 2⟩ ⟨false, 3⟩ 0 false false) = false ∧
    Instr.wf (.dequant 10 1 0 ⟨false, 1⟩ ⟨false, 2⟩ ⟨false, 3⟩ 0 false false) = false ∧
    Instr.wf (.retile 12 13 0 false ⟨false, 1⟩ ⟨false, 2⟩ ⟨false, 3⟩ 0 false false) = false ∧
    Instr.wf (.retile 12 12 0 true ⟨false, 1⟩ ⟨false, 2⟩ ⟨false, 3⟩ 0 false false) = false ∧
    Instr.wf (.retile 0 0 7 false ⟨false, 1⟩ ⟨false, 2⟩ ⟨false, 3⟩ 0 false false) = false ∧
    Instr.wf (.mstore 6 ⟨false, 1⟩ ⟨false, 2⟩ 0 0 false false 0 false false) = false := by
  decide

theorem test_wf_refuses_event :
    Instr.wf (.doubleTrapHandling 0) = false ∧
    Instr.wf (.powerLoss) = false := by
  decide

/-! ### Decoding: words written out from the encodings of the manual -/

/-- 03 R77. -/
theorem test_decode_int :
    decode true [0x00714404] = .instr (.add 4 5 7) ∧
    decode true [0x04714404] = .instr (.sub 4 5 7) ∧
    decode true [0x08714404] = .instr (.addW 4 5 7) ∧
    decode true [0x0C714404] = .instr (.subW 4 5 7) ∧
    decode true [0x10714404] = .instr (.and 4 5 7) ∧
    decode true [0x14714404] = .instr (.or 4 5 7) ∧
    decode true [0x18714404] = .instr (.xor 4 5 7) ∧
    decode true [0x1C714404] = .instr (.andn 4 5 7) ∧
    decode true [0x20714404] = .instr (.shl 4 5 7) ∧
    decode true [0x24714404] = .instr (.shr 4 5 7) ∧
    decode true [0x28714404] = .instr (.sar 4 5 7) ∧
    decode true [0x2C714404] = .instr (.shlW 4 5 7) ∧
    decode true [0x30714404] = .instr (.shrW 4 5 7) ∧
    decode true [0x34714404] = .instr (.sarW 4 5 7) ∧
    decode true [0x38714404] = .instr (.slt 4 5 7) ∧
    decode true [0x3C714404] = .instr (.sltn 4 5 7) := by
  decide +kernel

/-- 03 R77. -/
theorem test_decode_int_b :
    decode true [0x40714404] = .instr (.min 4 5 7) ∧
    decode true [0x44714404] = .instr (.max 4 5 7) ∧
    decode true [0x48714404] = .instr (.minn 4 5 7) ∧
    decode true [0x4C714404] = .instr (.maxn 4 5 7) ∧
    decode true [0x50014404] = .instr (.clz 4 5) ∧
    decode true [0x54014404] = .instr (.ctz 4 5) ∧
    decode true [0x58014404] = .instr (.popc 4 5) ∧
    decode true [0x5C014404] = .instr (.rev 4 5) ∧
    decode true [0x60014404] = .instr (.sextB 4 5) ∧
    decode true [0x64014404] = .instr (.sextH 4 5) ∧
    decode true [0x68014404] = .instr (.sextW 4 5) ∧
    decode true [0x6C014404] = .instr (.zextB 4 5) ∧
    decode true [0x70014404] = .instr (.zextH 4 5) ∧
    decode true [0x74014404] = .instr (.zextW 4 5) ∧
    decode true [0x78714404] = .instr (.rol 4 5 7) ∧
    decode true [0x7C714404] = .instr (.ror 4 5 7) := by
  decide +kernel

/-- 03 R66. -/
theorem test_decode_int_lit :
    decode true [0x00014405, 0x55667788, 0x11223344] = .instr (.addLit 4 5 0x1122334455667788) ∧
    decode true [0x04014405, 0x55667788, 0x11223344] = .instr (.subLit 4 5 0x1122334455667788) ∧
    decode true [0x08014405, 0x55667788, 0x11223344] = .instr (.addWLit 4 5 0x1122334455667788) ∧
    decode true [0x0C014405, 0x55667788, 0x11223344] = .instr (.subWLit 4 5 0x1122334455667788) ∧
    decode true [0x10014405, 0x55667788, 0x11223344] = .instr (.andLit 4 5 0x1122334455667788) ∧
    decode true [0x14014405, 0x55667788, 0x11223344] = .instr (.orLit 4 5 0x1122334455667788) ∧
    decode true [0x18014405, 0x55667788, 0x11223344] = .instr (.xorLit 4 5 0x1122334455667788) ∧
    decode true [0x1C014405, 0x55667788, 0x11223344] = .instr (.andnLit 4 5 0x1122334455667788) ∧
    decode true [0x20014405, 0x55667788, 0x11223344] = .instr (.shlLit 4 5 0x1122334455667788) ∧
    decode true [0x24014405, 0x55667788, 0x11223344] = .instr (.shrLit 4 5 0x1122334455667788) ∧
    decode true [0x28014405, 0x55667788, 0x11223344] = .instr (.sarLit 4 5 0x1122334455667788) ∧
    decode true [0x2C014405, 0x55667788, 0x11223344] = .instr (.shlWLit 4 5 0x1122334455667788) ∧
    decode true [0x30014405, 0x55667788, 0x11223344] = .instr (.shrWLit 4 5 0x1122334455667788) ∧
    decode true [0x34014405, 0x55667788, 0x11223344] = .instr (.sarWLit 4 5 0x1122334455667788) ∧
    decode true [0x38014405, 0x55667788, 0x11223344] = .instr (.sltLit 4 5 0x1122334455667788) ∧
    decode true [0x3C014405, 0x55667788, 0x11223344] = .instr (.sltnLit 4 5 0x1122334455667788) := by
  decide +kernel

/-- 03 R66. -/
theorem test_decode_int_lit_b :
    decode true [0x40014405, 0x55667788, 0x11223344] = .instr (.minLit 4 5 0x1122334455667788) ∧
    decode true [0x44014405, 0x55667788, 0x11223344] = .instr (.maxLit 4 5 0x1122334455667788) ∧
    decode true [0x48014405, 0x55667788, 0x11223344] = .instr (.minnLit 4 5 0x1122334455667788) ∧
    decode true [0x4C014405, 0x55667788, 0x11223344] = .instr (.maxnLit 4 5 0x1122334455667788) ∧
    decode true [0x78014405, 0x55667788, 0x11223344] = .instr (.rolLit 4 5 0x1122334455667788) ∧
    decode true [0x7C014405, 0x55667788, 0x11223344] = .instr (.rorLit 4 5 0x1122334455667788) := by
  decide +kernel

/-- 03 R77. -/
theorem test_decode_muldiv :
    decode true [0x00510608] = .instr (.mul 6 4 5) ∧
    decode true [0x00010609, 0x55667788, 0x11223344] = .instr (.mulLit 6 4 0x1122334455667788) ∧
    decode true [0x04510608] = .instr (.mulh 6 4 5) ∧
    decode true [0x04010609, 0x55667788, 0x11223344] = .instr (.mulhLit 6 4 0x1122334455667788) ∧
    decode true [0x08510608] = .instr (.mulhn 6 4 5) ∧
    decode true [0x08010609, 0x55667788, 0x11223344] = .instr (.mulhnLit 6 4 0x1122334455667788) ∧
    decode true [0x0C510608] = .instr (.mulW 6 4 5) ∧
    decode true [0x0C010609, 0x55667788, 0x11223344] = .instr (.mulWLit 6 4 0x1122334455667788) ∧
    decode true [0x10510608] = .instr (.div 6 4 5) ∧
    decode true [0x10010609, 0x55667788, 0x11223344] = .instr (.divLit 6 4 0x1122334455667788) ∧
    decode true [0x14510608] = .instr (.divn 6 4 5) ∧
    decode true [0x14010609, 0x55667788, 0x11223344] = .instr (.divnLit 6 4 0x1122334455667788) ∧
    decode true [0x18510608] = .instr (.rem 6 4 5) ∧
    decode true [0x18010609, 0x55667788, 0x11223344] = .instr (.remLit 6 4 0x1122334455667788) ∧
    decode true [0x1C510608] = .instr (.remn 6 4 5) ∧
    decode true [0x1C010609, 0x55667788, 0x11223344] = .instr (.remnLit 6 4 0x1122334455667788) := by
  decide +kernel

/-- 03 R77. -/
theorem test_decode_muldiv_b :
    decode true [0x20510608] = .instr (.divW 6 4 5) ∧
    decode true [0x20010609, 0x55667788, 0x11223344] = .instr (.divWLit 6 4 0x1122334455667788) ∧
    decode true [0x24510608] = .instr (.divnW 6 4 5) ∧
    decode true [0x24010609, 0x55667788, 0x11223344] = .instr (.divnWLit 6 4 0x1122334455667788) ∧
    decode true [0x28510608] = .instr (.remW 6 4 5) ∧
    decode true [0x28010609, 0x55667788, 0x11223344] = .instr (.remWLit 6 4 0x1122334455667788) ∧
    decode true [0x2C510608] = .instr (.remnW 6 4 5) ∧
    decode true [0x2C010609, 0x55667788, 0x11223344] = .instr (.remnWLit 6 4 0x1122334455667788) := by
  decide +kernel

/-- 03 R76. -/
theorem test_decode_imm :
    decode true [0xFFD1440C] = .instr (.addi 4 5 (-3)) ∧
    decode true [0x0001440D, 0x55667788, 0x11223344] = .instr (.addiLit 4 5 0x1122334455667788) ∧
    decode true [0xFFD14410] = .instr (.addiW 4 5 (-3)) ∧
    decode true [0x00014411, 0x55667788, 0x11223344] = .instr (.addiWLit 4 5 0x1122334455667788) ∧
    decode true [0xFFD14414] = .instr (.andi 4 5 (-3)) ∧
    decode true [0x00014415, 0x55667788, 0x11223344] = .instr (.andiLit 4 5 0x1122334455667788) ∧
    decode true [0xFFD14418] = .instr (.ori 4 5 (-3)) ∧
    decode true [0x00014419, 0x55667788, 0x11223344] = .instr (.oriLit 4 5 0x1122334455667788) ∧
    decode true [0xFFD1441C] = .instr (.xori 4 5 (-3)) ∧
    decode true [0x0001441D, 0x55667788, 0x11223344] = .instr (.xoriLit 4 5 0x1122334455667788) ∧
    decode true [0xFFD14424] = .instr (.slti 4 5 (-3)) ∧
    decode true [0x00014425, 0x55667788, 0x11223344] = .instr (.sltiLit 4 5 0x1122334455667788) ∧
    decode true [0xFFD14428] = .instr (.sltni 4 5 (-3)) ∧
    decode true [0x00014429, 0x55667788, 0x11223344] = .instr (.sltniLit 4 5 0x1122334455667788) ∧
    decode true [0xFFD0042C] = .instr (.li 4 (-3)) ∧
    decode true [0x0000042D, 0x55667788, 0x11223344] = .instr (.liLit 4 0x1122334455667788) := by
  decide +kernel

/-- 03 R76. -/
theorem test_decode_imm_b :
    decode true [0x01D14420] = .instr (.shli 4 5 29) ∧
    decode true [0x05D14420] = .instr (.shri 4 5 29) ∧
    decode true [0x09D14420] = .instr (.sari 4 5 29) ∧
    decode true [0x0DD14420] = .instr (.shliW 4 5 29) ∧
    decode true [0x11D14420] = .instr (.shriW 4 5 29) ∧
    decode true [0x15D14420] = .instr (.sariW 4 5 29) ∧
    decode true [0x21014430] = .instr (.bfx 4 5 8 16) ∧
    decode true [0x21014434] = .instr (.bfi 4 5 8 16) := by
  decide +kernel

/-- 03 R65. -/
theorem test_decode_control :
    decode true [0xFFC14440] = .instr (.beq 4 5 (-4)) ∧
    decode true [0xFFC14444] = .instr (.bne 4 5 (-4)) ∧
    decode true [0xFFC14448] = .instr (.blt 4 5 (-4)) ∧
    decode true [0xFFC1444C] = .instr (.bge 4 5 (-4)) ∧
    decode true [0xFFC14450] = .instr (.bltn 4 5 (-4)) ∧
    decode true [0xFFC14454] = .instr (.bgen 4 5 (-4)) ∧
    decode true [0xFFFFF058] = .instr (.j (-16)) ∧
    decode true [0x0000245C] = .instr (.jal 36) ∧
    decode true [0x00024060] = .instr (.jr 9) ∧
    decode true [0x04024060] = .instr (.jlr 9) ∧
    decode true [0x12C00064] = .instr (.align 300) := by
  decide +kernel

/-- 03 R76. -/
theorem test_decode_memory :
    decode true [0xFF814780] = .instr (.ldlB 7 5 (-8)) ∧
    decode true [0xFF814784] = .instr (.ldlH 7 5 (-8)) ∧
    decode true [0xFF814788] = .instr (.ldlW 7 5 (-8)) ∧
    decode true [0xFF81478C] = .instr (.ldlD 7 5 (-8)) ∧
    decode true [0xFF814790] = .instr (.ldlBz 7 5 (-8)) ∧
    decode true [0xFF814794] = .instr (.ldlHz 7 5 (-8)) ∧
    decode true [0xFF814798] = .instr (.ldlWz 7 5 (-8)) ∧
    decode true [0xFF8147C0] = .instr (.ldB 7 5 (-8)) ∧
    decode true [0xFF8147C4] = .instr (.ldH 7 5 (-8)) ∧
    decode true [0xFF8147C8] = .instr (.ldW 7 5 (-8)) ∧
    decode true [0xFF8147CC] = .instr (.ldD 7 5 (-8)) ∧
    decode true [0xFF8147D0] = .instr (.ldBz 7 5 (-8)) ∧
    decode true [0xFF8147D4] = .instr (.ldHz 7 5 (-8)) ∧
    decode true [0xFF8147D8] = .instr (.ldWz 7 5 (-8)) ∧
    decode true [0x008084A0] = .instr (.stlB 4 2 8) ∧
    decode true [0x008084A4] = .instr (.stlH 4 2 8) := by
  decide +kernel

/-- 03 R76. -/
theorem test_decode_memory_b :
    decode true [0x008084A8] = .instr (.stlW 4 2 8) ∧
    decode true [0x008084AC] = .instr (.stlD 4 2 8) ∧
    decode true [0x008084E0] = .instr (.stB 4 2 8) ∧
    decode true [0x008084E4] = .instr (.stH 4 2 8) ∧
    decode true [0x008084E8] = .instr (.stW 4 2 8) ∧
    decode true [0x008084EC] = .instr (.stD 4 2 8) ∧
    decode true [0x050009B0] = .instr (.rds 9 0x50) ∧
    decode true [0x002240B4] = .instr (.wrs 9 2) := by
  decide +kernel

/-- 03 R77. -/
theorem test_decode_amo :
    decode true [0x007185F0] = .instr (.amoswap 5 6 7) ∧
    decode true [0x407185F0] = .instr (.amoswapW 5 6 7) ∧
    decode true [0x047185F0] = .instr (.amoadd 5 6 7) ∧
    decode true [0x447185F0] = .instr (.amoaddW 5 6 7) ∧
    decode true [0x087185F0] = .instr (.amoand 5 6 7) ∧
    decode true [0x487185F0] = .instr (.amoandW 5 6 7) ∧
    decode true [0x0C7185F0] = .instr (.amoor 5 6 7) ∧
    decode true [0x4C7185F0] = .instr (.amoorW 5 6 7) ∧
    decode true [0x107185F0] = .instr (.amoxor 5 6 7) ∧
    decode true [0x507185F0] = .instr (.amoxorW 5 6 7) ∧
    decode true [0x147185F0] = .instr (.amomin 5 6 7) ∧
    decode true [0x547185F0] = .instr (.amominW 5 6 7) ∧
    decode true [0x187185F0] = .instr (.amomax 5 6 7) ∧
    decode true [0x587185F0] = .instr (.amomaxW 5 6 7) ∧
    decode true [0x1C7185F0] = .instr (.amominn 5 6 7) ∧
    decode true [0x5C7185F0] = .instr (.amominnW 5 6 7) := by
  decide +kernel

/-- 03 R77. -/
theorem test_decode_amo_b :
    decode true [0x207185F0] = .instr (.amomaxn 5 6 7) ∧
    decode true [0x607185F0] = .instr (.amomaxnW 5 6 7) := by
  decide +kernel

/-- 03 R78. -/
theorem test_decode_fp :
    decode true [0x006144F8] = .instr (.fadd 0 4 5 6) ∧
    decode true [0x146144F8] = .instr (.fsub 1 4 5 6) ∧
    decode true [0x286144F8] = .instr (.fmul 2 4 5 6) ∧
    decode true [0x3C6144F8] = .instr (.fdiv 3 4 5 6) ∧
    decode true [0x400144F8] = .instr (.fsqrt 0 4 5) ∧
    decode true [0x546144F8] = .instr (.fmin 1 4 5 6) ∧
    decode true [0x686144F8] = .instr (.fmax 2 4 5 6) ∧
    decode true [0x7C6144F8] = .instr (.fsgn 3 4 5 6) ∧
    decode true [0x806144F8] = .instr (.fsgnn 0 4 5 6) ∧
    decode true [0x946144F8] = .instr (.fsgnx 1 4 5 6) ∧
    decode true [0xA86144F8] = .instr (.feq 2 4 5 6) ∧
    decode true [0xBC6144F8] = .instr (.flt 3 4 5 6) ∧
    decode true [0xC06144F8] = .instr (.fle 0 4 5 6) ∧
    decode true [0xD40144F8] = .instr (.fclass 1 4 5) ∧
    decode true [0xE86144F8] = .instr (.fcun 2 4 5 6) := by
  decide +kernel

/-- 03 R66, R78. -/
theorem test_decode_fp_lit :
    decode true [0x0C0144F9, 0x55667788, 0x11223344] = .instr (.faddLit 3 4 5 0x1122334455667788) ∧
    decode true [0x180144F9, 0x55667788, 0x11223344] = .instr (.fsubLit 2 4 5 0x1122334455667788) ∧
    decode true [0x240144F9, 0x55667788, 0x11223344] = .instr (.fmulLit 1 4 5 0x1122334455667788) ∧
    decode true [0x300144F9, 0x55667788, 0x11223344] = .instr (.fdivLit 0 4 5 0x1122334455667788) ∧
    decode true [0x580144F9, 0x55667788, 0x11223344] = .instr (.fminLit 2 4 5 0x1122334455667788) ∧
    decode true [0x640144F9, 0x55667788, 0x11223344] = .instr (.fmaxLit 1 4 5 0x1122334455667788) ∧
    decode true [0x700144F9, 0x55667788, 0x11223344] = .instr (.fsgnLit 0 4 5 0x1122334455667788) ∧
    decode true [0x8C0144F9, 0x55667788, 0x11223344] = .instr (.fsgnnLit 3 4 5 0x1122334455667788) ∧
    decode true [0x980144F9, 0x55667788, 0x11223344] = .instr (.fsgnxLit 2 4 5 0x1122334455667788) ∧
    decode true [0xA40144F9, 0x55667788, 0x11223344] = .instr (.feqLit 1 4 5 0x1122334455667788) ∧
    decode true [0xB00144F9, 0x55667788, 0x11223344] = .instr (.fltLit 0 4 5 0x1122334455667788) ∧
    decode true [0xCC0144F9, 0x55667788, 0x11223344] = .instr (.fleLit 3 4 5 0x1122334455667788) ∧
    decode true [0xE40144F9, 0x55667788, 0x11223344] = .instr (.fcunLit 1 4 5 0x1122334455667788) := by
  decide +kernel

/-- 03 R79. -/
theorem test_decode_sys :
    decode true [0x01F000FC] = .instr (.trap 31) ∧
    decode true [0x07F000FC] = .instr (.sys 63) ∧
    decode true [0x080000FC] = .instr (.eret) ∧
    decode true [0x0C0000FC] = .instr (.wfi) ∧
    decode true [0x100009FC] = .instr (.rdtime 9) ∧
    decode true [0x14F009FC] = .instr (.rdcnt 9 15) ∧
    decode true [0x1BF000FC] = .instr (.brk 63) := by
  decide +kernel

/-- 05, 06. -/
theorem test_decode_fpx :
    decode true [0x00614406, 0x00028007, 0x00000000] = .instr (.fma 10 0 ⟨false, 4⟩ ⟨false, 5⟩ ⟨false, 6⟩ ⟨false, 7⟩) ∧
    decode true [0x00614406, 0x02028007, 0x00000000] = .instr (.fms 10 0 ⟨false, 4⟩ ⟨false, 5⟩ ⟨false, 6⟩ ⟨false, 7⟩) ∧
    decode true [0x00614406, 0x04028007, 0x00000000] = .instr (.fnma 10 0 ⟨false, 4⟩ ⟨false, 5⟩ ⟨false, 6⟩ ⟨false, 7⟩) ∧
    decode true [0x00614406, 0x06028007, 0x00000000] = .instr (.fnms 10 0 ⟨false, 4⟩ ⟨false, 5⟩ ⟨false, 6⟩ ⟨false, 7⟩) ∧
    decode true [0x01E06806, 0x00028282, 0x00000000] = .instr (.fma 10 0 ⟨false, 40⟩ ⟨true, 1⟩ ⟨false, 30⟩ ⟨true, 2⟩) ∧
    decode true [0x04024806, 0x086C8000, 0x00000000] = .instr (.fcvt 2 11 1 true ⟨false, 8⟩ ⟨false, 9⟩) ∧
    decode true [0x00614406, 0x0A000007, 0x00000000] = .instr (.sel ⟨false, 4⟩ ⟨false, 5⟩ ⟨false, 6⟩ ⟨false, 7⟩) ∧
    decode true [0x00014406, 0x0CC2C000, 0x00000000] = .instr (.fround 11 3 ⟨false, 4⟩ ⟨false, 5⟩) ∧
    decode true [0x0006810A, 0x0A000040, 0x00000000] = .instr (.intx 5 ⟨true, 1⟩ ⟨false, 26⟩ ⟨false, 0⟩) ∧
    decode true [0x0071440A, 0x88000000, 0x00000000] = .instr (.intx 0x44 ⟨false, 4⟩ ⟨false, 5⟩ ⟨false, 7⟩) ∧
    decode true [0x000FC40B, 0x02000080, 0x00000000, 0x55667788, 0x11223344] = .instr (.intxLit 1 ⟨false, 4⟩ ⟨true, 63⟩ 0x1122334455667788) ∧
    decode true [0x0000000E, 0x00000000, 0x00300282] = .instr (.rep false ⟨false, 0⟩ 3 0 1 2 0 2) := by
  decide +kernel

/-- 07. -/
theorem test_decode_valu :
    decode true [0x00614412, 0x0001A800, 0x00000000] = .instr (.vadd 6 true 2 4 5 6) ∧
    decode true [0x00614412, 0x0201A800, 0x00000000] = .instr (.vsub 6 true 2 4 5 6) ∧
    decode true [0x00614412, 0x0401A800, 0x00000000] = .instr (.vmul 6 true 2 4 5 6) ∧
    decode true [0x00614412, 0x0601A800, 0x00000000] = .instr (.vand 6 true 2 4 5 6) ∧
    decode true [0x00614412, 0x0801A800, 0x00000000] = .instr (.vor 6 true 2 4 5 6) ∧
    decode true [0x00614412, 0x0A01A800, 0x00000000] = .instr (.vxor 6 true 2 4 5 6) ∧
    decode true [0x00614412, 0x0C01A800, 0x00000000] = .instr (.vshl 6 true 2 4 5 6) ∧
    decode true [0x00614412, 0x0E01A800, 0x00000000] = .instr (.vshr 6 true 2 4 5 6) ∧
    decode true [0x00614412, 0x1001A800, 0x00000000] = .instr (.vsar 6 true 2 4 5 6) ∧
    decode true [0x00614412, 0x1201A800, 0x00000000] = .instr (.vmin 6 true 2 4 5 6) ∧
    decode true [0x00614412, 0x1401A800, 0x00000000] = .instr (.vmax 6 true 2 4 5 6) ∧
    decode true [0x0030C312, 0x0A000000, 0x00000000] = .instr (.vxor 0 false 0 3 3 3) := by
  decide +kernel

/-- 07. -/
theorem test_decode_vfp :
    decode true [0x00308116, 0x01021C00, 0x00000000] = .instr (.vfadd 8 4 false 7 1 2 3) ∧
    decode true [0x00308116, 0x03021C00, 0x00000000] = .instr (.vfsub 8 4 false 7 1 2 3) ∧
    decode true [0x00308116, 0x05021C00, 0x00000000] = .instr (.vfmul 8 4 false 7 1 2 3) ∧
    decode true [0x00308116, 0x07021C00, 0x00000000] = .instr (.vfdiv 8 4 false 7 1 2 3) ∧
    decode true [0x00008116, 0x09021C00, 0x00000000] = .instr (.vfsqrt 8 4 false 7 1 2) ∧
    decode true [0x00308116, 0x0A42C004, 0x00000000] = .instr (.vfma 11 1 false 0 1 2 3 4) ∧
    decode true [0x00308116, 0x0C42C004, 0x00000000] = .instr (.vfms 11 1 false 0 1 2 3 4) ∧
    decode true [0x00308116, 0x0E42C004, 0x00000000] = .instr (.vfnma 11 1 false 0 1 2 3 4) ∧
    decode true [0x00308116, 0x10024000, 0x00000000] = .instr (.vfmin 9 false 0 1 2 3) ∧
    decode true [0x00308116, 0x12024000, 0x00000000] = .instr (.vfmax 9 false 0 1 2 3) ∧
    decode true [0x00008116, 0x14026000, 0x00000000] = .instr (.vfabs 9 true 0 1 2) ∧
    decode true [0x00008116, 0x16026000, 0x00000000] = .instr (.vfneg 9 true 0 1 2) := by
  decide +kernel

/-- 07. -/
theorem test_decode_vcmp :
    decode true [0x0060431A, 0x00008000, 0x00000000] = .instr (.vceq 2 false 0 3 1 6) ∧
    decode true [0x0060431A, 0x02008000, 0x00000000] = .instr (.vclt 2 false 0 3 1 6) ∧
    decode true [0x0060431A, 0x04008000, 0x00000000] = .instr (.vcle 2 false 0 3 1 6) ∧
    decode true [0x0060431A, 0x06008000, 0x00000000] = .instr (.vcltn 2 false 0 3 1 6) ∧
    decode true [0x0060431A, 0x08028400, 0x00000000] = .instr (.vfeq 10 false 1 3 1 6) ∧
    decode true [0x0060431A, 0x0A028400, 0x00000000] = .instr (.vflt 10 false 1 3 1 6) ∧
    decode true [0x0060431A, 0x0C028400, 0x00000000] = .instr (.vfle 10 false 1 3 1 6) ∧
    decode true [0x0060431A, 0x0E028400, 0x00000000] = .instr (.vfun 10 false 1 3 1 6) ∧
    decode true [0x0070431A, 0x10000000, 0x00000000] = .instr (.mand false 0 3 1 7) ∧
    decode true [0x0070431A, 0x12000000, 0x00000000] = .instr (.mor false 0 3 1 7) ∧
    decode true [0x0070431A, 0x14000000, 0x00000000] = .instr (.mxor false 0 3 1 7) ∧
    decode true [0x0000431A, 0x16003400, 0x00000000] = .instr (.mnot true 5 3 1) ∧
    decode true [0x0000431A, 0x18000000, 0x00000000] = .instr (.mpop 0 3 1) ∧
    decode true [0x0000431A, 0x1A000000, 0x00000000] = .instr (.mfirst 0 3 1) := by
  decide +kernel

/-- 07. -/
theorem test_decode_vcvt :
    decode true [0x0000861E, 0x002AC000, 0x00000000] = .instr (.vcvt 11 10 0 false false 0 6 2) ∧
    decode true [0x0430861E, 0x022B0000, 0x00000000] = .instr (.vpack 12 10 0 true false 0 6 2 3) ∧
    decode true [0x0000861E, 0x04328000, 0x00000000] = .instr (.vunpack 10 12 false 0 6 2) ∧
    decode true [0x00004922, 0x00028000, 0x00000000] = .instr (.vredadd 10 0 0 ⟨false, 9⟩ 1) ∧
    decode true [0x00007F22, 0x0202C840, 0x00000000] = .instr (.vredmax 11 2 ⟨true, 63⟩ 1) ∧
    decode true [0x00007F22, 0x0402C840, 0x00000000] = .instr (.vredmin 11 2 ⟨true, 63⟩ 1) ∧
    decode true [0x00007F22, 0x0601C840, 0x00000000] = .instr (.vredaddi 7 2 ⟨true, 63⟩ 1) := by
  decide +kernel

/-- 07. -/
theorem test_decode_vperm :
    decode true [0x00610526, 0x0002C000, 0x00000000] = .instr (.vperm 11 false 0 5 4 6) ∧
    decode true [0x000F0526, 0x02000080, 0x00000000] = .instr (.vbcast 0 false 0 5 ⟨true, 60⟩) ∧
    decode true [0x00010926, 0x04000000, 0x0000001F] = .instr (.vext 0 ⟨false, 9⟩ 4 31) ∧
    decode true [0x00024526, 0x0600C000, 0x0000000F] = .instr (.vins 3 5 ⟨false, 9⟩ 15) ∧
    decode true [0x00010526, 0x08000000, 0x00000001] = .instr (.vbfly 0 false 0 5 4 1) ∧
    decode true [0x00610526, 0x0A000000, 0x0000001E] = .instr (.vslide 0 false 0 5 4 6 30) ∧
    decode true [0x0020472A, 0x00028000, 0x00000000] = .instr (.vcmul 10 0 false 0 7 1 2) ∧
    decode true [0x0020472A, 0x02824003, 0x00000000] = .instr (.vcfma 9 2 false 0 7 1 2 3) ∧
    decode true [0x0000472A, 0x04020000, 0x00000000] = .instr (.vcconj 8 false 0 7 1) ∧
    decode true [0x0020472A, 0x06020000, 0x00000000] = .instr (.vcmulj 8 0 false 0 7 1 2) ∧
    decode true [0x0003012E, 0x00000000, 0x00000000] = .instr (.vldl 0 false 0 1 ⟨false, 12⟩ ⟨false, 0⟩ 0) ∧
    decode true [0x0003022E, 0x02000000, 0x00000080] = .instr (.vstl 0 0 2 ⟨false, 12⟩ ⟨false, 0⟩ 128) ∧
    decode true [0x0073042E, 0x04000000, 0x00000010] = .instr (.vgath 0 false 0 4 ⟨false, 12⟩ 7 16) ∧
    decode true [0x0073042E, 0x06000000, 0xFFFFFFFC] = .instr (.vscat 0 0 4 ⟨false, 12⟩ 7 (-4)) := by
  decide +kernel

/-- 08. -/
theorem test_decode_thread :
    decode true [0x00718542, 0x00000000, 0x00000000] = .instr (.spawn ⟨false, 5⟩ ⟨false, 6⟩ ⟨false, 7⟩) ∧
    decode true [0x00000042, 0x02000000, 0x00000000] = .instr (.endT) ∧
    decode true [0x00000042, 0x04000000, 0x00000000] = .instr (.yieldT) ∧
    decode true [0x00000442, 0x06000000, 0x00000005] = .instr (.join ⟨false, 4⟩ 5) ∧
    decode true [0x00000442, 0x08000000, 0x00000005] = .instr (.leave ⟨false, 4⟩ 5) ∧
    decode true [0x00014442, 0x0A000000, 0x0000012C] = .instr (.stitch ⟨false, 4⟩ ⟨false, 5⟩ 300) ∧
    decode true [0x00000042, 0x0C000000, 0x00000000] = .instr (.unstitch) ∧
    decode true [0x00000442, 0x0E000000, 0x00000001] = .instr (.selfT ⟨false, 4⟩ 1) ∧
    decode true [0x00000446, 0x00000000, 0x00000005] = .instr (.arrive ⟨false, 4⟩ 5) ∧
    decode true [0x00020746, 0x02000000, 0x00000005] = .instr (.arriveb ⟨false, 7⟩ ⟨false, 8⟩ 5) ∧
    decode true [0x00010046, 0x04000000, 0x00000000] = .instr (.waitT ⟨false, 4⟩) ∧
    decode true [0x00014446, 0x06000000, 0x00000005] = .instr (.btx ⟨false, 4⟩ ⟨false, 5⟩ 5) ∧
    decode true [0x00014446, 0x08000000, 0x00000000] = .instr (.bpoll ⟨false, 4⟩ ⟨false, 5⟩) ∧
    decode true [0x00B2804A, 0x0000000C, 0x00000004] = .instr (.chinit ⟨false, 10⟩ ⟨false, 11⟩ ⟨false, 12⟩ 4) ∧
    decode true [0x00B2834A, 0x02000000, 0x00000000] = .instr (.chsend ⟨false, 3⟩ ⟨false, 10⟩ ⟨false, 11⟩) ∧
    decode true [0x00B2834A, 0x04000000, 0x00000000] = .instr (.chrecv ⟨false, 3⟩ ⟨false, 10⟩ ⟨false, 11⟩) := by
  decide +kernel

/-- 08. -/
theorem test_decode_thread_b :
    decode true [0x0002834A, 0x06000000, 0x00000000] = .instr (.chpoll ⟨false, 3⟩ ⟨false, 10⟩) ∧
    decode true [0x0092034E, 0x00000000, 0x00000000] = .instr (.sigdec ⟨false, 3⟩ ⟨false, 8⟩ ⟨false, 9⟩) ∧
    decode true [0x0002034E, 0x02000000, 0x00000000] = .instr (.sigwait ⟨false, 3⟩ ⟨false, 8⟩) := by
  decide +kernel

/-- 09, 10, 11, 13. -/
theorem test_decode_exch :
    decode true [0x00002852, 0x00000000, 0x00000000] = .instr (.seam ⟨false, 40⟩ ⟨false, 0⟩) ∧
    decode true [0x01850052, 0x02000000, 0x00000010] = .instr (.xsend ⟨false, 20⟩ ⟨false, 24⟩ 16 0) ∧
    decode true [0x01470052, 0x04000000, 0x00000010] = .instr (.xrecv ⟨false, 28⟩ ⟨false, 20⟩ 16 0) ∧
    decode true [0x00000052, 0x06000000, 0x00000028] = .instr (.xwait 40) ∧
    decode true [0x00000052, 0x08000000, 0x00000000] = .instr (.xend) ∧
    decode true [0x00C0CD62, 0x00000004, 0x00000001] = .instr (.grant ⟨false, 13⟩ ⟨false, 3⟩ ⟨false, 12⟩ ⟨false, 4⟩ 1) ∧
    decode true [0x00C0D162, 0x02000004, 0x00000000] = .instr (.revoke ⟨false, 17⟩ ⟨false, 3⟩ ⟨false, 12⟩ ⟨false, 4⟩) ∧
    decode true [0x00000062, 0x04000000, 0x00000000] = .instr (.rvsync) ∧
    decode true [0x00018562, 0x06000000, 0x00000000] = .instr (.rchk ⟨false, 5⟩ ⟨false, 6⟩ ⟨false, 0⟩) ∧
    decode true [0x00718562, 0x08000000, 0x00000000] = .instr (.retire ⟨false, 5⟩ ⟨false, 6⟩ ⟨false, 7⟩) ∧
    decode true [0x18718566, 0x0000C000, 0x00000000] = .instr (.ordadd 3 0 ⟨false, 5⟩ ⟨false, 6⟩ ⟨false, 7⟩) ∧
    decode true [0x18718566, 0x00028000, 0x00000000] = .instr (.ordadd 10 0 ⟨false, 5⟩ ⟨false, 6⟩ ⟨false, 7⟩) ∧
    decode true [0x18718566, 0x02018000, 0x00000000] = .instr (.ordmin 6 ⟨false, 5⟩ ⟨false, 6⟩ ⟨false, 7⟩) ∧
    decode true [0x18718566, 0x0401C000, 0x00000000] = .instr (.ordmax 7 ⟨false, 5⟩ ⟨false, 6⟩ ⟨false, 7⟩) ∧
    decode true [0x18718566, 0x06008000, 0x00000000] = .instr (.ordswap 2 ⟨false, 5⟩ ⟨false, 6⟩ ⟨false, 7⟩) ∧
    decode true [0x18018566, 0x08028000, 0x00000000] = .instr (.ordget 10 ⟨false, 5⟩ ⟨false, 6⟩) := by
  decide +kernel

/-- 09, 10, 11, 13. -/
theorem test_decode_exch_b :
    decode true [0x0071856A, 0x00000008, 0x00000000] = .instr (.cas ⟨false, 5⟩ ⟨false, 6⟩ ⟨false, 7⟩ ⟨false, 8⟩) ∧
    decode true [0x0071856A, 0x02000008, 0x00000000] = .instr (.casW ⟨false, 5⟩ ⟨false, 6⟩ ⟨false, 7⟩ ⟨false, 8⟩) ∧
    decode true [0x0071856A, 0x04000000, 0x00000000] = .instr (.incw ⟨false, 5⟩ ⟨false, 6⟩ ⟨false, 7⟩) ∧
    decode true [0x0071856A, 0x06000000, 0x00000000] = .instr (.incwW ⟨false, 5⟩ ⟨false, 6⟩ ⟨false, 7⟩) ∧
    decode true [0x0071856A, 0x08000008, 0x00000009] = .instr (.faddb ⟨false, 5⟩ ⟨false, 6⟩ ⟨false, 7⟩ ⟨false, 8⟩ ⟨false, 9⟩) ∧
    decode true [0x0071856A, 0x0A000008, 0x00000009] = .instr (.faddbW ⟨false, 5⟩ ⟨false, 6⟩ ⟨false, 7⟩ ⟨false, 8⟩ ⟨false, 9⟩) := by
  decide +kernel

/-- 14, 15, 16. -/
theorem test_decode_engine :
    decode true [0x00C2CA82, 0x0000000D, 0x00000000] = .instr (.copyGl ⟨false, 10⟩ ⟨false, 11⟩ ⟨false, 12⟩ ⟨false, 13⟩ 0 false false 0) ∧
    decode true [0x00C2CA82, 0x0200000D, 0x00000000] = .instr (.copyLg ⟨false, 10⟩ ⟨false, 11⟩ ⟨false, 12⟩ ⟨false, 13⟩ 0 false false 0) ∧
    decode true [0x00C2CA82, 0x0400000D, 0x00000000] = .instr (.copyLl ⟨false, 10⟩ ⟨false, 11⟩ ⟨false, 12⟩ ⟨false, 13⟩ 0 false false 0) ∧
    decode true [0x00C2CA82, 0x0600000D, 0x00000000] = .instr (.copyGg ⟨false, 10⟩ ⟨false, 11⟩ ⟨false, 12⟩ ⟨false, 13⟩ 0 false false 0) ∧
    decode true [0x00000082, 0x08000000, 0x00000003] = .instr (.cpwait 3) ∧
    decode true [0x00000582, 0x0A000000, 0x00000004] = .instr (.cpstat ⟨false, 5⟩ 4) ∧
    decode true [0x00C2CA86, 0x00268000, 0x00000034] = .instr (.convE 10 9 0 false ⟨false, 10⟩ ⟨false, 11⟩ ⟨false, 12⟩ 3 true false) ∧
    decode true [0x00C2CA86, 0x022B0000, 0x00000000] = .instr (.quant 12 10 0 false ⟨false, 10⟩ ⟨false, 11⟩ ⟨false, 12⟩ 0 false false) ∧
    decode true [0x00C2CA86, 0x04328000, 0x00000002] = .instr (.dequant 10 12 0 ⟨false, 10⟩ ⟨false, 11⟩ ⟨false, 12⟩ 0 false true) ∧
    decode true [0x04C2CA86, 0x07374000, 0x00000000] = .instr (.retile 13 13 4 true ⟨false, 10⟩ ⟨false, 11⟩ ⟨false, 12⟩ 0 false false) ∧
    decode true [0x0001408A, 0x00000000, 0x00000008] = .instr (.evcfg ⟨false, 5⟩ 8) ∧
    decode true [0x0000008A, 0x02000000, 0x00000000] = .instr (.evarm 0) ∧
    decode true [0x0000008A, 0x04000000, 0x00000000] = .instr (.evwait 0) ∧
    decode true [0x0000068A, 0x06000000, 0x00000000] = .instr (.evread ⟨false, 6⟩ 0) ∧
    decode true [0x0002408E, 0x00000000, 0x00000000] = .instr (.mload ⟨false, 9⟩ ⟨false, 0⟩ false 0 false false) ∧
    decode true [0x00C2C08E, 0x02000000, 0x00004000] = .instr (.mstream ⟨false, 11⟩ ⟨false, 12⟩ 64 false 0 false false) := by
  decide +kernel

/-- 14, 15, 16. -/
theorem test_decode_engine_b :
    decode true [0x0003408E, 0x04000000, 0x00040000] = .instr (.mstore 0 ⟨false, 13⟩ ⟨false, 0⟩ 0 0 true false 0 false false) ∧
    decode true [0x0000008E, 0x06000000, 0x00020000] = .instr (.mzero 0 2 0 false false) ∧
    decode true [0x0005008E, 0x08000000, 0x00000000] = .instr (.msave ⟨false, 20⟩) ∧
    decode true [0x0005008E, 0x0A000000, 0x00000000] = .instr (.mrest ⟨false, 20⟩) ∧
    decode true [0x00000E8E, 0x0C000000, 0x00000008] = .instr (.mstat ⟨false, 14⟩ 8) ∧
    decode true [0x0000008E, 0x0E000000, 0x00200001] = .instr (.minj 1 0 0 32) ∧
    decode true [0x00030092, 0x00000000, 0x00000020] = .instr (.bndset ⟨false, 12⟩ 0 2) ∧
    decode true [0x00001092, 0x02000000, 0x00000004] = .instr (.bndread ⟨false, 16⟩ 4) ∧
    decode true [0x006140C2, 0x00000000, 0x00000000] = .instr (.l1wb ⟨false, 5⟩ ⟨false, 6⟩) ∧
    decode true [0x006140C2, 0x02000000, 0x00000000] = .instr (.l1inv ⟨false, 5⟩ ⟨false, 6⟩) ∧
    decode true [0x186140C2, 0x04000000, 0x00000000] = .instr (.tlbinv 3 ⟨false, 5⟩ ⟨false, 6⟩) ∧
    decode true [0x180140C2, 0x06000000, 0x00000000] = .instr (.rlbinv 3 ⟨false, 5⟩) ∧
    decode true [0x000004C2, 0x08000000, 0x00000001] = .instr (.snapctl ⟨false, 4⟩ 1) ∧
    decode true [0x006140C2, 0x0A000000, 0x00000001] = .instr (.errlog ⟨false, 5⟩ ⟨false, 6⟩ 1) := by
  decide +kernel

/-- 05, 10, 13. -/
theorem test_decode_worked :
    decode true [0x00714404] = .instr (.add 4 5 7) ∧
    decode true [0x10510608] = .instr (.div 6 4 5) ∧
    decode true [0x04314420] = .instr (.shri 4 5 3) ∧
    decode true [0x21014430] = .instr (.bfx 4 5 8 16) ∧
    decode true [0x00414788] = .instr (.ldlW 7 5 4) ∧
    decode true [0x008084AC] = .instr (.stlD 4 2 8) ∧
    decode true [0x945144F8] = .instr (.fsgnx 1 4 5 5) ∧
    decode true [0x000083CC] = .instr (.ldD 3 2 0) ∧
    decode true [0x004000F4] = .instr (.fence 0 4) ∧
    decode true [0x000000F4] = .instr (.fence 0 0) ∧
    decode true [0x00A000F4] = .instr (.fence 1 2) ∧
    decode true [0x013000F4] = .instr (.fence 2 3) := by
  decide +kernel

/-- 03, the table of words that are none. -/
theorem test_decode_rejects :
    decode true [0x00000000] = .illegalOpcode ∧
    decode true [0x00000039, 0x00000000, 0x00000000] = .illegalOpcode ∧
    decode true [0x00000032, 0x00000000, 0x00000000] = .illegalOpcode ∧
    decode true [0x000083CD, 0x00000000, 0x00000000] = .illegalLength ∧
    decode true [0x50014405, 0x00000000, 0x00000000] = .illegalLength ∧
    decode true [0x00714405, 0x00000000, 0x00000000] = .illegalField ∧
    decode true [0x0010062D, 0x00000000, 0x00000000] = .illegalField ∧
    decode true [0x006000F4] = .illegalField ∧
    decode true [0x00104216, 0x0182A400, 0x00000000] = .illegalField ∧
    decode true [0x00104216, 0x1602A400, 0x00000000] = .illegalField ∧
    decode true [0x00104216, 0x1802A400, 0x00000000] = .illegalOpcode ∧
    decode true [0x0001820A, 0x00000200, 0x00000000] = .illegalField := by
  decide +kernel

/-- 03 R83: errlog without the error-injection capability is no instruction. -/
theorem test_decode_capability :
    decode true [0x006140C2, 0x0A000000, 1] = .instr (.errlog ⟨false, 5⟩ ⟨false, 6⟩ 1) ∧
    decode false [0x006140C2, 0x0A000000, 1] = .illegalOpcode := by
  decide +kernel

/-! ### Single steps, with the results that the manual's tables give -/

/-- The module after reset with registers of core 0. -/
def withRegs (rs : List (Nat × Nat)) : State :=
  { State.reset with cores := [(0, rs.foldl (fun c p => { c with loc := memWrite c.loc (0x3F000 + 8 * p.1) 8 p.2 }) (Core.reset 0))] }

/-- Executed with these registers, the instruction leaves the value in register d of core 0. -/
abbrev gives (i : Instr) (rs : List (Nat × Nat)) (d : Nat) (v : DWord) : Prop :=
  (match exec i (withRegs rs) with
   | .next t => some ((t.core 0).rg .D ⟨false, BitVec.ofNat 6 d⟩)
   | _ => none) = some v

/-- Executed at address 0 with these registers, the instruction traps with this cause and s.eval. -/
abbrev trapsWith (i : Instr) (rs : List (Nat × Nat)) (cause : Nat) (eval : DWord) : Prop :=
  (match exec i (withRegs rs) with
   | .next t => some ((t.core 0).sp.cause.toNat % 512, (t.core 0).sp.eval)
   | _ => none) = some (cause, eval)

/-- 05 R120, its table of cases. -/
theorem test_shifts :
    gives (.shl 4 5 6) [(5, 9), (6, 64)] 4 9 ∧
    gives (.sarW 4 5 6) [(5, 0x80000000), (6, 35)] 4 0xFFFFFFFFF0000000 ∧
    gives (.shrW 4 5 0) [(5, 0x80000000)] 4 0xFFFFFFFF80000000 := by
  decide +kernel

/-- 05 R120, its table of cases. -/
theorem test_counts :
    gives (.clz 4 5) [] 4 64 ∧
    gives (.ctz 4 5) [] 4 64 ∧
    gives (.rev 4 5) [(5, 1)] 4 0x8000000000000000 := by
  decide +kernel

/-- 05 R120, its table of cases. -/
theorem test_min_add :
    gives (.min 4 5 0) [(5, 2 ^ 63)] 4 0x8000000000000000 ∧
    gives (.minn 4 5 0) [(5, 2 ^ 63)] 4 0 ∧
    gives (.addW 4 5 6) [(5, 0x7FFFFFFF), (6, 1)] 4 0xFFFFFFFF80000000 := by
  decide +kernel

/-- 05 R121, its table. -/
theorem test_divide :
    gives (.div 4 5 6) [(5, 2 ^ 64 - 7), (6, 2)] 4 0xFFFFFFFFFFFFFFFD ∧
    gives (.rem 4 5 6) [(5, 2 ^ 64 - 7), (6, 2)] 4 0xFFFFFFFFFFFFFFFF ∧
    gives (.div 4 5 0) [(5, 7)] 4 0xFFFFFFFFFFFFFFFF ∧
    gives (.rem 4 5 0) [(5, 7)] 4 7 ∧
    gives (.divn 4 5 0) [(5, 7)] 4 0xFFFFFFFFFFFFFFFF ∧
    gives (.remn 4 5 0) [(5, 7)] 4 7 := by
  decide +kernel

/-- 05 R121, its table. -/
theorem test_divide_overflow :
    gives (.div 4 5 6) [(5, 2 ^ 63), (6, 2 ^ 64 - 1)] 4 0x8000000000000000 ∧
    gives (.rem 4 5 6) [(5, 2 ^ 63), (6, 2 ^ 64 - 1)] 4 0 ∧
    gives (.divW 4 5 6) [(5, 0x80000000), (6, 0xFFFFFFFF)] 4 0xFFFFFFFF80000000 ∧
    gives (.remW 4 5 6) [(5, 0x80000000), (6, 0xFFFFFFFF)] 4 0 ∧
    gives (.remW 4 5 6) [(5, 7), (6, 2 ^ 64 - 2)] 4 1 ∧
    gives (.remnW 4 5 6) [(5, 0x80000000), (6, 2 ^ 32)] 4 0xFFFFFFFF80000000 := by
  decide +kernel

/-- 05 R121, its table. -/
theorem test_multiply :
    gives (.mulh 4 5 5) [(5, 2 ^ 64 - 1)] 4 0 ∧
    gives (.mulhn 4 5 5) [(5, 2 ^ 64 - 1)] 4 0xFFFFFFFFFFFFFFFE := by
  decide +kernel

/-- 05 R122: the sltni with -1, and 05 R124 with a field of 64 bits. -/
theorem test_immediates :
    gives (.sltni 4 5 (-1)) [(5, 7)] 4 1 ∧
    gives (.sltni 4 5 (-1)) [(5, 2 ^ 64 - 1)] 4 0 ∧
    gives (.bfx 4 5 8 16) [(5, 0x12345678)] 4 0x3456 ∧
    gives (.bfi 4 5 0 0) [(4, 9), (5, 7)] 4 7 := by
  decide +kernel

/-- 05 R128, its table of outcomes. -/
theorem test_local_access :
    trapsWith (.ldlW 4 5 0) [(5, 0x3FFC)] 0x021 0x3FFC ∧
    trapsWith (.ldlD 4 5 0) [(5, 262140)] 0x022 262140 ∧
    trapsWith (.ldlW 4 5 0) [(5, 0x4006)] 0x023 0x4006 ∧
    trapsWith (.ldlW 4 5 (-4)) [] 0x022 0xFFFFFFFFFFFFFFFC ∧
    gives (.stlB 6 5 0) [(5, 0x3F048), (6, 0xAB)] 9 0xAB := by
  decide +kernel

/-- 04 R88, R90, R97: 1 / 0 is infinite, 0 / 0 the canonical NaN, and a sum of opposite values +0. -/
theorem test_float_zero :
    gives (.fdiv 0 4 5 6) [(5, 0x3F800000)] 4 0x7F800000 ∧
    gives (.fdiv 0 4 5 6) [] 4 0x7FC00000 ∧
    gives (.fadd 0 4 5 6) [(5, 0x3F800000), (6, 0xBF800000)] 4 0 := by
  decide +kernel

/-- 05 R126: jal writes PC + 8 to g1, jlr g1 too. -/
theorem test_link :
    gives (.jal 36) [] 1 8 ∧
    gives (.jlr 1) [(1, 0x40)] 1 8 := by
  decide +kernel

/-- 06 R142: word 0 and word -1 are out of bounds. -/
theorem test_relative_bound :
    trapsWith (.intx 0 ⟨true, 0⟩ ⟨false, 6⟩ ⟨false, 0⟩) [] 0x007 0 ∧
    trapsWith (.intx 0 ⟨false, 4⟩ ⟨true, 63⟩ ⟨false, 0⟩) [] 0x007 0xFFFFFFFFFFFFFFFF := by
  decide +kernel

end Sys2Proof.Machine
end

