-- ==== Sys2Proof/Tests/Witnesses.lean ====
section
/-! SUPPORT. For every statement with hypotheses, and for every part of it that has its own, a small state and operands that meet them
together.  Core.clearB, Core.loadB and so on are the hypotheses as Booleans; the lemmas beside them say that they are the same. -/

namespace Sys2Proof.Machine

set_option Elab.async false

/-! ### Hypotheses as Booleans, and small states -/

/-- A list of tests that all pass: the test at a place passes. -/
theorem passes {ts : List Bool} (h : ts.all id = true) (n : Nat) (t : Bool) (ht : ts[n]? = some t) : t = true :=
  List.all_eq_true.1 h t (List.mem_of_getElem? ht)

/-- The tests of Core.Clear, and Core.Clear as a Boolean. -/
def Core.clearTests (c : Core) (r : Req) : List Bool :=
  [!c.badRM r.rm, !(r.ctl && c.ds != .none), decide (r.mode ≤ c.mode), r.uses.all (fun u => c.boundOf u == none),
   (c.readWords r.uses).all (fun w => !c.inShadow w), (c.readWords r.uses).all (fun w => tabGet? c.flips w == none)]
def Core.clearB (c : Core) (r : Req) : Bool := (c.clearTests r).all id

theorem clear_of {c : Core} {r : Req} (h : c.clearB r = true) : c.Clear r where
  rounding := by simpa using passes h 0 _ rfl
  slot := fun x => by simpa [x] using passes h 1 _ rfl
  mode := by simpa using passes h 2 _ rfl
  bound := by simpa using passes h 3 _ rfl
  shadow := by simpa using passes h 4 _ rfl
  whole := by simpa using passes h 5 _ rfl

/-- Core.Loadable as a Boolean. -/
def Core.loadTests (c : Core) (p : Int × Nat) : List Bool :=
  [localCheck c.xbAddr p.1 p.2 == none, tabGet? c.flips (p.1.toNat / 8) == none, !c.localBusy p.1 p.2]
def Core.loadB (c : Core) (ps : List (Int × Nat)) : Bool := ps.all (fun p => (c.loadTests p).all id)

theorem loadable_of {c : Core} {ps : List (Int × Nat)} (h : c.loadB ps = true) : c.Loadable ps := fun p hp =>
  have ts := List.all_eq_true.1 h p hp
  ⟨by simpa using passes ts 0 _ rfl, by simpa using passes ts 1 _ rfl, by simpa using passes ts 2 _ rfl⟩

/-- mayReach and inBounds as Booleans. -/
def reachB (c : Core) : Bool := [!(c.sp.psw.getLsbD 4 && !c.sp.psw.getLsbD 5), !c.sp.psw.getLsbD 6].all id
def boundTests (c : Core) (a : Int) (n : Nat) : List Bool :=
  [decide (0 ≤ a), decide (a + n ≤ 262144), decide (a % n = 0), decide ((c.sp.xb.toNat : Int) ≤ a)]
def boundB (c : Core) (a : Int) (n : Nat) : Bool := (boundTests c a n).all id

theorem mayReach_of {c : Core} (h : reachB c = true) : mayReach c :=
  ⟨fun x => absurd (passes h 0 _ rfl) (by rw [x.1, x.2]; decide), by simpa using passes h 1 _ rfl⟩

theorem inBounds_of {c : Core} {a : Int} {n : Nat} (h : boundB c a n = true) : inBounds c a n :=
  ⟨of_decide_eq_true (passes h 0 _ rfl), of_decide_eq_true (passes h 1 _ rfl), of_decide_eq_true (passes h 2 _ rfl),
   of_decide_eq_true (passes h 3 _ rfl)⟩

/-- An access that ends well, in a state and with a value of which p holds. -/
def Acc.sat {α : Type} (r : Acc α) (p : State → α → Bool) : Bool :=
  match r with
  | .ok s v => p s v
  | _ => false

theorem Acc.sat_elim {α : Type} {r : Acc α} {p : State → α → Bool} (h : r.sat p = true) : ∃ s v, r = .ok s v ∧ p s v = true := by
  cases r with
  | ok s v => exact ⟨s, v, rfl, h⟩
  | trap s e => cases h
  | wait s => cases h

/-- Registers g of a core at their reset place. -/
def Core.withG (c : Core) (rs : List (Nat × Nat)) : Core :=
  rs.foldl (fun c p => { c with loc := memWrite c.loc (0x3F000 + 8 * p.1) 8 p.2 }) c

/-- The module after reset with the core at site 0 changed. -/
def small (f : Core → Core) : State := { State.reset with cores := [(0, f (Core.reset 0))] }

/-- The same with registers. -/
def regs (rs : List (Nat × Nat)) : State := small (fun c => c.withG rs)

/-- A core of a superstep gang: in its compute phase, or in its exchange phase. -/
def compute (c : Core) : Core := { c with sp := { c.sp with psw := 0x13 } }
def exchange (c : Core) : Core := { c with sp := { c.sp with psw := 0x33 } }

def w0 : State := regs [(2, 0x8000), (3, 0x8040), (4, 4), (5, 7), (6, 2 ^ 64 - 1), (7, 3), (8, 0xBFF0000000000000)]
def fpTrap : State := small (fun c => { c.withG [(8, 0xBFF0000000000000)] with sp := { c.sp with fcsr := 0x1F00 } })

/-- ScalarIntegerResult, ScalarFrames, ResultShadow, claimDelaySlotContinues: a form of each kind, and the three delay slots. -/
theorem witness_scalar_integer :
    ([.add 4 5 7, .addLit 4 5 1, .intx 5 ⟨true, 1⟩ ⟨false, 26⟩ ⟨false, 0⟩, .div 6 4 0, .shliW 4 5 31, .bfi 4 5 63 0, .li 0 0, .rdtime 9] : List Instr).all (fun i => i.wf &&
      (scalarRule (small (fun c => { c with sp := { c.sp with ix := 62 } })) i).any (fun x => (Core.clearB { Core.reset 0 with sp := { (Core.reset 0).sp with ix := 62 } } x.req))) = true ∧
    (scalarRule w0 (.mul 6 4 5)).any (fun x => decide (1 < x.lat) && decide (((w0.core 0).gIx .D x.dst).toNat ≠ 0) &&
      (w0.core 0).clearB x.req) = true ∧
    (w0.core 0).loc.wf = true ∧
    (w0.core 0).rep = none ∧
    (⟨0, 0, 0, 0, 2⟩ : Shadow) ∈ ({ (w0.core 0) with shadows := [⟨0, 0, 0, 0, 2⟩] } : Core).shadows ∧
    ([.none, .taken 64, .fallThrough] : List DelaySlot).all (fun x => (scalarRule (small (fun c => { c with ds := x })) (.add 4 5 7)).any (fun y => ({ Core.reset 0 with ds := x } : Core).clearB y.req)) = true := by
  decide +kernel

/-- ScalarFloatResult, claimScalarFloatFrame, and claimFloatTrapWritesNothing for its other case. -/
theorem witness_scalar_float :
    ([.fadd 1 4 5 8, .fsqrt 1 4 8, .fma 11 0 ⟨false, 4⟩ ⟨false, 5⟩ ⟨false, 8⟩ ⟨true, 1⟩, .fcvt 2 11 1 true ⟨false, 8⟩ ⟨false, 9⟩, .fround 11 5 ⟨false, 4⟩ ⟨false, 5⟩] : List Instr).all (fun i => i.wf &&
      (scalarFpRule w0 i).any (fun x => (x.res.flags &&& (w0.core 0).flagEnables == 0) &&
      { (w0.core 0) with sp := { (w0.core 0).sp with ix := 3 } }.clearB x.req)) = true ∧
    (scalarFpRule fpTrap (.fsqrt 1 4 8)).any (fun x => (x.res.flags &&& (fpTrap.core 0).flagEnables != 0) &&
      (fpTrap.core 0).clearB x.req) = true ∧
    (fpTrap.core 0).loc.wf = true := by
  decide +kernel

/-- The same with only element 0 set in m0 to m3. -/
def few : State := regs [(2, 0x8000), (3, 0x8040), (4, 4), (5, 7), (6, 2 ^ 64 - 1), (7, 3), (320, 0x100000001), (321, 0x100000001)]

/-- VectorLaneResult: lanes, floats, conversions, permutes, products, loads and gathers with their addresses. -/
theorem witness_lanes :
    ([.vadd 6 true 2 4 5 6, .vfadd 10 0 false 1 1 2 3, .vcvt 11 10 0 false false 1 6 2, .vunpack 10 12 false 1 14 2, .vbfly 0 false 0 5 4 31, .vcmul 10 5 false 1 7 1 2, .vldl 3 false 0 1 ⟨false, 2⟩ ⟨false, 0⟩ 0, .vldl 0 false 0 1 ⟨false, 2⟩ ⟨false, 4⟩ 0, .vgath 0 false 1 4 ⟨false, 2⟩ 7 0] : List Instr).all (fun i => i.wf &&
      (laneRule few i).any (fun x => (few.core 0).clearB x.req && (few.core 0).loadB x.touch && (x.raised &&&
      (few.core 0).flagEnables == 0))) = true := by
  decide +kernel

/-- Lane 1 of v1 is a signalling NaN, and the invalid flag traps. -/
def vTrap : State := small (fun c => { c.withG [(80, 0x7F80000100000000), (320, 0x300000003)] with sp := { c.sp with fcsr := 0x1F00 } })

/-- claimMaskResult, claimReductionResult (both its cases), claimVectorTrapWritesNothing. -/
theorem witness_masks :
    ([.vclt 2 false 1 3 1 6, .vflt 10 false 1 3 1 6, .mand true 0 7 1 2, .mpop 0 3 1] : List Instr).all (fun i => i.wf &&
      (maskRule few i).any (fun x => (few.core 0).clearB x.req && (x.raised &&& (few.core 0).flagEnables == 0))) = true ∧
    ([.vredadd 10 0 1 ⟨false, 9⟩ 1, .vredmax 11 1 ⟨false, 9⟩ 1, .vredaddi 7 1 ⟨false, 9⟩ 1, .vext 0 ⟨false, 9⟩ 4 31] : List Instr).all (fun i => i.wf &&
      (reduceRule few i).any (fun x => (few.core 0).clearB x.req && (x.res.flags &&& (few.core 0).flagEnables == 0))) = true ∧
    (reduceRule vTrap (.vredadd 10 0 1 ⟨false, 9⟩ 1)).any (fun x => (vTrap.core 0).clearB x.req && (x.res.flags &&&
      (vTrap.core 0).flagEnables != 0)) = true ∧
    (laneRule vTrap (.vfsqrt 10 0 false 1 2 1)).any (fun x => (vTrap.core 0).clearB x.req && x.elems.contains 1 && (x.flags 1 &&&
      (vTrap.core 0).flagEnables != 0) && (x.flags 0 &&& (vTrap.core 0).flagEnables == 0)) = true ∧
    (maskRule vTrap (.vflt 10 false 1 3 1 1)).any (fun x => (vTrap.core 0).clearB x.req && x.elems.contains 1 && (x.flags 1 &&&
      (vTrap.core 0).flagEnables != 0) && (x.flags 0 &&& (vTrap.core 0).flagEnables == 0)) = true := by
  decide +kernel

/-- claimPackResult: no flag, and a flag that traps at element 1. -/
theorem witness_pack :
    (Instr.vpack 12 10 0 true false 0 6 2 3).wf = true ∧
    (w0.core 0).clearB { rm := 0, uses := [vr .A 2, vr .B 3, vw .D 6, gov 0] } = true ∧
    raisedBy (fun j => (packConvert 12 10 ((w0.core 0).rmode 0) true ((w0.core 0).lane false (Says.vBase (w0.core 0) .A 2) j)).flags) [0, 1] &&&
      (w0.core 0).flagEnables = 0 ∧
    (vTrap.core 0).govern 0 1 = true ∧
    (packConvert 12 10 ((vTrap.core 0).rmode 0) true ((vTrap.core 0).lane false (Says.vBase (vTrap.core 0) .A 1) 1)).flags &&&
      (vTrap.core 0).flagEnables ≠ 0 ∧
    (packConvert 12 10 ((vTrap.core 0).rmode 0) true ((vTrap.core 0).lane false (Says.vBase (vTrap.core 0) .A 1) 0)).flags &&&
      (vTrap.core 0).flagEnables = 0 := by
  decide +kernel

/-- claimVectorStoreResult and claimVectorAccessFault: unit, strided and scattered stores; a load whose position 31 lies beyond the end. -/
theorem witness_vector_stores :
    ([.vstl 0 0 2 ⟨false, 2⟩ ⟨false, 0⟩ 128, .vstl 3 0 2 ⟨false, 2⟩ ⟨false, 2⟩ 0, .vscat 0 0 4 ⟨false, 2⟩ 7 (-4)] : List Instr).all (fun i => i.wf &&
      (storeForm (w0.core 0) i).any (fun f => (w0.core 0).clearB { uses := f.2.2.2.2 } &&
      (w0.core 0).loadB ((Says.actives ((w0.core 0).govern 0) 2).map (fun e => (f.2.2.2.1 e, elemBytes f.1))))) = true ∧
    (laneRule w0 (.vldl 0 false 0 1 ⟨false, 3⟩ ⟨false, 0⟩ 229188)).any (fun x => (w0.core 0).clearB x.req &&
      (Says.actives ((w0.core 0).govern 0) 32).contains 31 && (localCheck (w0.core 0).xbAddr (Says.vAddr (w0.core 0) 0 ⟨false, 3⟩ ⟨false, 0⟩ 229188 31) 4).isSome &&
      (List.range 31).all (fun e => (localCheck (w0.core 0).xbAddr (Says.vAddr (w0.core 0) 0 ⟨false, 3⟩ ⟨false, 0⟩ 229188 e) 4).isNone)) = true ∧
    (w0.core 0).flips = [] := by
  decide +kernel

/-- claimCompareBranchResult and claimJumpResult: each condition holding and not. -/
theorem witness_branches :
    (w0.core 0).clearB { ctl := true, uses := [rd .A (fix 4), rd .B (fix 5)] } = true ∧
    ((w0.core 0).rg .A (fix 4)).toNat ≠ ((w0.core 0).rg .B (fix 5)).toNat ∧
    ((w0.core 0).rg .A (fix 6)).toInt < ((w0.core 0).rg .B (fix 5)).toInt ∧
    ((w0.core 0).rg .B (fix 5)).toNat ≤ ((w0.core 0).rg .A (fix 6)).toNat ∧
    (jumpRule (w0.core 0) (.jlr 1)).isSome = true ∧
    (w0.core 0).clearB { ctl := true, uses := [rd .A (fix 1)] } = true ∧
    (w0.core 0).rep = none := by
  decide +kernel

/-- A core in U mode in the delay slot of a taken branch; one in its own trap workspace. -/
def slotted : Core := { Core.reset 0 with ds := .taken 64, sp := { (Core.reset 0).sp with psw := 4, ovl := 0x101 } }
def doubled : Core := { Core.reset 0 with sp := { (Core.reset 0).sp with wp := 0x3E000 } }

/-- ControlInDelaySlotTraps, claimTrapEntry (its three delay slots, to S mode and to M mode, overlay), DoubleTrapStopsTheCore. -/
theorem witness_traps :
    ([.beq 1 2 3, .j 4, .eret, .endT, .yieldT, .rep true ⟨false, 1⟩ 0 0 0 0 0 0] : List Instr).all (fun i => (controlForm i).isSome) = true ∧
    slotted.ds ≠ .none ∧
    slotted.formed = false ∧
    slotted.sp.wp ≠ slotted.sp.twp ∧
    slotted.held.length < 3 ∧
    (slotted.sp.psw.getLsbD 6 && consumes cOVERLAY) = false ∧
    slotted.mode = 0 ∧
    (State.reset.die 0).deleg.getLsbD (cOVERLAY / 32) = false ∧
    cSYSCALL ≠ cOVERLAY ∧
    (Core.reset 0).mode = 3 ∧
    doubled.sp.wp = doubled.sp.twp ∧
    doubled.formed = false := by
  decide +kernel

/-- A handler in a mode, with what s.epsw holds. -/
def handler (mode epsw : Nat) : Core :=
  { Core.reset 0 with
    held := [⟨[⟨0, 1, 0, 0, 2⟩], none⟩]
    sp := { (Core.reset 0).sp with psw := BitVec.ofNat 64 mode, epsw := BitVec.ofNat 64 epsw, wp := 0x3E000, ewp := 0x3F000, epc := 0x100, ebr := 0x200 } }

/-- claimEretReturns (with and without DS, with a held repetition) and claimEretRefuses (its three causes). -/
theorem witness_eret :
    (handler 1 0xC).ds = .none ∧
    1 ≤ (handler 1 0xC).mode ∧
    (handler 1 0xC).sp.epsw.toNat % 4 ≤ (handler 1 0xC).mode ∧
    workspaceOk (handler 1 0xC).sp.ewp.toNat (handler 1 0xC).sp.twp.toNat (handler 1 0xC).sp.wsz.toNat (handler 1 0xC).sp.xb.toNat = true ∧
    (handler 1 0xC).sp.epsw.getLsbD 3 = true ∧
    (handler 1 4).sp.epsw.getLsbD 3 = false ∧
    ((handler 1 4).held.headD ⟨[], none⟩).rep = none ∧
    (handler 0 0).mode = 0 ∧
    (handler 1 3).mode < (handler 1 3).sp.epsw.toNat % 4 ∧
    workspaceOk 0 (handler 1 0).sp.twp.toNat (handler 1 0).sp.wsz.toNat (handler 1 0).sp.xb.toNat = false := by
  decide +kernel

/-- claimLocalLoadResult, claimLocalStoreResult, claimLocalAccessChecks (each check at its edge), claimLocalAccessWaits. -/
theorem witness_local_accesses :
    (localLoadRule (.ldlW 7 2 0)).isSome = true ∧
    (localStoreRule (.stlD 4 2 8)).isSome = true ∧
    (w0.core 0).clearB { uses := [rd .A (fix 2), wr .D (fix 7)] } = true ∧
    (w0.core 0).clearB { uses := [rd .A (fix 2), rd .D (fix 4)] } = true ∧
    boundB (w0.core 0) (localAddr (w0.core 0) 2 8) 8 = true ∧
    tabGet? (w0.core 0).flips ((localAddr (w0.core 0) 2 8).toNat / 8) = none ∧
    (w0.core 0).localBusy (localAddr (w0.core 0) 2 8) 8 = false ∧
    localAddr (w0.core 0) 0 (-1) < 0 ∧
    (0 ≤ localAddr (w0.core 0) 2 2047 ∧ localAddr (w0.core 0) 2 2047 + 2 ≤ 262144 ∧ localAddr (w0.core 0) 2 2047 % 2 ≠ 0) ∧
    (0 ≤ localAddr (w0.core 0) 0 2040 ∧ localAddr (w0.core 0) 0 2040 % 8 = 0 ∧ localAddr (w0.core 0) 0 2040 < (w0.core 0).sp.xb.toNat) ∧
    ({ (w0.core 0) with ordPend := [(0x8000, false)] } : Core).localBusy (localAddr (w0.core 0) 2 15) 1 = true ∧
    ({ (w0.core 0) with ordPend := [(0x8000, false)] } : Core).localBusy (localAddr (w0.core 0) 2 16) 1 = false := by
  decide +kernel

/-- claimSpecialRead, claimSpecialWrite, claimSpecialWriteRefused: a number of each mode; writes that keep and break the workspace and the modes. -/
theorem witness_special :
    (((0x006, 1, (w0.core 0).sp.epsw) : BitVec 12 × Nat × DWord) ∈ specialRule w0 ∧
     (w0.core 0).clearB { mode := 1, uses := [wr .D (fix 9)] } = true ∧
     slotted.mode < 1 ∧
     (w0.core 0).clearB { mode := 1, uses := [rd .A (fix 4)] } = true ∧
     writeRule.map (fun p => p.1) = [0, 1, 2, 3, 5, 6, 7, 8, 9, 10, 11, 12, 13, 14, 16, 32, 51]) ∧
    keepsWorkspace (w0.core 0).sp 0x000 (written 0x000 0x3FFC0 0x3C000 (w0.core 0).sp.wp) ∧
    ¬ keepsWorkspace (w0.core 0).sp 0x001 (written 0x001 0x7FF 2047 (w0.core 0).sp.wsz) ∧
    ¬ keepsWorkspace (w0.core 0).sp 0x000 (written 0x000 0x3FFC0 0x3FFC0 (w0.core 0).sp.wp) ∧
    (((written 5 7 1 (w0.core 0).sp.psw).toNat % 4 ≠ 2 ∧ (written 5 7 1 (w0.core 0).sp.psw).toNat % 4 ≠ 3) ∧
     (written 5 7 2 (w0.core 0).sp.psw).toNat % 4 = 2 ∧
     (written 6 0xF 3 0).toNat % 4 = 3 ∧
     (handler 1 3).mode = 1) := 
  ⟨by and_intros <;> decide +kernel,
   by unfold keepsWorkspace; decide +kernel,
   by unfold keepsWorkspace; decide +kernel,
   by unfold keepsWorkspace; decide +kernel,
   by and_intros <;> decide +kernel⟩

/-- A module with three pages in the TLB of core 0 (type C, W and device registers, at their own numbers), key slot 1 in use, and the
descriptor of virtual device 0 at 0x40000, with every channel allotted and queues of 16 entries; registers, bytes under key slot 1,
and what else a witness needs.
The first 32 sectors of the page of type C are held for writing in the core's cluster. -/
def desc0 : List Nat :=
  [1, 0, 2 ^ 64 - 1, 2 ^ 64 - 1, 255, 0, 0, 0, 0x50004, 0, 0x51004, 0, 0x52004, 0, 0x53004, 0]
def world (rs : List (Nat × Nat)) (ms : List (Nat × Nat × Nat)) (f : Core → Core) : State :=
  let s : State := { State.reset with
    cores := [(0, f { (Core.reset 0).withG rs with tlb := [⟨0x10000, 16, 0x10181⟩, ⟨0x20000, 16, 0x20183⟩, ⟨0x30000, 16, 0x10000000085⟩] })]
    vds := [(0, { VDev.reset with enabled := true, desc := desc0 })]
    hub := { State.reset.hub with keySlots := [(1, 1)], vdt := 0x40000 } }
  let s := ms.foldl (fun s m => s.writePa 1 m.1 m.2.1 m.2.2) s
  (List.range 32).foldl (fun s k => s.putSector (1024 + k)
    { s.sector (1024 + k) with home := 0, homeOwner := false, held := [⟨agentL1 0 (64 * (1024 + k)), 1024, true, true⟩] }) s
/-- Owner 1 of virtual device 0 with a table of one entry, all rights everywhere, room for 8 and a quarantine of 5 us. -/
def owned (s : State) : State :=
  ((s.putDie 0 { Die.reset with ownBase := 0x60000, ownLim := 16 }).writeOwn64s 0x60010 [0x61001, 0x0001000500080001]).writeOwn64s 0x61000
    [0, 0, 0x3F, 0]
def wg : State := world [(2, 0x10000), (3, 0x20008), (4, 0x30000), (5, 7)] [(0x10000, 8, 5), (0x10008, 8, 0x55)] id
def wgWait : State := { wg with sectors := [(1024, { wg.sector 1024 with resetting := true })] }

/-- claimGlobalLoadResult, claimGlobalStoreResult, claimAtomicResult, claimGlobalAccessRefusals, claimGlobalAccessOutcomes: an access that performs, each refusal, a trap, a device register and a wait. -/
theorem witness_global :
    (wg.core 0).clearB { uses := [rd .A (fix 2), wr .D (fix 9)] } = true ∧
    reachB (wg.core 0) = true ∧
    (match wg.begun.access (wg.begun.coreAccess 0 (globalAddr (wg.core 0) 2 8).toNat 8 .load) with | .ok _ v => v == 0x55 | _ => false) = true ∧
    (match wg.begun.access (wg.begun.coreAccess 0 (globalAddr (wg.core 0) 3 0).toNat 8 (.store 7)) with | .ok _ _ => true | _ => false) = true ∧
    (atomicRule (wg.core 0) (.faddb ⟨false, 9⟩ ⟨false, 2⟩ ⟨false, 5⟩ ⟨false, 5⟩ ⟨false, 10⟩)).any (fun x => (wg.core 0).clearB { uses := x.uses } && (match wg.begun.access (wg.begun.coreAccess 0 ((wg.core 0).rg .A x.base).toNat x.n x.op) with | .ok _ v => v == 5 | _ => false)) = true ∧
    ((compute (wg.core 0)).sp.psw.getLsbD 4 = true ∧ (compute (wg.core 0)).sp.psw.getLsbD 5 = false) ∧
    (compute (wg.core 0)).clearB { uses := [rd .A (fix 2), wr .D (fix 9)] } = true ∧
    ({ (wg.core 0).sp with psw := 0x43 } : Sprs).psw.getLsbD 6 = true ∧
    (globalAddr (wg.core 0) 2 1).toNat % 8 ≠ 0 ∧
    (match wg.begun.access (wg.begun.coreAccess 0 0x60000 8 .load) with | .trap _ e => e.cause == cNOT_PRESENT | _ => false) = true ∧
    (match wg.begun.access (wg.begun.coreAccess 0 (globalAddr (wg.core 0) 4 0).toNat 8 .load) with | .device _ pa => pa == 2 ^ 40 | _ => false) = true ∧
    (match wg.begun.access (wg.begun.coreAccess 0 (globalAddr (wg.core 0) 4 0).toNat 8 (.store 7)) with | .device _ pa => pa == 2 ^ 40 | _ => false) = true ∧
    (match wgWait.begun.access (wgWait.begun.coreAccess 0 (globalAddr (wgWait.core 0) 2 8).toNat 8 .load) with | .wait _ => true | _ => false) = true := by
  decide +kernel

/-- AtomicOperation and KeyedMemoryReadAfterWrite at the edges of their ranges. -/
theorem witness_memory_words :
    (0 : Nat) < 2 ^ (8 * 4) ∧
    (2 ^ 64 - 1 : Nat) < 2 ^ (8 * 8) ∧
    wg.mem.wf = true ∧
    (1 : Nat) ≠ 0xFF ∧
    (0x1003F : Nat) / 64 = (0x1003F + 1 - 1) / 64 ∧
    (0x10000 : Nat) / 64 = (0x10000 + 64 - 1) / 64 ∧
    ((0x10001 : Nat) / 64 = 0x1003F / 64 ∧ 0x10001 < 0x1003F) ∧
    (0x10040 : Nat) / 64 ≠ 0x1003F / 64 := by
  decide +kernel

/-- A core of a former stitch of slots 0 and 1. -/
def former (w : Wait) : Core := { Core.reset 3 with wait := w }
def pair (c : Nat → Core) : State := { State.reset with cores := [(0, c 0), (1, c 1)], cyc := [(0, 100)] }
def stitchers (mask : Nat) : State := pair (fun k => { (Core.reset (BitVec.ofNat 64 (mask + 256 * k))).withG [(5, 3)] with wait := .stitch 3 10 0 })

/-- claimThreadNumbers. -/
theorem witness_thread_numbers :
    (Core.reset 0).clearB { uses := [wr .D ⟨false, 4⟩] } = true ∧
    (Core.reset 0).stMask = 0 ∧
    ((former (.align 0 0)).stMask ≠ 0 ∧ (former (.align 0 0)).formed = false ∧ (former (.align 0 0)).wait = .align 0 0) ∧
    (0 : Nat) ≤ (small (fun _ => former (.align 0 0))).cycOf 0 - 0 ∧
    (maskSites 0 3).all (fun t => t == 0 || !((small (fun _ => former (.align 0 0))).begun.core t).alignsAt (former (.align 0 0)).pc) = true ∧
    ((small (fun _ => former (.align 0 0))).begun.gathered 0).length < 2 ∧
    ({ Core.reset 0 with preempt := true } : Core).preempt = true ∧
    (Core.reset 0).preempt = false ∧
    ({ Core.reset 0 with preempt := true, wait := .wfi } : Core).run = .running := by
  decide +kernel

/-- claimStitchForms (each clause), claimUnstitching, claimStitchGathers. -/
theorem witness_stitching :
    (w0.core 0).clearB { uses := [rd .A ⟨false, 7⟩, wr .D ⟨false, 4⟩] } = true ∧
    (w0.core 0).wait = .none ∧
    w0.begun.maskValid 0 ((w0.core 0).rg .A ⟨false, 5⟩) = true ∧
    w0.begun.maskValid 0 ((w0.core 0).rg .A ⟨false, 6⟩) = false ∧
    ((stitchers 3).core 0).wait = .stitch 3 10 0 ∧
    10 < (stitchers 3).cycOf (stitchers 3).cur - 0 ∧
    (stitchers 3).works 0 = true ∧
    ((stitchers 3).core 0).run = .running ∧
    10 ≤ (stitchers 3).cycOf 0 - 0 ∧
    (maskSites 0 3).all (fun t => ((stitchers 3).core t).run == .running && ((stitchers 3).core t).pc == ((stitchers 3).core 0).pc &&
      ((stitchers 3).core t).wait == .stitch 3 10 0) = true ∧
    (Core.reset 0).formed = false ∧
    (Core.reset (stchWord true 3 0 0)).formed = true ∧
    (Core.reset (stchWord true 3 0 0)).stLead = siteSlot 0 ∧
    (Core.reset (stchWord true 3 0 1)).stLead ≠ siteSlot 1 ∧
    ((maskSites 0 3).head? = some 0 ∧ 2 ≤ (maskSites 0 3).length) ∧
    ((pair (fun k => { Core.reset (BitVec.ofNat 64 (3 + 256 * k)) with wait := .align 5 0 })).core 0).stMask = 3 ∧
    (maskSites 0 3).all (fun x => let s := pair (fun k => { Core.reset (BitVec.ofNat 64 (3 + 256 * k)) with wait := .align 5 0 }); s.works x &&
      (s.core x).run == .running && (s.core x).pc == (s.core 0).pc && (s.core x).stMask == 3 && !(s.core x).formed &&
      (s.core x).wait == .align 5 0) = true := by
  decide +kernel

def ws : State := world [(2, 0x10000), (3, 0x10040)] [(0x10000, 8, 0x800000400), (0x10008, 8, 0x10100)] id

/-- claimSpawnResult: a queue with room and one without. -/
theorem witness_spawn :
    (ws.core 0).clearB { uses := [rd .A ⟨false, 2⟩, rd .B ⟨false, 3⟩, wr .D ⟨false, 4⟩] } = true ∧
    reachB (ws.core 0) = true ∧
    (((ws.core 0).rg .B ⟨false, 3⟩).toNat < 2 ^ 52 ∧ ((ws.core 0).rg .B ⟨false, 3⟩).toNat % 64 = 0) ∧
    (ws.begun.objLoad (ws.begun.agent 0) 0x10000 32).sat (fun s1 k => s1.contValid 3 (k % 2 ^ 64) (k / 2 ^ 64 % 2 ^ 64) &&
      (s1.objHold (ws.begun.agent 0) 0x10040 8).sat (fun s3 w => recState w == 0 && !s3.qFull 0 0 &&
      (s3.objStores (ws.begun.agent 0) 0x10048 [k % 2 ^ 64, k / 2 ^ 64 % 2 ^ 64, k / 2 ^ 128 % 2 ^ 64, k / 2 ^ 192, 0, 0, 0]).sat (fun s4 _ => (s4.objStore (ws.begun.agent 0) 0x10040 8 (2 ^ 16 + 1)).sat (fun _ _ => true)))) = true ∧
    ({ ws with vds := [] } : State).qFull 0 0 = true := by
  decide +kernel

/-- A thread with its record at 0x10040 and an empty workspace frame at 0x10100. -/
def wy : State := owned <| world [] [(0x10040, 8, 2 ^ 17 + 2 ^ 20 + 1)] (fun c => { c with
  sp := { c.sp with thr := 0x0001000000001004, psw := 3 }, cont := ⟨0x800000400, 0x10100, 0, 0⟩, frameAt := 0x3F000 })

/-- claimYieldResult, claimSuspensionRecord, claimEndRetires: a thread that suspends, one that may not, and each way in which end goes on. -/
theorem witness_yield_end :
    (wy.core 0).ds = .none ∧
    wy.begun.maySuspend 0 (wy.core 0).tickShadows.shadows.isEmpty = true ∧
    wy.begun.qFull (wy.core 0).vdev 0 = false ∧
    (wy.core 0).ordPend = [] ∧
    (wy.begun.suspend 0 0 0 12).sat (fun _ _ => true) = true ∧
    w0.begun.maySuspend 0 (w0.core 0).tickShadows.shadows.isEmpty = false ∧
    (wy.core 0).seamMode = false ∧
    (wy.core 0).wait = .none ∧
    (wy.core 0).commanding = false ∧
    (wy.core 0).tickShadows.endFault = none ∧
    ({ Core.reset 0 with ordPend := [(0x8000, false)] } : Core).ordPend.any (fun p => !p.2) = true ∧
    ({ Core.reset 0 with mx := { MxQueue.reset with cmds := [MxCmd.mk 0 3 [] [] 0 0 0 0 0 0 0 0 .held [] false false false 0] } } : Core).commanding = true ∧
    (({ Core.reset 0 with eng0 := { Engine.reset with fault := some ⟨cNOT_PRESENT, 0, false⟩ } } : Core).endFault).isSome = true ∧
    (((({ wy with chans := [(5, { Channel.reset with members := [0] })] } : State).unstitch 0).boundChans 0).map chanNumber).min? = some 5 ∧
    (wy.begun.unstitch 0).boundChans 0 = [] ∧
    (wy.begun.unstitch 0).drained 0 = true ∧
    (match (wy.begun.unstitch 0).retireThread 0 with | .done _ => true | _ => false) = true := by
  decide +kernel

def launch0 : Launch := ⟨0, 0, 0, [], [], 0, false, 0, 0, 3, 0, false, 0, true, true, 0, [0], [0], [], none, 0, 0, 0, none⟩
/-- An idle core of a launch, with one handle in queue 0 whose record is live. -/
def wd : State := { ((owned (world [] [(0x10040, 8, 2 ^ 16 + 2 ^ 20 + 1), (0x10048, 8, 0x800000400), (0x10050, 8, 0x10100)] (fun c => { c with run := .idle, tag := some 0 }))).writeOwn
    0x50000 8 0x0001000000001004).writeOwn 0x4004C 4 1 with holders := [(0, 0)], launches := [(0, launch0)] }

/-- claimDispatchRegisters and claimDispatchTakesTheFirst. -/
theorem witness_dispatch :
    wd.works 0 = true ∧
    ((wd.core 0).tag = some 0 ∧ (wd.core 0).run = .idle ∧ (wd.core 0).halt = none) ∧
    tabGet? wd.holders (siteRegion 0) = some 0 ∧
    (wd.clusterLaunch 0 (sitePkgCluster 0)).isSome = true ∧
    wd.allEntries 0 = [(0, 0, 0x0001000000001004)] ∧
    (wd.objLoad (Agent.device 0 0) (handleRec 0x0001000000001004) 16).sat (fun s1 v => handleLive 0x0001000000001004 (v % 2 ^ 64) && recLix (v % 2 ^ 64) == 0 && s1.hintAdmits (v / 2 ^ 64) 0 && (match s1.dispatchThread 0 0 0x0001000000001004 with | .running _ => true | _ => false)) = true := by
  decide +kernel

def mem0 : Channel := { Channel.reset with members := [0, 1], st := .active, phase := 10, thr := 2 }
def wb (x : Channel) : State := { world [(5, 0x000A0005)] [] id with chans := [(5, x)] }

/-- claimBarrierMembership, claimBarrierArrival (each place of the core in the channel, and the counter at its edge), claimBarrierThreshold. -/
theorem witness_barrier_members :
    (wb mem0).begun.chanCheck 0 5 false = none ∧
    (w0.begun.chanCheck 0 5 false).isSome = true ∧
    ((wb mem0).core 0).clearB { uses := [rd .A ⟨false, 5⟩, wr .D ⟨false, 4⟩] } = true ∧
    (0 ∈ mem0.members ∧ 0 ∉ mem0.joins ∧ 0 ∉ mem0.leaves ∧ 0 ∉ mem0.arr0 ∧ mem0.st ≠ .idle) ∧
    (0 ∉ Channel.reset.members ∧ 0 ∉ Channel.reset.joins ∧ Channel.reset.st = .idle) ∧
    ({ Channel.reset with members := [1], st := .active, joins := [0] } : Channel).joins = [0] ∧
    ({ mem0 with st := .idle } : Channel).st = .idle ∧
    0 ∈ ({ mem0 with leaves := [0], arr0 := [0] } : Channel).leaves ∧
    (2 ^ 27 - 1 : Nat) < 2 ^ 27 ∧
    mem0.cnt0 + (2 ^ 27 - 1 : Nat) < 2 ^ 27 ∧
    (2 ^ 27 : Int) ≤ ({ mem0 with cnt0 := 1 } : Channel).cnt0 + (2 ^ 27 - 1 : Nat) ∧
    (0 ∉ ({ mem0 with arr0 := [0] } : Channel).arr1 ∧ 0 ∈ ({ mem0 with arr0 := [0] } : Channel).arr0) ∧
    0 ∈ ({ mem0 with arr0 := [0], arr1 := [0] } : Channel).arr1 ∧
    ({ mem0 with st := .broken } : Channel).st = .broken ∧
    (1024 < (1025 : DWord).toNat ∧ (1024 : DWord).toNat ≤ 1024) ∧
    (wb mem0).seamGang 5 = none ∧
    ({ mem0 with arr0 := [1] } : Channel).members.all (fun m => m == 0 || [1].contains m) = true ∧
    (∃ m ∈ mem0.members, m ∉ mem0.arr1) ∧
    (mem0.cnt0 = 0 ∧ mem0.joins = [] ∧ mem0.leaves = []) := by
  decide +kernel

def wrel : State := { wb { mem0 with phase := 11 } with cores := [(0, { Core.reset 0 with wait := .barrier 5 10 })], releases := [⟨5, 10, []⟩] }

/-- claimBarrierWaits, claimTokenPhases, claimReleaseEndsWaits. -/
theorem witness_barrier_waits :
    (match (wb mem0).begun.tokenCheck 0 0x000A0005 false with | .ok (k, p) => k == 5 && p == 10 && !behind p ((wb mem0).seenPhase k 0) | .error _ => false) = true ∧
    (match (wb { mem0 with phase := 11 }).begun.tokenCheck 0 0x000A0005 true with | .ok (k, p) => behind p ((wb { mem0 with phase := 11 }).seenPhase k 0) | .error _ => false) = true ∧
    (match (wb mem0).begun.tokenCheck 0 0xA0120 false with | .error _ => true | .ok _ => false) = true ∧
    wrel.works 0 = true ∧
    wrel.seamGang 5 = none ∧
    5 / 32 = siteDie 0 ∧
    wrel.comingRelease 5 0 = some ⟨5, 10, []⟩ ∧
    ((wrel.core 0).run = .running ∧ (wrel.core 0).wait = .barrier 5 10) := by
  decide +kernel

/-- A channel at 0x10000 with a ring of one slot, of a producer and a consumer, with its head and tail; the thread of core 0 has the
handle hMe, its record at 0x10400; hLive is live and hDead is dead. -/
def hMe : Nat := 0x0001000000001040
def hLive : Nat := 0x0001000000001044
def hDead : Nat := 0x0001000000001048
def wc (producer consumer head tail : Nat) : State :=
  world [(2, 0x10000), (8, 0x8000)] [(0x10000, 8, producer), (0x10008, 8, consumer), (0x10018, 4, head), (0x10020, 4, tail), (0x10080, 8, 0x77),
    (0x10400, 8, 2 ^ 17 + 1), (0x10440, 8, 2 ^ 17 + 1), (0x10480, 8, 1)] (fun c => { c with sp := { c.sp with thr := BitVec.ofNat 64 hMe } })
/-- The same with an empty ring, bound to a channel. -/
def wbound : State := { wc hLive hMe 0 0 with chans := [(5, mem0)] }
/-- The sequence of a chsend into a ring with room: the channel held, its consumer judged, the slot and the tail written. -/
def sendsWell (s : State) : Bool :=
  (s.begun.objHold (s.begun.agent 0) 0x10000 64).sat (fun s1 v => let x := Chan.ofWord v
    (x.producer == 0 || x.producer == hMe) && x.count != 2 ^ x.k &&
    (s1.deadHandle 0 x.consumer).sat (fun s2 dead => dead || (s2.acc { (s2.agent 0).access (0x10080 + 64 * (x.tail % 2 ^ x.k)) 64 .load [rW] with hold := true }).sat
      (fun s3 _ => (s3.holdRecords 0 0 x.named).sat (fun s4 _ => (s4.objStore (s2.agent 0) 0x10080 64 9).sat (fun s5 _ =>
        (s5.objStore (s2.agent 0) 0x10020 4 (x.tail + 1)).sat (fun s6 _ => (s6.wakeNamed (s2.agent 0) 0x10000 x).sat (fun _ _ => true)))))))

/-- claimChannelInitialised, claimSendResult, claimReceiveResult, claimBlockingRecordsTheWaiter: a ring with room, one with a message, an empty one, the wrong thread, a dead peer. -/
theorem witness_channels :
    ((wc 0 0 0 0).core 0 |>.clearB { uses := [rd .A ⟨false, 2⟩, rd .B ⟨false, 8⟩, rd .C ⟨false, 4⟩, wr .D ⟨false, 4⟩] }) ∧
    reachB ((wc 0 0 0 0).core 0) = true ∧
    (((wc 0 0 0 0).core 0).rg .A ⟨false, 2⟩).toNat % 128 = 0 ∧
    ((wc 0 0 0 0).begun.objCheck (((wc 0 0 0 0).begun.agent 0).access 0x10000 64 (.store 0) [rW])).sat (fun s2 _ => (s2.objCheck (((wc 0 0 0 0).begun.agent 0).access 0x10040 64 (.store 0) [rW])).sat (fun s3 _ => (s3.objStores ((wc 0 0 0 0).begun.agent 0) 0x10000 [1, 2, 4, 0, 0, 0, 0, 0, 0, 0, 0, 0, 0, 0, 0, 0]).sat (fun _ _ => true))) = true ∧
    boundB ((wc 0 0 0 0).core 0) 0x8000 64 = true ∧
    ((wc 0 0 0 0).core 0).flips = [] ∧
    ((wc 0 0 0 0).core 0).localBusy 0x8000 64 = false ∧
    (wc 0 0 0 0).begun.markedAt 0 0x10000 = false ∧
    sendsWell (wc hMe hDead 0 0) = true ∧
    sendsWell (wc 0 hLive 0 0) = true ∧
    ((wc hDead hMe 0 0).begun.objHold ((wc hDead hMe 0 0).begun.agent 0) 0x10000 64).sat (fun _ v => (Chan.ofWord v).producer != 0 &&
      (Chan.ofWord v).producer != hMe) = true ∧
    ((wc 0 hDead 0 0).begun.deadHandle 0 hDead).sat (fun _ d => d) = true ∧
    ((wc 0 hLive 0 0).begun.deadHandle 0 hLive).sat (fun _ d => !d) = true ∧
    ((wc hLive hMe 0 1).begun.objLoad ((wc hLive hMe 0 1).begun.agent 0) (0x10000 + 128) 64).sat (fun s2 msg => msg == 0x77 &&
      (s2.holdRecords 0 0 []).sat (fun s3 _ => (s3.objStore ((wc hLive hMe 0 1).begun.agent 0) 0x10018 4 1).sat (fun s4 _ => (s4.wakeNamed ((wc hLive hMe 0 1).begun.agent 0) 0x10000 (Chan.ofWord 0)).sat (fun _ _ => true)))) = true ∧
    (Chan.ofWord ((wc hLive hMe 0 1).readPa 1 0x10000 64)).count = 1 ∧
    (Chan.ofWord ((wc hLive hMe 0 0).readPa 1 0x10000 64)).count = 0 ∧
    ((wc hLive hMe 0 0).core 0).sp.thr ≠ 0 ∧
    (wbound.begun.objHold (wbound.begun.agent 0) 0x10000 64).sat (fun s1 _ => (s1.deadHandle 0 hLive).sat (fun s2 dead => !dead &&
      (s2.core 0).sp.thr == BitVec.ofNat 64 hMe && (s2.objCheck ((s2.agent 0).access 0x10028 8 (.store 0) [rW])).sat (fun s3 _ => (s3.objStore (s2.agent 0) 0x10028 8 hMe).sat (fun s4 _ => (s4.core 0).sp.thr == BitVec.ofNat 64 hMe &&
      !s4.waitsAt 0 0x10000 && !s4.maySuspend 0 (wbound.core 0).shadows.isEmpty)))) = true ∧
    (Chan.ofWord ((wc hLive hMe 0 0).readPa 1 0x10000 64)).blocked = 0 := by
  decide +kernel

def wsig (n : Nat) : State := world [(2, 0x10000), (5, 2)] [(0x10000, 8, n)] id
/-- A thread of handle hLive that waits on the signal at 0x10000, whose count is 2: in place on core 0, or suspended. -/
def wHere : Waiter := ⟨hLive, some 0, 0x10000, 3, 0, 0, false, false⟩
def wfire (site : Option Nat) : State :=
  { world [(2, 0x10000), (5, 2)] [(0x10000, 8, 2), (0x10440, 8, 3 * 2 ^ 16 + 1)] (fun c => { c with sp := { c.sp with thr := BitVec.ofNat 64 hLive }, wait := .object 0x10000 }) with
    waiters := [{ wHere with site := site }] }
def wblock : State := { wfire none with waiters := [], cores := [(0, { (wfire none).core 0 with wait := .none })], chans := [(5, mem0)] }
/-- The accesses of a decrement by 2 that fires, and what holds after them. -/
def fires (s : State) (p : State → Bool) : Bool :=
  (s.acc { (s.agent 0).access 0x10000 8 .load [rA] with hold := true }).sat (fun s2 old => old == 2 &&
    (s2.acc ((s.agent 0).access 0x10008 8 .load [rA])).sat (fun s3 flags => !flags.testBit 0 && s3.waitersOn 0x10000 3 == [hLive] &&
      (s3.acc ((s.agent 0).access 0x10000 8 (.store 0) [rA])).sat (fun s4 _ =>
        (s4.acc ((s.agent 0).access 0x10008 8 (.store (flags ||| 2)) [rA])).sat (fun s5 _ => p s5))))
def wpr (o : Nat) : State := { State.reset with probes := [(0, ⟨5, 7, 5⟩)], waiters := if o = 5 then [⟨7, none, 0x10000, 2, 9, 0, false, false⟩] else [] }

/-- claimSignalResult, claimSignalFires, claimProbeMoves. -/
theorem witness_signals :
    ((wsig 0).core 0).clearB { uses := [rd .A ⟨false, 2⟩, rd .B ⟨false, 5⟩, wr .D ⟨false, 4⟩] } = true ∧
    ((wsig 0).core 0).computePhase = false ∧
    ((wsig 0).begun.objLoad ((wsig 0).begun.agent 0) 0x10000 8).sat (fun _ v => decide ((BitVec.ofNat 64 v).toInt ≤ 0)) = true ∧
    ((wsig 9).begun.objLoad ((wsig 9).begun.agent 0) 0x10000 8).sat (fun _ v => decide (0 < (BitVec.ofNat 64 v).toInt)) = true ∧
    ((wsig 9).begun.sigdec ((wsig 9).begun.agent 0) 0x10000 2).sat (fun _ x => x == 7) = true ∧
    ((wsig 9).begun.acc { ((wsig 9).begun.agent 0).access 0x10000 8 .load [rA] with hold := true }).sat (fun s2 old => old == 9 &&
      (s2.acc (((wsig 9).begun.agent 0).access 0x10008 8 .load [rA])).sat (fun s3 _ => (s3.heldBackOn 0x10000 3).isEmpty &&
      (s3.acc (((wsig 9).begun.agent 0).access 0x10000 8 (.store 7) [rA])).sat (fun _ _ => true))) = true ∧
    ((wsig 2).acc { ((wsig 2).agent 0).access 0x10000 8 .load [rA] with hold := true }).sat (fun s2 old => old == 2 &&
      (s2.acc (((wsig 2).agent 0).access 0x10008 8 .load [rA])).sat (fun s3 flags => !flags.testBit 0 &&
      (s3.waitersOn 0x10000 3).isEmpty && (s3.acc (((wsig 2).agent 0).access 0x10000 8 (.store 0) [rA])).sat (fun s4 _ => (s4.acc (((wsig 2).agent 0).access 0x10008 8 (.store (flags ||| 2)) [rA])).sat (fun _ _ => true)))) = true ∧
    (tabGet? (wpr 5).probes 0 = some ⟨5, 7, 5⟩ ∧ (7 : Nat) ≠ 5) ∧
    (wpr 9).waiterOf 7 = none ∧
    (wblock.begun.objLoad (wblock.begun.agent 0) 0x10000 8).sat (fun s1 v => decide (0 < (BitVec.ofNat 64 v).toInt) &&
      (s1.core 0).sp.thr == (wblock.core 0).sp.thr && !s1.waitsAt 0 0x10000 && !s1.maySuspend 0 (wblock.core 0).shadows.isEmpty) = true ∧
    ((wblock.core 0).sp.thr ≠ 0 ∧ (wblock.core 0).computePhase = false) ∧
    (wblock.core 0).clearB { uses := [rd .A ⟨false, 2⟩, wr .D ⟨false, 4⟩] } = true ∧
    (fires (wfire (some 0)) fun s5 => (s5.waiterOf hLive) == some { wHere with object := 0x10000 } &&
      (s5.core 0).wait == .object 0x10000) = true ∧
    ((wfire (some 0)).waiterOf hLive = some wHere ∧ (wfire (some 0)).waitersOn 0x10000 3 = [hLive]) ∧
    ((wfire (some 0)).sigdec ((wfire (some 0)).agent 0) 0x10000 2).sat (fun u x => x == 0 && (u.core 0).wait == .none &&
      u.waiters.isEmpty) = true ∧
    ((wfire none).acc { ((wfire none).agent 0).access 0x10000 8 .load [rA] with hold := true }).sat (fun s2 old => old == 2 &&
      (s2.acc (((wfire none).agent 0).access 0x10008 8 .load [rA])).sat (fun s3 flags => !flags.testBit 0 &&
      s3.waitersOn 0x10000 3 == [hLive] && s3.waiterOf hLive == some { wHere with site := none } &&
      (s3.objHold (Agent.device 0 0) (handleRec hLive) 16).sat (fun s4 _ => (s4.acc (((wfire none).agent 0).access 0x10000 8 (.store 0) [rA])).sat (fun s5 _ => (s5.acc (((wfire none).agent 0).access 0x10008 8 (.store (flags ||| 2)) [rA])).sat (fun s6 _ => s6.waiterOf hLive == some { wHere with site := none } &&
      (s6.objHold (Agent.device 0 0) (handleRec hLive) 16).sat (fun s7 v => handleLive hLive (v % 2 ^ 64) &&
      recState (v % 2 ^ 64) == 3 && !s7.qFull 0 (contPri (v / 2 ^ 64) % 4) &&
      (s7.objStore (Agent.device 0 0) (handleRec hLive) 8 (recWith (v % 2 ^ 64) 1)).sat (fun _ _ => true)))))))  = true ∧
    ((wfire none).sigdec ((wfire none).agent 0) 0x10000 2).sat (fun u x => x == 0 && u.waiters.isEmpty && !(u.allEntries 0).isEmpty) = true ∧
    (wpr 5).waiterOf 7 = some ⟨7, none, 0x10000, 2, 9, 0, false, false⟩ := by
  decide +kernel

def gang0 : Gang := ⟨[0, 1], 7, false, 0, 1, 0, 0, [], 0, 0, 0, false, false, false, [0]⟩
def wgang : State := { State.reset with cores := [(0, compute (Core.reset 0)), (1, compute (Core.reset 256))], chans := [(7, { Channel.reset with members := [0, 1], st := .active, thr := 2 })], gangs := [(0, gang0)] }
def wseam : State := { wgang with
  cores := [(0, { compute (Core.reset 0) with wait := .seam ⟨false, 4⟩ 7 0 }), (1, { compute (Core.reset 256) with wait := .seam ⟨false, 4⟩ 7 0 })]
  chans := [(7, { Channel.reset with members := [0, 1], st := .active, thr := 2, phase := 1 })], releases := [⟨7, 0, []⟩] }
/-- A gang of one core that waits in end for its last seam, which is released. -/
def gang1 : Gang := { gang0 with cores := [0] }
def wlast : State := { wgang with
  cores := [(0, { compute (Core.reset 0) with wait := .final 7 0 })], gangs := [(0, gang1)]
  chans := [(7, { Channel.reset with members := [0], st := .active, thr := 1, phase := 1 })], releases := [⟨7, 0, []⟩] }
/-- A gang that waits at its seam, withheld. -/
def wheld : State := { wseam with
  chans := [(7, { Channel.reset with members := [0, 1], st := .active, thr := 2, arr0 := [0, 1] })], releases := [], gangs := [(0, { gang0 with withheld := true })] }

/-- claimSeamArrives and claimSeamReleases. -/
theorem witness_seams :
    ({ Core.reset 0 with ds := .taken 0 } : Core).ds ≠ .none ∧
    gang0.chan / 32 = siteDie 0 ∧
    gang0.cores.all (fun x => wseam.works x && (wseam.core x).loc.wf && (wseam.core x).run == .running) = true ∧
    (wgang.core 0).clearB { uses := [rd .A ⟨false, 0⟩, wr .D ⟨false, 4⟩] } = true ∧
    (wgang.core 0).wait = .none ∧
    (Core.reset 0).sp.psw.getLsbD 4 = false ∧
    ((wgang.core 0).sp.psw.getLsbD 4 = true ∧ (wgang.core 0).sp.psw.getLsbD 5 = false) ∧
    ({ (wgang.core 0) with exch := ⟨[], [(3, none)], [], [], 0⟩ } : Core).exchReport.isSome = true ∧
    (wgang.core 0).tickShadows.exchReport = none ∧
    wgang.begun.gangOf 0 = some (0, gang0) ∧
    ((wgang.chan 7).st ≠ .broken ∧ 0 ∈ (wgang.chan 7).members ∧ 0 ∉ (wgang.chan 7).arr0 ∧ (wgang.chan 7).cnt0 + (0 : Nat) < 2 ^ 27) ∧
    wseam.works 0 = true ∧
    wseam.gangOf 0 = some (0, gang0) ∧
    (wseam.chan gang0.chan).full = false ∧
    (gang0.cores.filter (fun t => siteDie t == siteDie 0)).Nodup ∧
    wseam.releases.find? (fun r => r.chan == gang0.chan && !r.reached.contains 0) = some ⟨7, 0, []⟩ ∧
    (gang0.cores.filter (fun t => siteDie t == siteDie 0)).all (fun x => (wseam.core x).wait == .seam ⟨false, 4⟩ 7 0) = true ∧
    (wlast.gangOf 0 = some (0, gang1) ∧ (wlast.chan 7).full = false ∧ wlast.releases.find? (fun r => r.chan == gang1.chan &&
      !r.reached.contains 0) = some ⟨7, 0, []⟩) ∧
    ((gang1.cores.filter (fun t => siteDie t == siteDie 0)) = [0] ∧ wlast.works 0 = true ∧ (wlast.core 0).loc.wf = true ∧
      (wlast.core 0).run = .running ∧ (wlast.core 0).wait = .final 7 0 ∧ 0 ∉ (wlast.chan gang1.chan).joins) ∧
    ((wlast.core 0).sp.thr = 0 ∧ wlast.boundChans 0 = [gang1.chan] ∧ wlast.drained 0 = true) ∧
    (match exec (.seamComplete 0) wlast with | .next t => (t.chan 7).left 0 && (t.core 0).run == .idle | _ => false) = true := by
  decide +kernel

def wx : State := { wgang with
  cores := [(0, exchange ((Core.reset 0).withG [(20, 1), (24, 0x8000)])), (1, exchange (Core.reset 256))], cyc := [(0, 16)] }
def xm0 : XMsg := ⟨1, 0, 1, 16, [1, 2, 3, 4, 5, 6, 7, 8], 24⟩
/-- A message of rank 1 on its way to core 0, both cores waiting at xend, and the arms of core 0. -/
def wmsg (arms : List Arm) : State := { wx with
  cores := [(0, { exchange (Core.reset 0) with exch := ⟨arms, [], [], [], 0⟩, wait := .xend }), (1, { exchange (Core.reset 256) with wait := .xend })]
  xmsgs := [(0, xm0)] }
/-- A core that waits in xsend for its cycle, or in xwait. -/
def wxs (cyc : Nat) : State := { wx with cores := [(0, { wx.core 0 with wait := .xsend cyc 1 0x8000 8 }), (1, wx.core 1)] }
def wxw (cyc : Nat) : State := { wx with cores := [(0, { wx.core 0 with wait := .xwait cyc }), (1, wx.core 1)] }
def wback : State := { wgang with
  cores := [(0, compute (Core.reset 0)), (1, { compute (Core.reset 256) with run := .consumed })], snaps := [(0, Core.reset 0), (1, Core.reset 256)], undo := [(0, ⟨0, [⟨3, 5, false⟩]⟩)] }

/-- claimExchangeInstructions, claimExchangeEvents, claimGangEvents. -/
theorem witness_exchange :
    (Core.reset 0).sp.psw.getLsbD 4 = false ∧
    ((wx.core 0).sp.psw.getLsbD 4 = true ∧ (wx.core 0).sp.psw.getLsbD 5 = true) ∧
    (wx.core 0).clearB { uses := [rd .A ⟨false, 20⟩, rd .B ⟨false, 24⟩] } = true ∧
    wx.begun.rankSite 0 ((wx.core 0).rg .A ⟨false, 20⟩) = some 1 ∧
    boundB (wx.core 0) ((wx.core 0).rg .B ⟨false, 24⟩).toInt 8 = true ∧
    (16 : Nat) ∉ (wx.core 0).exch.sent ∧
    wx.begun.xcyc 0 < 17 ∧
    wx.begun.xcyc 0 = 16 ∧
    (wx.core 0).flips = [] ∧
    (wx.core 0).exch.armed < 16 ∧
    (match (({ wx with cores := [(0, { wx.core 0 with wait := .xsend 16 1 0x8000 8 }), (1, wx.core 1)] } : State).begunAt 0).inject 0 16 1 0x8000 8 with | .done _ => true | _ => false) = true ∧
    tabGet? (wmsg [⟨1, 16, 8, 0x8000, false, false⟩]).xmsgs 0 = some xm0 ∧
    (wmsg []).sendBefore 0 xm0.due = false ∧
    (wmsg []).dueBefore 0 xm0.due = false ∧
    ((wxs 16).sendBefore 0 16 = false ∧ (wxs 16).dueBefore 0 16 = false) ∧
    (((wxs 16).core 0).run = .running ∧ ((wxs 16).core 0).wait = .xsend 16 1 0x8000 8 ∧ ((wxs 16).core 0).xbase = 0) ∧
    ({ wxs 16 with xmsgs := [(0, { xm0 with due := 12 })] } : State).dueBefore 0 16 = true ∧
    (match exec (.xsendInject 0) (wxs 16) with | .next t => (t.core 0).wait == .none && t.xmsgs.length == 1 | _ => false) = true ∧
    (wxs 16).sendBefore 0 (0 + 8 + 40) = true ∧
    ((wmsg [⟨1, 16, 8, 0x8000, false, false⟩]).sendBefore 0 (0 + 16 + 40) = false ∧
      ({ wmsg [⟨1, 16, 8, 0x8000, false, false⟩] with xmsgs := [] } : State).dueBefore 0 (0 + 16 + 40) = false) ∧
    ((wxw 8).sendBefore 0 8 = false ∧ (wxw 8).dueBefore 0 8 = false ∧ ((wxw 8).core 0).wait = .xwait 8 ∧ ((wxw 8).core 0).run = .running ∧
      ((wxw 8).core 0).sp.psw.getLsbD 5 = true) ∧
    ((wmsg []).bumpCyc 0 xm0.due).xmsgs.filter (fun p => p.1 != 0 && p.2.dst == xm0.dst && p.2.cyc == xm0.cyc) = [] ∧
    ({ wmsg [] with xmsgs := [(0, xm0), (1, { xm0 with src := 1 })] } : State).xmsgs.length = 2 ∧
    (((wmsg [⟨1, 16, 8, 0x8000, false, false⟩]).bumpCyc 0 xm0.due).core 0).exch.arms.find? (fun x => x.src == xm0.rank && x.cyc == xm0.cyc &&
      x.len == xm0.data.length && !x.filled && !x.passed) = some ⟨1, 16, 8, 0x8000, false, false⟩ ∧
    (tabGet? wback.gangs 0 = some gang0 ∧ gang0.fails = 0 ∧ gang0.cores.Nodup) ∧
    (∃ t ∈ gang0.cores, (wback.core t).run = .consumed) ∧
    ((0 ∈ gang0.cores) ∧ tabGet? wback.snaps (undoKey 0 0) = some (Core.reset 0) ∧ wback.inSuperstep gang0 0 = true ∧
      (wback.core 0).loc.wf = true) ∧
    gang0.cores.all (fun t => decide (t < 4096)) = true ∧
    wback.lostUndo 0 gang0 = none ∧
    (tabGet wback.undo (undoKey 0 0) ⟨0, []⟩).entries.map (fun e => e.gran) = [3] ∧
    wheld.gangs.all (fun p => p.2.withheld && wheld.gangWaits p.2 && p.2.cores.all (fun t => [siteIsland 0].contains (siteIsland t))) = true ∧
    gang0.cores.all (fun t => !wback.released t) = true := by
  decide +kernel

/-- Owners 1 and 2; core 0 in M mode, and in U mode as owner 1. -/
def wown : State := (owned (world [(2, 0x100), (3, 0x200), (4, 2)] [] id)).writeOwn64s 0x60020 [0x62001, 0x0001000500080000]
def wusr : State := wown.onCore 0 (fun c => { c with sp := { c.sp with psw := 0, own := 1 } })
def wround (k : RoundKind) : State := { wown.onCore 0 (fun c => { c with wait := .round 0 }) with rounds := [(0, ⟨k, 0, 0⟩)] }
/-- The same with a command of an engine on a page of the range in hand. -/
def wbusy (k : RoundKind) : State := { wround k with cores := [(0, { (wround k).core 0 with posted := [{ va := 0x10000, pa := 0x10000, n := 8, value := 7, key := 1, ty := 1, moves := 0 }] })] }

/-- RightsSearch, claimRangesTrimmedExactly, claimRightsInstructions (a granter in M mode and one with an owner, a range revoked and one not, each answer of rchk, a shutter and none), claimRoundsComplete. -/
theorem witness_rights :
    ((wown.directory 0 1).count = 1 ∧
     (wown.rangeAt 1 (wown.directory 0 1) 0).lo < (wown.rangeAt 1 (wown.directory 0 1) 0).hi ∧
     (⟨1, 0x100, 0x200, 0, 0⟩ : RangeEntry).overlaps 0x140 0x180 = true ∧
     ((0x140 : Nat) < 0x180 ∧ 0x180 ≤ 2 ^ 64) ∧
     [(⟨1, 0x100, 0x200, 0, 0⟩ : RangeEntry), ⟨1, 0x200, 0x300, 0, 0⟩].Pairwise (fun x y => x.lo ≤ y.lo) ∧
     (wown.core 0).clearB { uses := [rd .A ⟨false, 2⟩, rd .B ⟨false, 3⟩, rd .C ⟨false, 4⟩, wr .D ⟨false, 5⟩] } = true ∧
     reachB (wown.core 0) = true ∧
     (wown.begun.rangeChecks 0 0x100 0x200 (some 2)).sat (fun s0 _ => (s0.claimTable 0 2 1 0x100).sat (fun s2 _ => (s2.directory 0 2).capacity == 8)) = true ∧
     (wown.core 0).mode = 3 ∧
     ((wown.rangeTable 0 2).filter (fun e => !(e.retired && decide (e.qend.toNat ≤ wown.time) &&
      e.overlaps 0x100 0x200))).length ≠ (wown.directory 0 2).capacity ∧
     wown.rangeTable 0 2 = [] ∧
     ((wusr.core 0).mode = 0 ∧ (wusr.begun.rangeChecks 0 0x100 0x200 (some 2)).sat (fun s0 _ => (s0.core 0).mode == 0 &&
      (s0.granter 0 1 1 0x100 0x200 65700).sat (fun s1 _ => (s1.claimTable 0 2 1 0x100).sat (fun s2 _ => (s2.rangeTable 0 2).isEmpty)))) ∧
     (wown.begun.rangeChecks 0 0x100 0x200 (some 1)).sat (fun s0 _ => (s0.claimTable 0 1 1 0x100).sat (fun s1 _ => ((s1.rangeTable 0 1).filter (fun e => e.overlaps 0x100 0x200 &&
      ((s1.core 0).mode != 0 || (e.grantor == 0 && !e.retired)))).length == 1)) = true ∧
     ((wown.begun.rangeTable 0 2).filter (fun e => e.overlaps 0x100 0x200)).length = 0 ∧
     ((wown.begun.rangeTable 0 1).flatMap (fun e => if e.overlaps 0x100 0x200 then e.outside 0x100 0x200 else [e])).length + 1 ≤ (wown.directory 0 1).capacity ∧
     (wusr.begun.rangeChecks 0 0x100 0x200 none).sat (fun s0 _ => (s0.claimTable 0 1 2 0x100).sat (fun s1 _ => (s1.rangeTable 0 1).length == 1)) = true ∧
     (wusr.core 0).computePhase = false ∧
     (wusr.begun.checkOwner 0 1 0 0x100).sat (fun s0 v => v && (s0.lookupRlb 0 1 0x100 0x100).sat (fun _ e => e.isSome)) = true ∧
     (wown.begun.checkOwner 0 2 0 0x100).sat (fun s0 v => v && (s0.lookupRlb 0 2 0x100 0x100).sat (fun _ e => e.isNone)) = true ∧
     wown.shuttersOf 0 = false ∧
     (wround (.shutter 1 0x100 0x200)).shuttersOf 0 = true ∧
     (tabGet? (wround (.shoot 0 0)).rounds 0 = some ⟨.shoot 0 0, 0, 0⟩ ∧ (wround (.shoot 0 0)).roundReady (.shoot 0 0) = true) ∧
     (wround (.shutter 1 0x100 0x200)).roundReady (.shutter 1 0x100 0x200) = true ∧
     (wround (.rlb 1)).roundReady (.rlb 1) = true) ∧
    rising (wround (.rlb 1)).rounds ∧
    ((wbusy (.shoot 0x10000 64)).roundReady (.shoot 0x10000 64) = false ∧
     (((wround (.rlb 1)).core 0).run = .running ∧ ((wround (.rlb 1)).core 0).wait = .round 0) ∧
     (wown.core 0).wait ≠ .round 0 ∧
     ({ Core.reset 0 with wait := .rvsync } : Core).wait = .rvsync) := 
  ⟨by and_intros <;> decide +kernel,
   by unfold rising; decide +kernel,
   by and_intros <;> decide +kernel⟩

def word_ : State := world [(2, 0x10000), (3, 0x8000), (5, 7)] [(0x10000, 8, 1)] id
def ord0 : OrdOp := ⟨0, false, 0, 0, 0, 0, 3, 0, 7, 0x10000, 0x10000, 1, 0, 0, 3, 0x8000, 0, false⟩
def word1 : State := { word_.onCore 0 (fun c => { c with ordPend := [(0x8000, false)] }) with ords := [(0, ord0)] }
/-- The same with the tables of a translation in memory: 0x70000, 0x80000, 0x90000 and 0xA0000 from the root down. -/
def wordBack : State := (((({ word1 with ords := [(0, { ord0 with back := true })] } : State).putDie 0 { Die.reset with root := 0x70000 }).writeOwn
  0x70000 8 0x80001).writeOwn 0x80000 8 0x90001).writeOwn 0x90000 8 0xA0001 |>.writeOwn 0xA0008 8 0x10181

/-- claimOrderedAnnouncement (outside a gang and within one), claimOrderedApplication. -/
theorem witness_ordered :
    ((orderedRule (word_.core 0) (.ordadd 3 0 ⟨false, 3⟩ ⟨false, 2⟩ ⟨false, 5⟩)).any (fun r => (word_.core 0).clearB { uses := r.2.2.2.2.2.2 }) = true ∧
     ((word_.core 0).ordPend.filter (fun p => !p.2)).length < 16 ∧
     ((compute (word_.core 0)).ordCount < 256 ∧ (compute (word_.core 0)).sp.psw.getLsbD 4 = true) ∧
     (match word_.begun.reach { site := 0, mode := 3, owner := 0, vd := 0, va := 0x10000, n := 8, op := .amo 0 0, need := [rA], engine := false, obj := true } with | .ok _ _ => true | _ => false) = true ∧
     boundB (word_.core 0) ((word_.core 0).rg .D ⟨false, 3⟩).toInt 16 = true ∧
     ((word1.time < 64 * 1 + 128) ∧ 64 * 0 + 128 ≤ ({ word1 with time := 128 } : State).time) ∧
     ordFirst (word1.ords.filter (fun p => (!p.2.seam && homeDie p.2.pa == 0 && p.2.win == 0) && !p.2.back)) = some (0, ord0) ∧
     (word1.ordBehind ord0 = false ∧ (word1.ordApply 0 ord0).2 = true) ∧
     word1.ords.all (fun p => decide (0 ≤ p.2.win)) = true ∧
     (ord0.ty < 8 ∧ (2 ^ 64 - 1 : Nat) < 2 ^ (8 * ordBytes ord0.ty)) ∧
     (tabGet? ({ word1 with lands := [(0, ⟨0, 0x8000, 5, 0, 0x10000⟩)] } : State).lands 0 = some ⟨0, 0x8000, 5, 0, 0x10000⟩ ∧
      (word1.core 0).loc.wf = true) ∧
     ({ ord0 with back := true, moves := 8 } : OrdOp).back = true) ∧
    rising ({ word1 with lands := [(0, ⟨0, 0x8000, 5, 0, 0x10000⟩)] } : State).lands ∧
    ((tabGet? word1.ords 0 = some ord0 ∧ ord0.back = false) ∧
     ({ word1 with dies := [(0, { Die.reset with migs := [⟨0, 1, 2, 0, 0, 0x10000, false, 2, none, false⟩] })] } : State).turnsAway ord0.pa (agentHome (homeDie ord0.pa)) (.ord ord0.site) = true ∧
     (match (wordBack.dropPage 0 0x10000).translate 0 0x10000 with | (_, .leaf e) => pteType e.pte == 0 | _ => false) = true) := 
  ⟨by and_intros <;> decide +kernel,
   by unfold rising; decide +kernel,
   by and_intros <;> decide +kernel⟩

def wpost : State := world [] [] (fun c => { c with posted := [{ va := 0x20000, pa := 0x20000, n := 8, value := 7, key := 1, ty := 1, moves := 0 }] })

/-- claimFenceAndPostedStores. -/
theorem witness_fences :
    ((compute (Core.reset 0)).computePhase = true ∧ (1 : BitVec 3) ≠ 0) ∧
    w0.begun.fenceMet 0 0 4 = true ∧
    wpost.begun.fenceMet 0 1 4 = false ∧
    (Core.reset 0).computePhase = false ∧
    ((w0.core 0).posted = [] ∧ (w0.core 0).eng0.queue = [] ∧ (w0.core 0).eng1.queue = [] ∧ (w0.core 0).conv.queue = [] ∧
      (w0.core 0).mx.cmds = []) ∧
    (w0.ords = [] ∧ w0.lands = []) ∧
    (({ Core.reset 0 with wait := .fence 0 4 } : Core).wait = .fence 0 4 ∧ (Core.reset 0).run = .running) ∧
    wpost.works 0 = true ∧
    (wpost.core 0).posted.length = 1 ∧
    wpost.turnsAway 0x20000 (agentHome (homeDie 0x20000)) (.posted 0) = false ∧
    (wpost.applyHome 1 0x20000 8 7 (.posted 0)).sat (fun _ _ => true) = true := by
  decide +kernel

/-- A nest of two elements of 8 bytes in consecutive places, at 0x8100, and a descriptor of one row of 32 elements at 0x8180. -/
def nest0 : List Nat := [2 + 2 ^ 16 + 2 ^ 32 + 2 ^ 48, 1 + 8 * 2 ^ 32, 0, 0, 8, 0, 3 * 2 ^ 32, 0]
def bigNest : List Nat := [1000 + 2 ^ 16 + 2 ^ 32 + 2 ^ 48, 1 + 8 * 2 ^ 32, 0, 0, 8, 0, 3 * 2 ^ 32, 0]
def pokes (c : Core) (a : Nat) (ws : List Nat) : Core :=
  { c with loc := (ws.zipIdx.foldl (fun m p => memWrite m (a + 8 * p.2) 8 p.1) c.loc) }
def weng : State := world [(10, 0x9000), (11, 0x8000), (12, 0x8100), (13, 0x8180)] [] (fun c =>
  pokes (pokes c 0x8100 nest0) 0x8180 [32 + 2 ^ 16 + 128 * 2 ^ 32, 64])
def cmd0 : Cmd := ⟨0, 2, false, 0x9000, 0x8000, 0, 0, 0, 0, false, nest0, [], 0, 0, 3, 0, none, 0, [], false, .held, [], false, false, 0⟩
def wcred : Core := { weng.core 0 with xbar := { Crossbar.reset with terms := Crossbar.reset.terms.set 0 ⟨0, false, 1⟩ } }
def whead (x : Cmd) : Engine := { Engine.reset with queue := [x] }

/-- claimCopyIssues, claimConverterIssues, claimEngineCommandsStart. -/
theorem witness_engine_issues :
    (weng.core 0).clearB { uses := [rd .A ⟨false, 11⟩, rd .B ⟨false, 12⟩, rd .C ⟨false, 0⟩, rd .D ⟨false, 10⟩] } = true ∧
    ((weng.core 0).noPlace 0 false = false ∧ (weng.core 0).noPlace 2 false = false) ∧
    ((weng.core 0).computePhase = false ∧ (weng.core 0).guarded = false) ∧
    (weng.core 0).blockBusy 0x8100 64 = false ∧
    (match (weng.core 0).tickShadows.readBlock 0x8100 64 with | (_, .ok blk) => let n := wordsNum blk; nestValid n false true && nestTotal n == 2 && !nestSig n && !nestBar n && nestSelfMeets n 0x9000 0x9008 && !nestSelfMeets n 0x9000 0x8000 | _ => false) = true ∧
    (match weng.begun.nestTag 0 0 with | .ok _ => true | _ => false) = true ∧
    (match (weng.core 0).tickShadows.readBlock 0x8180 16 with | (_, .ok blk) => descValid 0 9 10 (wordsNum blk) | _ => false) = true ∧
    (weng.works 0 = true ∧ (weng.core 0).run = .running) ∧
    ((whead cmd0).queue.head? = some cmd0 ∧ (whead cmd0).fault = none ∧ cmd0.stage = .held) ∧
    (weng.core 0).edgesMet [] = true ∧
    ((weng.onCore 0 (fun c => c.setEng 0 (whead cmd0))).core 0).edgesMet [0] = false ∧
    (({ cmd0 with word2 := 4 } : Cmd).word2.testBit 2 = true ∧ ((weng.core 0).queueCredit 0 5).creditOf 0 = 0) ∧
    ((wcred.queueCredit 0 0).creditOf 0 ≠ 0 ∧ (wcred.queueCredit 0 0).credits.find? (fun p => p.1 == 0) = some (0, 0)) ∧
    (((wcred.setEng 1 (whead { cmd0 with id := 7 })).queueCredit 0 7).queueCredit 0 0).credits.find? (fun p => p.1 == 0) ≠ some (0, 0) ∧
    decide (4096 < nestElem (wordsNum cmd0.blk) * nestTotal (wordsNum cmd0.blk)) = false ∧
    decide (4096 < nestElem (wordsNum bigNest) * nestTotal (wordsNum bigNest)) = true ∧
    (weng.gov 0).est + (weng.gov 0).cls.getD 1 0 ≤ (weng.gov 0).lim ∧
    (¬ ((1000 : Nat) + 1 ≤ 1000 ∨ ((1000 : Nat) < 1 ∧ (1000 : Nat) = 0))) := by
  decide +kernel

def convCmd : Cmd := { cmd0 with sub := 0, conv := true, t1 := 9, t2 := 10, blk := [32 + 2 ^ 16 + 128 * 2 ^ 32, 64] }
def sigNest : List Nat := [2 + 2 ^ 16 + 2 ^ 32 + 2 ^ 48, 1 + 2 ^ 16 + 8 * 2 ^ 32, 0, 0, 8, 0, 3 * 2 ^ 32, 0x10000]
/-- Core 0 of weng with a running command at the head of channel 0, and of the converter. -/
def wrun (x : Cmd) (k : Nat) : Core := (weng.core 0).setEng 0 (whead { x with stage := .running, k := k })
def wconv (k : Nat) : Core := { weng.core 0 with conv := whead { convCmd with stage := .running, k := k } }

/-- claimEngineElements (local to local, global to local and local to global, and the converter), claimEngineCompletion. -/
theorem witness_engine_work :
    ((wrun cmd0 0).eng 0).running = some { cmd0 with stage := .running } ∧
    ((0 : Nat) < nestTotal (wordsNum cmd0.blk) ∧ nestTotal (wordsNum cmd0.blk) ≤ 2) ∧
    (wrun cmd0 0).localBusy 0x8000 8 = false ∧
    (match (wrun cmd0 0).elemLocals [(0x8000, 8, false), (0x9000, 8, true)] with | (_, none) => true | _ => false) = true ∧
    (match (weng.putCore 0 (wrun cmd0 0)).checkSides 0 0 3 0 0 [] [(true, false, 0x8000, 8), (true, true, 0x9000, 8)] [] with | .ok _ es => es.isEmpty | _ => false) = true ∧
    (match (weng.putCore 0 (wrun cmd0 0)).checkSides 0 0 3 0 0 [] [(false, false, 0x10000, 8), (true, true, 0x9000, 8)] [⟨0x10000, 8, .load, [rR]⟩] with | .ok s2 es => es.head?.any (fun p => match s2.performSide 0 0 3 0 0 p.1 p.2 with | .ok _ _ => true | _ => false) | _ => false) = true ∧
    (match (weng.putCore 0 (wrun cmd0 0)).checkSides 0 0 3 0 0 [] [(true, false, 0x8000, 8), (false, true, 0x10000, 8)] [⟨0x10000, 8, .store 0, [rW]⟩] with | .ok s2 es => es.getLast?.any (fun p => match s2.performSide 0 0 3 0 0 { p.1 with op := .store 7 } p.2 with | .ok _ _ => true | _ => false) | _ => false) = true ∧
    ((wrun convCmd 0).conv.running = none ∧ (wconv 0).conv.running = some { convCmd with stage := .running }) ∧
    (0 : Nat) < convTotal (wordsNum convCmd.blk) ∧
    (match (wconv 0).elemLocals ((convNeeds convCmd 0 0).flatMap (convReads convCmd) ++ convWrites convCmd 0 0) with | (_, none) => true | _ => false) = true ∧
    nestSig (wordsNum nest0) = false ∧
    nestTotal (wordsNum nest0) ≤ ({ cmd0 with k := 2 } : Cmd).k ∧
    nestSig (wordsNum sigNest) = true ∧
    ((weng.writePa 1 0x10000 8 5).sigdec (weng.cmdAgent 0 0 3 0 0 0) (nestSigVa (wordsNum sigNest)) 1).sat (fun _ v => v == 4) = true ∧
    convTotal (wordsNum convCmd.blk) ≤ 32 ∧
    ({ Core.reset 0 with eng0 := { Engine.reset with fault := some ⟨cNOT_PRESENT, 0, false⟩ } } : Core).engFault 0 ≠ none ∧
    ((Core.reset 0).engFault 3 = none ∧ (Core.reset 0).engIdle 3 = true) ∧
    ((wrun cmd0 0).engFault 3 = none ∧ (wrun cmd0 0).engIdle 3 = false) ∧
    ({ Core.reset 0 with wait := .cpwait 3 } : Core).wait = .cpwait 3 ∧
    (Core.reset 0).clearB { uses := [wr .D ⟨false, 5⟩] } = true := by
  decide +kernel

/-- claimEventCrossbar and claimTermsFire. -/
theorem witness_crossbar :
    (w0.core 0).clearB { uses := [rd .A ⟨false, 4⟩] } = true ∧
    (8 : BitVec 5).toNat = 8 ∧
    ((0x10007 : DWord).toNat < 2 ^ 32 ∧ (0x10007 : DWord).toNat / 2 ^ 11 % 2 ^ 5 = 0 ∧ (0x10007 : DWord).toNat % 32 < 8) ∧
    8 ≤ (8 : DWord).toNat % 32 ∧
    ((0x1FFFF : DWord).toNat < 2 ^ 17 ∧ 2 ^ 17 ≤ (0x20000 : DWord).toNat) ∧
    ({ Crossbar.reset with terms := Crossbar.reset.terms.set 0 ⟨0, false, 1⟩ } : Crossbar).terms.getD 0 ⟨0, false, 0⟩ = ⟨0, false, 1⟩ ∧
    (Crossbar.reset.terms.getD 0 ⟨0, false, 0⟩).credit = 0 ∧
    ({ Core.reset 0 with wait := .evwait 0, xbar := { Crossbar.reset with terms := Crossbar.reset.terms.set 0 ⟨0, false, 1⟩ } } : Core).creditOf 0 ≠ 0 ∧
    (({ Crossbar.reset with period := 5, left := 2, due := 1 } : Crossbar).due ≠ 0 ∧
      0 < ({ Crossbar.reset with period := 5, left := 2 } : Crossbar).left ∧
      ({ Crossbar.reset with period := 5, left := 2 } : Crossbar).left ≤ ({ Crossbar.reset with period := 5, left := 2 } : Crossbar).period) ∧
    ({ Core.reset 0 with xbar := { Crossbar.reset with due := 1 } } : Core).xbar.due ≠ 0 ∧
    0 < Crossbar.reset.terms.length ∧
    ((⟨1, true, 255⟩ : EvTerm).cfg.toNat % 256 ≠ 0 ∧ (⟨1, true, 255⟩ : EvTerm).credit ≤ 255) ∧
    ((⟨0x20000, 2⟩ : EvCounter).thr ≠ 0 ∧ (⟨0x20000, 2⟩ : EvCounter).thr ≤ 2) ∧
    ((⟨0x100, true, 0⟩ : EvTerm).cfg.toNat % 256 = 0 ∧ (⟨0x100, true, 0⟩ : EvTerm).cfg.toNat / 256 % 256 ≠ 0) := by
  decide +kernel

/-- Descriptors in local memory: 64 records of 64 f16 elements for an mload, 128 for an mstream, rows of f32 for an mstore. -/
def dLoad : List Nat := [0x10000, 64 + 64 * 2 ^ 16 + 128 * 2 ^ 32, 8 + 2 ^ 10 + 2 ^ 11, 0]
def dStream : List Nat := [0x18000, 64 + 128 * 2 ^ 16 + 128 * 2 ^ 32, 8 + 2 ^ 11, 0]
def dStore : List Nat := [0x20000, 64 + 2 * 2 ^ 16 + 256 * 2 ^ 32, 10 + 2 ^ 11, 0]
/-- The same with records that are one sector, for an mload of K = 32 and the first tile of a stream. -/
def dLoad1 : List Nat := [0x10000, 32 + 64 * 2 ^ 16, 8 + 2 ^ 10 + 2 ^ 11, 0]
def dStream1 : List Nat := [0x10040, 32 + 128 * 2 ^ 16, 8 + 2 ^ 11, 0]
def wmx : State := world [(11, 0x8100), (12, 0x8140), (13, 0x8180), (20, 0x10000)] [] (fun c =>
  pokes (pokes (pokes { c with mx := { c.mx with lastK := 64 } } 0x8100 dLoad) 0x8140 dStream) 0x8180 dStore)
/-- A command of a kind that runs and, but for the second form, is granted. -/
def mxRun (kind word2 : Nat) (d : List Nat) : MxCmd := ⟨0, kind, d, [], word2, 0, 64, 0, 0, 3, 0, 0, .running, [], false, true, true, 0⟩
def wm (x : MxCmd) : State := wmx.onCore 0 (fun c => { c with mx := { c.mx with cmds := [x], fmt := 8, kdim := 64 } })
/-- The same with K = 32 in the slot and the command. -/
def wm32 (kind : Nat) (d : List Nat) : State :=
  wmx.onCore 0 (fun c => { c with mx := { c.mx with cmds := [{ mxRun kind 0 d with kdim := 32 }], fmt := 8, kdim := 32 } })
def wm1 : State := wm { mxRun 0 0 dLoad with granted := false }

/-- claimMatrixIssues: each of mload, mstream and mstore, mzero with and without RS; claimMatrixArbiter. -/
theorem witness_matrix_issues :
    ([.mload ⟨false, 11⟩ ⟨false, 0⟩ false 0 false false, .mstream ⟨false, 12⟩ ⟨false, 0⟩ 0 false 0 false false, .mstore 0 ⟨false, 13⟩ ⟨false, 0⟩ 0 0 true false 0 false false] : List Instr).all (fun i => (matrixRule i).any (fun r => let c := wmx.core 0; let p := ((c.rg .A r.2.2.2.2.2.1)).toInt; c.clearB { rm := r.2.2.1, uses := [rd .A r.2.2.2.2.2.1, rd .B r.2.2.2.2.2.2] } && !c.mxNoPlace false && !c.blockBusy p 32 && (match c.tickShadows.readBlock p 32 with | (c2, .ok desc) => mxLocal desc && mxDescOk r.1 (r.2.2.2.1 / 2 ^ 8 % 2 ^ 8) c2.mx.discard.lastK desc && mxOrientOk r.1 r.2.1 desc && mxSig desc == 0 && !c2.guarded | _ => false))) = true ∧
    (match (wmx.core 0).tickShadows.readBlock 0x8100 32 with | (_, .ok d) => mxDescOk 0 0 0 d | _ => false) = true ∧
    ({ MxQueue.reset with fault := some ⟨cBOUND_TRAP, 0, 3, 2, 3, 0⟩ } : MxQueue).fault.any (fun x => x.kind == 2) = true ∧
    wm1.mxChoose 0 ⟨List.replicate 8 1, 7⟩ = some 0 ∧
    (wm1.mxChoose 0 ⟨List.replicate 8 0, 7⟩ = none ∧ wm1.mxChoose 0 ⟨(List.range 8).map (wm1.mxWeight 0), 7⟩ = some 0) ∧
    State.reset.mxChoose 0 ⟨List.replicate 8 1, 7⟩ = none ∧
    (((wm1.core 0).mx.cmds.head?).any (fun x => !x.granted && x.kind != 3)) = true ∧
    ((1 : Nat) + 7 - 7) % 8 < (2 + 7 - 7) % 8 ∧
    (({ (wm1.gov 0) with fifo := [⟨0, 3, 3⟩] } : Governor).fifo = [⟨0, 3, 3⟩] ∧
      (wm1.gov 0).est + (wm1.gov 0).cls.getD 3 0 ≤ (wm1.gov 0).lim) := by
  decide +kernel

/-- claimMatrixLoads, claimMatrixTiles, claimMatrixStores. -/
theorem witness_matrix_work :
    ((wm (mxRun 0 0 dLoad)).works 0 = true ∧ ((wm (mxRun 0 0 dLoad)).core 0).mx.fault = none) ∧
    (match (wm32 0 dLoad1).fetchRecords 0 { mxRun 0 0 dLoad1 with kdim := 32 } with | .ok s1 _ => (s1.core 0).mx.cmds == [{ mxRun 0 0 dLoad1 with kdim := 32 }] && (s1.core 0).mx.fault.isNone | _ => false) = true ∧
    (match (wm32 1 dStream1).fetchRecords 0 { mxRun 1 0 dStream1 with kdim := 32 } with | .ok s1 _ => (s1.core 0).mx == ((wm32 1 dStream1).core 0).mx | _ => false) = true ∧
    (((wm32 1 dStream1).core 0).mx.fmt ≠ 255 ∧ ((wm32 1 dStream1).core 0).mx.kdim = 32 ∧ 64 * (0 + 1) < mxRecs dStream1 ∧
      ((wm32 1 dStream1).core 0).mx.bank = []) ∧
    (mxRun 2 0 dStore).total = 0 + (1 + 1) ∧
    (boundRow Bound.reset 0 ((List.range 64).map (((wm (mxRun 2 0x40000 dStore)).core 0).mx.bankAt 0))).1 = Bound.reset ∧
    (match boundRow ⟨0x3F800000, 0x40000000, 3, false, 0⟩ 0 ((List.range 64).map (((wm (mxRun 2 0x40000 dStore)).core 0).mx.bankAt 0)) with | (_, .error k) => k == 0 | _ => false) = true ∧
    (mxRun 2 0x40000 dStore).be = true ∧
    (match (wm (mxRun 2 0 dStore)).storeParts 0 (mxRun 2 0 dStore) 0x20000 (List.replicate 256 0) (partsOf 0x20000 256) with | .ok _ m => m == 0 | _ => false) = true ∧
    (fp 10 0x7FC00000).isNaN = true ∧
    ((fp 10 0).isNaN = false ∧ (fp 10 0).lt (fp 10 0x3F800000) = true) ∧
    (mxRun 3 0x20000 []).count = 2 := by
  decide +kernel

/-- The words of the status, bound and command areas of the image of a queue after reset. -/
def resetWords : List Nat := maskWords 0 (MxQueue.reset.statusWords ++ MxQueue.reset.boundWords ++ List.replicate 64 0)
/-- 64-bit words written from an address. -/
def writeAll (m : Memory) (a : Nat) : List Nat → Memory
  | [] => m
  | w :: t => writeAll (memWrite m a 8 w) (a + 8) t
/-- A local memory that holds the image of such a queue at address 0, and a core that may restore it. -/
def imageMem : Memory := writeAll [] 82432 resetWords

theorem maskWords_lt : ∀ (ws : List Nat) (k : Nat), ∀ x ∈ maskWords k ws, x < 256 ^ 8
  | [], _, x, h => by simp [maskWords] at h
  | w :: t, k, x, h => by
    rcases List.mem_cons.1 h with rfl | h
    · exact (BitVec.isLt _)
    · exact maskWords_lt t (k + 1) x h

theorem maskWords_twice : ∀ (ws : List Nat) (k : Nat), (∀ x ∈ ws, x < 2 ^ 64) → maskWords k (maskWords k ws) = ws
  | [], _, _ => rfl
  | w :: t, k, h => by
    simp only [maskWords]
    rw [maskWords_twice t (k + 1) fun x hx => h x (List.mem_cons_of_mem _ hx), BitVec.ofNat_toNat, BitVec.setWidth_eq,
      BitVec.xor_assoc, BitVec.xor_self, BitVec.xor_zero, BitVec.toNat_ofNat, Nat.mod_eq_of_lt (h w List.mem_cons_self)]

theorem writeAll_wf : ∀ (ws : List Nat) (m : Memory) (a : Nat), m.wf = true → (writeAll m a ws).wf = true
  | [], _, _, h => h
  | _ :: t, _, a, h => writeAll_wf t _ (a + 8) (Memory.wf_memWrite h a 8 _)

theorem writeAll_outside : ∀ (ws : List Nat) (m : Memory) (a b : Nat), m.wf = true → b + 8 ≤ a ∨ a + 8 * ws.length ≤ b →
    memRead (writeAll m a ws) b 8 = memRead m b 8
  | [], _, _, _, _, _ => rfl
  | w :: t, m, a, b, h, hb => by
    simp only [List.length_cons] at hb
    rw [writeAll, writeAll_outside t _ (a + 8) b (Memory.wf_memWrite h a 8 w) (by omega),
      memRead_memWrite_outside h a 8 w b 8 (by omega)]

theorem writeAll_read : ∀ (ws : List Nat) (m : Memory) (a i : Nat) (w : Nat), m.wf = true → (∀ x ∈ ws, x < 256 ^ 8) → ws[i]? = some w →
    memRead (writeAll m a ws) (a + 8 * i) 8 = w
  | [], _, _, _, _, _, _, h => by simp at h
  | v :: t, m, a, i, w, hm, hx, h => by
    have hw := Memory.wf_memWrite hm a 8 v
    cases i with
    | zero =>
      simp only [List.getElem?_cons_zero, Option.some.injEq] at h
      subst h
      rw [writeAll, writeAll_outside t _ (a + 8) (a + 8 * 0) hw (by omega), Nat.mul_zero, Nat.add_zero, memRead_memWrite hm,
        Nat.mod_eq_of_lt (hx v List.mem_cons_self)]
    | succ i =>
      rw [writeAll, show a + 8 * (i + 1) = a + 8 + 8 * i by omega]
      exact writeAll_read t _ (a + 8) i w hw (fun x h => hx x (List.mem_cons_of_mem _ h)) (by simpa using h)

theorem memGet_memSlice (n x : Nat) : ∀ (m : Memory) (lo : Nat), memWfFrom lo m = true →
    memGet (memSlice m 0 n) x = if x < n then memGet m x else memDefault
  | [], _, _ => by simp [memSlice, memGet]
  | (k, b) :: t, lo, h => by
    have ht : memWfFrom (k + 1) t = true := by
      simp only [memWfFrom, Bool.and_eq_true] at h; exact h.2
    have ih := memGet_memSlice n x t (k + 1) ht
    by_cases hk : k < n
    · have : memSlice ((k, b) :: t) 0 n = (k, b) :: memSlice t 0 n := by simp [memSlice, hk]
      rw [this]
      simp only [memGet, ih]
      split <;> rename_i h1
      · simp
      · split <;> rename_i h2
        · simp [h2, hk]
        · rfl
    · have : memSlice ((k, b) :: t) 0 n = memSlice t 0 n := by simp [memSlice, hk]
      rw [this, ih]
      split <;> rename_i h1
      · rw [memGet_of_lt (show x < k + 1 by omega) ht]
        simp [memGet, show x < k by omega]
      · rfl

theorem image_read (i w : Nat) (h : resetWords[i]? = some w) : memRead (memSlice imageMem 0 83456) (82432 + 8 * i) 8 = w := by
  have hl : resetWords.length = 80 := rfl
  have hi : i < 80 := by rw [← hl]; exact (List.getElem?_eq_some_iff.1 h).1
  have hw : imageMem.wf = true := writeAll_wf _ _ _ rfl
  rw [memRead_congr (82432 + 8 * i) 8 (m' := imageMem) fun x h1 h2 => by
    rw [memGet_memSlice 83456 x imageMem 0 hw, if_pos (by omega)]]
  exact writeAll_read resetWords [] 82432 i w rfl (maskWords_lt _ _) h

theorem image_words (k n : Nat) (h : k + n ≤ 80) : memWords (memSlice imageMem 0 83456) (82432 + 8 * k) n = (resetWords.drop k).take n := by
  have hl : resetWords.length = 80 := rfl
  apply List.ext_getElem?
  intro i
  by_cases hi : i < n
  · rw [List.getElem?_take_of_lt hi, List.getElem?_drop]
    have h1 : k + i < resetWords.length := by omega
    rw [List.getElem?_eq_getElem h1]
    have h2 := image_read (k + i) resetWords[k + i] (List.getElem?_eq_getElem h1)
    rw [memWords, List.getElem?_map, List.getElem?_range hi, ← h2]
    simp [Nat.mul_add, Nat.add_assoc]
  · rw [List.getElem?_eq_none (by simp [memWords]; omega), List.getElem?_eq_none (by simp; omega)]

theorem image_pocket : memRead (memSlice imageMem 0 83456) 83072 8 = 0 := by
  have hw : imageMem.wf = true := writeAll_wf _ _ _ rfl
  rw [memRead_congr 83072 8 (m' := imageMem) fun x h1 h2 => by rw [memGet_memSlice 83456 x imageMem 0 hw, if_pos (by omega)]]
  exact writeAll_outside resetWords [] 82432 83072 rfl (Or.inr (by show 82432 + 8 * 80 ≤ 83072; omega))

theorem image_restores : (MxQueue.reset.ofImage (memSlice imageMem 0 83456)).isSome = true := by
  have h0 : maskWords 0 (memWords (memSlice imageMem 0 83456) 82432 8) = MxQueue.reset.statusWords := by
    rw [image_words 0 8 (by omega)]
    exact maskWords_twice MxQueue.reset.statusWords 0 (by decide)
  have h1 : maskWords 8 (memWords (memSlice imageMem 0 83456) 82496 8) = MxQueue.reset.boundWords := by
    rw [show (82496 : Nat) = 82432 + 8 * 8 from rfl, image_words 8 8 (by omega)]
    exact maskWords_twice MxQueue.reset.boundWords 8 (by decide)
  have h2 (i : Nat) (h : i < 4) : maskWords (16 + 16 * i) (memWords (memSlice imageMem 0 83456) (82560 + 128 * i) 16) = List.replicate 16 0 := by
    rw [show 82560 + 128 * i = 82432 + 8 * (16 + 16 * i) by omega, image_words _ 16 (by omega)]
    have : i = 0 ∨ i = 1 ∨ i = 2 ∨ i = 3 := by omega
    rcases this with rfl | rfl | rfl | rfl <;> exact maskWords_twice (List.replicate 16 0) _ (by decide)
  have h3 : (List.range 4).map (fun i => maskWords (16 + 16 * i) (memWords (memSlice imageMem 0 83456) (82560 + 128 * i) 16)) =
      List.replicate 4 (List.replicate 16 0) := by
    rw [show List.range 4 = [0, 1, 2, 3] from rfl]
    simp only [List.map_cons, List.map_nil]
    rw [h2 0 (by omega), h2 1 (by omega), h2 2 (by omega), h2 3 (by omega)]; rfl
  simp only [MxQueue.ofImage, h0, h1, h3, image_pocket]
  rw [show MxQueue.withStatus { MxQueue.reset with rep := false } MxQueue.reset.statusWords = MxQueue.reset from by decide +kernel,
    show (List.replicate 4 (List.replicate 16 0)).zipIdx.all (fun p => MxCmd.wordsOk (p.2 == 0) p.1) = true from by decide +kernel,
    show boundsOfWords MxQueue.reset.boundWords = MxQueue.reset.bounds from by decide +kernel]
  have hb (x : MxQueue) (h : x.bounds = MxQueue.reset.bounds) : x.boundWords = MxQueue.reset.boundWords := by
    simp only [MxQueue.boundWords, h]
  rw [if_pos]
  · rfl
  · simp only [Bool.and_eq_true, beq_iff_eq]
    exact ⟨⟨⟨⟨⟨⟨⟨trivial, by decide +kernel⟩, trivial⟩, hb _ rfl⟩, by decide⟩, by decide⟩, rfl⟩, by decide +kernel⟩

def wimgCore : Core := { Core.reset 0 with loc := imageMem, sp := { (Core.reset 0).sp with xb := 0 } }
theorem wimgCore_restores : (wimgCore.mx.ofImage (memSlice wimgCore.loc 0 83456)).isSome = true := by
  have h1 : wimgCore.mx = MxQueue.reset := by simp only [wimgCore]; rfl
  have h2 : wimgCore.loc = imageMem := by simp only [wimgCore]
  rw [h1, h2]
  exact image_restores

/-- claimMatrixState. -/
theorem witness_matrix_state :
    (((wmx.core 0).clearB { uses := [rd .A ⟨false, 20⟩] } = true ∧ (wmx.core 0).clearB { uses := [wr .D ⟨false, 4⟩] } = true) ∧
     imageCheck (wmx.core 0).xbAddr 0x10000 = none ∧
     (wmx.core 0).localBusy 0x10000 83456 = false ∧
     ((wmx.core 0).mx.inArray = false ∧ wmx.begun.mxArriving 0 = false ∧ (wmx.core 0).mx.cmds = [] ∧ (wmx.core 0).flips = [])) ∧
    (wimgCore.mx.ofImage (memSlice wimgCore.loc 0 83456)).isSome = true ∧
    (imageCheck wimgCore.xbAddr 0 = none ∧ wimgCore.mx.cmds = [] ∧ wimgCore.flips = []) ∧
    (wimgCore.localBusy 0 83456 = false ∧ wimgCore.clearB { uses := [rd .A ⟨false, 0⟩] } = true) ∧
    (((wmx.core 0).mx.storing = false ∧ ((wm (mxRun 2 0 dStore)).core 0).mx.storing = true) ∧
     (((wm (mxRun 2 0 dStore)).core 0).mx.fault = none ∧ ((wm (mxRun 2 0 dStore)).core 0).mx.cmds ≠ []) ∧
     (8 ≤ (8 : BitVec 4).toNat ∧ (4 : BitVec 4).toNat < 8) ∧
     1 ≤ (wmx.core 0).mode ∧
     ({ wmx.core 0 with wait := .mstat ⟨false, 4⟩ 8 } : Core).wait = .mstat ⟨false, 4⟩ 8) := 
  ⟨by and_intros <;> decide +kernel,
   by exact wimgCore_restores,
   by decide +kernel,
   by constructor <;> decide +kernel,
   by and_intros <;> decide +kernel⟩

def wfree : State := { wg with sectors := [] }

/-- claimMaintenanceResult and claimLineMaintenance. -/
theorem witness_maintenance :
    (wg.core 0).clearB { mode := 3, uses := [rd .A ⟨false, 2⟩, rd .B ⟨false, 3⟩] } = true ∧
    (wg.core 0).wait = .none ∧
    ((wg.core 0).rg .A ⟨false, 2⟩).toNat < 2 ^ 20 ∧
    2 ^ 20 ≤ ((w0.core 0).rg .A ⟨false, 6⟩).toNat ∧
    slotted.mode < 3 ∧
    (wg.core 0).clearB { mode := 1, uses := [rd .A ⟨false, 2⟩, rd .B ⟨false, 5⟩] } = true ∧
    (wg.core 0).computePhase = false ∧
    2 ^ 32 < ((w0.core 0).rg .B ⟨false, 6⟩).toNat ∧
    ((wg.core 0).rg .B ⟨false, 0⟩).toNat = 0 ∧
    (7 : Nat) ≤ 65536 - 0x10000 % 65536 ∧
    (match wg.begun.translate 0 0x10000 with | (s1, .leaf e) => pteType e.pte == 0 && (match s1.maintSectors 0 true (s1.listedSectors (e.pa 0x10000) 7) with | (_, sent) => !sent.isEmpty) | _ => false) = true ∧
    (match wfree.begun.translate 0 0x10000 with | (s1, .leaf e) => (match s1.maintSectors 0 true (s1.listedSectors (e.pa 0x10000) 7) with | (_, sent) => sent.isEmpty) | _ => false) = true ∧
    (tabGet? ({ wg with msgs := [(3, ⟨1024, 0, 1, true, true, .host, 0, 0⟩)] } : State).msgs 3 ≠ none ∧ tabGet? wg.msgs 3 = none) ∧
    ((wg.sliceHolding 0 1024).count ≠ 0 ∧ (wg.sliceHolding 0 1024).owner = true) ∧
    (wfree.sliceHolding 0 1024).count = 0 ∧
    ({ wg.core 0 with wait := .tokens [3] 0 0 true } : Core).wait = .tokens [3] 0 0 true := by
  decide +kernel

/-- A core of a protected gang that has been rolled back; and one whose fetch unit waits for a sector. -/
def wrerun : State := { regs [(2, 0x8000), (5, 7)] with
  cores := [(0, { (Core.reset 0).withG [(2, 0x8000), (5, 7)] with sp := { (Core.reset 0).sp with psw := 0x5B } })]
  gangs := [(0, { gang0 with rolled := true, vd := (Core.reset 0).vdev })] }
def wsecs (x : MxCmd) : State := { wm x with reqs := [(0, ⟨2048, 1024, false, .eng 0 3, 0, 0, 0, false, false, false, 0, [], []⟩)] }
def wpre : State := small (fun c => { c with preempt := true, sp := { c.sp with psw := 4 } })

/-- claimErrlogAndSnapctl and claimPreemptionEvents. -/
theorem witness_errors :
    (w0.core 0).clearB { mode := 1, uses := [rd .A ⟨false, 2⟩, rd .B ⟨false, 5⟩] } = true ∧
    boundB (w0.core 0) 0x8000 8 = true ∧
    ((w0.core 0).localBusy 0x8000 8 = false ∧ (w0.core 0).loc.wf = true) ∧
    (w0.core 0).clearB { mode := 1, uses := [wr .D ⟨false, 4⟩] } = true ∧
    (Core.reset 0).taken = false ∧
    ({ Core.reset 0 with taken := true } : Core).settledWork = true ∧
    ({ Core.reset 0 with taken := true, posted := [{ va := 0x20000, pa := 0x20000, n := 8, value := 7, key := 1, ty := 1, moves := 0 }] } : Core).settledWork = false ∧
    ((wpre.core 0).mayInterrupt = true ∧ (wpre.core 0).formed = false ∧ (wpre.core 0).held.length < 3 ∧
      (wpre.core 0).sp.wp ≠ (wpre.core 0).sp.twp ∧ (wpre.core 0).wait = .none) ∧
    (w0.core 0).mayInterrupt = false ∧
    ((wpre.core 0).mode ≠ 3 ∧ (wpre.core 0).preemptAt + 100000 ≤ ({ wpre with time := 100000 } : State).time ∧ (wpre.core 0).halt = none) ∧
    wpre.time < (wpre.core 0).preemptAt + 100000 ∧
    w0.begun.rerun 0 = false ∧
    (wrerun.begun.rerun 0 = true ∧ boundB (wrerun.core 0) 0x8000 8 = true ∧ (wrerun.core 0).localBusy 0x8000 8 = false ∧
      (wrerun.core 0).clearB { mode := 1, uses := [rd .A ⟨false, 2⟩, rd .B ⟨false, 5⟩] } = true) ∧
    w0.mxArriving 0 = false ∧
    (wsecs (mxRun 0 0 dLoad)).mxArriving 0 = true ∧
    ({ wpre.core 0 with halt := some cBUDGET_END } : Core).halt = some cBUDGET_END ∧
    (wpre.onCore 0 (fun c => { c with halt := some cBUDGET_END })).mayQuiesce 0 = true ∧
    w0.mayQuiesce 0 = false := by
  decide +kernel

/-- Sector 1024: 1,023 tokens with the owner token in the slice 2048 of cluster 0, one on its way there; a write request of the slice
2056 of cluster 1, for the core at site 8, which the home has forwarded to 2048. -/
def wreq : TReq := ⟨2056, 1024, true, .eng 8 5, 2, 0, 0, false, false, true, 2048, [], []⟩
def wtok : State := { State.reset with
  sectors := [(1024, { Sector.reset 0 with home := 0, homeOwner := false, held := [⟨2048, 1023, true, true⟩] })]
  msgs := [(0, ⟨1024, 2048, 1, false, true, .eng 0 5, 0, 0⟩)], reqs := [(0, wreq)], cyc := [(0, 512)]
  cores := [(8, { Core.reset 0 with wait := .retry })] }
/-- A read of a cluster of die 1, whose remote-data cache 22528 holds n tokens. -/
def far : TReq := ⟨18432, 1024, false, .eng 1024 5, 0, 0, 0, false, false, false, 0, [], []⟩
def wrdc (n : Nat) : State := { State.reset with
  sectors := [(1024, { Sector.reset 0 with home := 1024 - n, held := [⟨22528, n, false, true⟩] })], reqs := [(0, far)] }
theorem wtok_listed : wtok.TokensListed where
  msgs := by unfold rising; decide +kernel
  sectors := by unfold rising; decide +kernel
  holders := fun j => by
    by_cases h : j = 1024
    · subst h; unfold Sector.listed; decide +kernel
    · have : (wtok.sector j).held = [] := by simp [State.sector, wtok, tabGet, tabGet?, h, Sector.reset]
      simp [Sector.listed, this]
/-- The sector at its home, which the request reaches; and a bias flip of its granule. -/
def whome : State := { State.reset with reqs := [(0, { wreq with atHome := false })] }
def wflip : State := { wtok with hub := { State.reset.hub with flips := [⟨16, true, false, []⟩] } }
/-- The page of the sector is leaving its frame. -/
def wleave : State := wtok.putDie 0 { Die.reset with migs := [⟨0, 1, 2, 0, 0, 0x10000, false, 2, none, false⟩] }
def wpreq : PReq := ⟨2056, true, .eng 8 5, false⟩
def wper : State := { wtok with msgs := [], sectors := [(1024, { wtok.sector 1024 with fifo := [wpreq] })] }
def wreg : State := { State.reset with
  cyc := [(0, 16384)], regions := [⟨0, 0, 2, true, 0⟩, ⟨0, 2, 2, true, 0⟩]
  sectors := (List.range 4).map (fun k => (k, { Sector.reset 0 with home := 0, homeOwner := false, held := [⟨agentL1 0 (64 * k), 1024, true, true⟩] })) }

/-- TokensConserved, claimTransientRequests (each place that a request reaches, and what it finds there), claimPersistentRequests, claimCoherenceBookkeeping. -/
theorem witness_tokens :
    ((Sector.reset 0).held = [] ∧
     (⟨0, 10247, 1024, true, true⟩ : TokMove).count ≤ ((Sector.reset 0).holding 0 0).count) ∧
    (rising wtok.msgs ∧ rising wtok.sectors ∧ rising wtok.reqs) ∧
    wtok.TokensListed ∧
    ((match wtok.obtain 1 0x10000 2048 false (.eng 0 5) with | .ok t _ => (t.sector 1024).resetting == (wtok.sector 1024).resetting | _ => false) = true ∧
     (match exec (.persistentActivation 1024 2048) wper with | .next t => t.msgs.length == 1 && (t.sector 1024).resetting == (wper.sector 1024).resetting | _ => false) = true ∧
     (match wtok.maintSectors 0 true [1024] with | (t, ids) => ids.length == 1 && t.msgs.length == 2) = true ∧
     ((({ wtok with msgs := [] } : State).makeSlot 2048 (lineOf 1024) (.eng 0 5)).isSome = true ∧
      ({ wtok with msgs := [] } : State).receiver ⟨1024, 2048, 1, false, true, .eng 0 5, 0, 0⟩ = agentHome 0) ∧
     (({ wper with msgs := [] } : State).receiver ⟨1024, 2056, 1, true, true, .eng 8 5, 0, 0⟩) = 2056 ∧
     ({ wtok with sectors := [(1024, { wtok.sector 1024 with resetting := true })] } : State).cramped 512 true = false ∧
     (tabGet? wtok.msgs 0 = some ⟨1024, 2048, 1, false, true, .eng 0 5, 0, 0⟩ ∧ (wtok.sector 1024).resetting = false) ∧
     (match exec (.tokenReceipt 0) wtok with | .next _ => true | _ => false) = true ∧
     (match exec (.transientRequest 0 2048) wtok with | .next t => t.msgs.length == 2 | _ => false) = true ∧
     (tabGet? wtok.reqs 0 = some wreq ∧ (2048 : Nat) ≠ agentHome (homeDie (64 * 1024)) ∧ (2048 : Nat) ≠ 2056 ∧ (2048 : Nat) ∉ wreq.done) ∧
     (((wtok.sector 1024).holding 0 2048).count ≠ 0 ∧ ((wtok.sector 1024).holding 0 2048).owner = true) ∧
     ((wtok.sector 1024).holding 0 2056).count = 0 ∧
     ((((wrdc 2).sector 1024).holding 0 22528).count ≠ 0 ∧ (((wrdc 2).sector 1024).holding 0 22528).owner = false) ∧
     ((wrdc 2).pinned 1024 22528 false = false ∧ far.viaRdc 0 = true ∧ (22528 : Nat) = agentRdc (agentDie far.agent) ∧
      tabGet? (wrdc 2).reqs 0 = some far) ∧
     2 ≤ (((wrdc 2).sector 1024).holding 0 22528).count ∧
     (((wrdc 1).sector 1024).holding 0 22528).count = 1 ∧
     (((wrdc 0).sector 1024).holding 0 22528).count = 0 ∧
     (wreq.viaRdc 0 = false ∧ wreq.forwardedTo (wtok.sector 1024) 0 2048 = true ∧ wreq.forwardedTo (wtok.sector 1024) 0 2064 = false) ∧
     ({ wtok with pins := [⟨1024, 2048, .foot 0⟩] } : State).pinned 1024 2048 false = true ∧
     wtok.pinned 1024 2048 false = false ∧
     (wtok.flipping 0x10000 = false ∧ wtok.incoming 0x10000 = false ∧ wtok.turnsAway 0x10000 2056 (.eng 8 5) = false ∧ wtok.pinned 1024 0 false = false ∧ (match exec (.transientRequest 0 (agentHome 0)) whome with | .next t => t.msgs.length == 1 | _ => false) = true) ∧
     ((whome.sector 1024).answer (agentHome 0) (agentHome 0) 2056 true false = some ⟨agentHome 0, 2056, 1024, true, true⟩ ∧
      (whome.hostSettled 1024 (agentHome 0) 2056 true (.eng 8 5) ⟨agentHome 0, 2056, 1024, true, true⟩).errorFree 1024 = true) ∧
     (wflip.heldUp 0x10000 2056 (.eng 8 5) = true ∧ wtok.heldUp 0x10000 2056 (.eng 8 5) = false) ∧
     wleave.heldUp 0x10000 2056 (.eng 8 5) = false ∧
     ({ wtok with pins := [⟨1024, 2048, .tile 0⟩] } : State).pinned 1024 2048 true = true ∧
     ({ wtok with pins := [⟨1024, 2048, .foot 0⟩] } : State).pinned 1024 2048 true = false ∧
     (wleave.flipping 0x10000 = false ∧ wleave.incoming 0x10000 = false ∧ wleave.turnsAway 0x10000 2056 (.eng 8 5) = true ∧
      tabGet? wleave.reqs 0 = some wreq) ∧
     (wtok.lacks wreq = true ∧ wreq.since + 512 ≤ wtok.agentClock wreq.agent ∧ wreq.fails < 3) ∧
     (wtok.lacks { wreq with agent := 0 } = true ∧ (wrdc 2).lacks { far with agent := 22528 } = false) ∧
     (wleave.refuses 0x10000 = true ∧ wtok.refuses 0x10000 = false) ∧
     (({ wreq with fails := 3 } : TReq).fails = 3 ∧ (wtok.sector 1024).fifo = []) ∧
     ({ wreq with fails := 0 } : TReq).first + 4096 ≤ ({ wtok with cyc := [(0, 4096)] } : State).agentClock wreq.agent ∧
     (wper.sector 1024).fifo.any (fun p => p.agent == wreq.agent && p.who == wreq.who) = true ∧
     ((wper.sector 1024).fifo = [wpreq] ∧ (wper.sector 1024).resetting = false ∧ wper.pinned 1024 2048 true = false ∧ wpreq.served = false ∧
      wpreq.write = true) ∧
     (wper.sector 1024).answer 0 2048 2056 true false ≠ none ∧
     (wper.sector 1024).answer 0 2064 2056 true false = none ∧
     (wper.gone 1024 wpreq = false ∧ wtok.gone 1024 { wpreq with who := .eng 16 5 } = true) ∧
     ({ wpreq with served := true } : PReq).served = true ∧
     ({ wper with hub := wflip.hub } : State).heldUp 0x10000 2048 (.eng 0 5) = true ∧
     ({ wper with pins := [⟨1024, 2048, .tile 0⟩] } : State).pinned 1024 2048 true = true ∧
     ({ wtok with hints := [(0, ⟨1024, 5⟩)] } : State).hints = [(0, ⟨1024, 5⟩)] ∧
     (wreg.regions.find? (fun r => r.cluster == 0 && r.base == 0 && r.size == 2) = some ⟨0, 0, 2, true, 0⟩ ∧
      wreg.regions.find? (fun r => r.cluster == 0 && r.base == 0 + 2 && r.size == 2) = some ⟨0, 2, 2, true, 0⟩) ∧
     (0 + 16384 ≤ wreg.clusterCyc 0 ∧ ∀ j < 2 * 2, wreg.holdsBulk 0 true (0 + j) = true) ∧
     (wtok.backed (64 * 1024) 64 = true ∧ wtok.backed (128 * 512) 128 = true) ∧
     ({ wtok.sector 1024 with resetting := true } : Sector).resetting = true ∧
     (wtok.errorFree 1024 = true ∧ wtok.errorFree 1025 = true) ∧
     wreg.clusterCyc 0 < ({ cluster := 0, base := 0, size := 2, excl := true, since := 1 } : Region).since + 16384) := 
  ⟨by and_intros <;> decide +kernel,
   by unfold rising; decide +kernel,
   by exact wtok_listed,
   by and_intros <;> decide +kernel⟩

/-- A command of sch.cmd for virtual device 5 in progress, the device not enabled, or enabled with a reservation in slot 1; and the
state in which its descriptor, of these first words, has been read. -/
def resv : Reservation := ⟨1, 1000, 500, 32768, 0, [(0, ⟨500000, 0⟩)]⟩
def wsc (c : Nat) : State := { State.reset with hub := { State.reset.hub with schCmd := some c, vdt := 0x40000 } }
def wscOn (c : Nat) : State := (wsc c).putVdev 5 { VDev.reset with enabled := true, slots := [(1, resv)] }
def wscR (c : Nat) (ws : List Nat) : State := (((wsc c).writeOwn64s 0x40A00 ws).writeOwn64s (0x40A00 + 416) ws).readDesc 5
def rsv : List Nat := [1, 1000 * 2 ^ 32 + 500, 0, 0]

/-- claimSchedulerCommands: each operation, with its refusals and its success. -/
theorem witness_scheduler_commands :
    (((wsc 5).hub.schCmd = some 5) ∧ 5 % 64 = 5 ∧ 5 / 2 ^ 8 % 4 = 0 ∧ 5 / 2 ^ 10 = 0) ∧
    ((wscR 5 [0]).descWord 5 0 % 2 = 0 ∧ (wscR 5 [1]).descWord 5 0 % 2 = 1) ∧
    ((1024 + 5) / 2 ^ 10 = 1 ∧ ((wsc (1024 + 5)).vdev 5).enabled = false ∧ ((wscOn (1024 + 5)).vdev 5).enabled = true) ∧
    ((2048 + 256 + 5) / 2 ^ 10 = 2 ∧ (2048 + 256 + 5) / 2 ^ 8 % 4 = 1 ∧ (2048 + 256 + 5) % 64 = 5) ∧
    ((wsc 5).descSound 5 = true ∧ ((wsc 5).putSector (0x40A00 / 64) { Sector.reset 0 with poison := true }).descSound 5 = false) ∧
    (tabGet? ((wscOn (2048 + 256 + 5)).vdev 5).slots 1).isSome = true ∧
    (tabGet? ((wsc (2048 + 256 + 5)).vdev 5).slots 1).isNone = true ∧
    reservationOf (((wscR (2048 + 256 + 5) []).vdev 5).desc.drop 52) 0 = none ∧
    reservationOf (((wscR (2048 + 256 + 5) rsv).vdev 5).desc.drop 52) 0 = some resv ∧
    64225 < (wscR (2048 + 256 + 5) rsv).utilization 0 + ({ resv with util := 64226 } : Reservation).util ∧
    (List.range 64).all (fun g => !resv.mask.testBit g || decide ((wscR (2048 + 256 + 5) rsv).utilization g + resv.util ≤ 64225)) = true ∧
    ((3072 + 256 + 5) / 2 ^ 10 = 3 ∧ tabGet? ((wscOn (3072 + 256 + 5)).vdev 5).slots 1 = some resv) := by
  decide +kernel

def wedf : State := { wscOn 0 with holders := [(0, 5)], saved := [(savedKey 5 0, ⟨Core.reset 0, false⟩)] }

/-- claimReservationsWellFormed, EarliestDeadlineFirst and claimPeriodsAndBudgets. -/
theorem witness_reservations :
    ((1 * 2 ^ 32 + 1 < 2 ^ 64 ∧ reservationOf [1, 1 * 2 ^ 32 + 1, 0, 0] 999 = some ⟨1, 1, 1, 65535, 0, [(0, ⟨1000, 0⟩)]⟩) ∧
     reservationOf [2 ^ 63, 10000000 * 2 ^ 32 + 1, 0, 0] 1000 = some ⟨2 ^ 63, 10000000, 1, 1, 1000, [(63, ⟨1000, 0⟩)]⟩ ∧
     (reservationOf [1, 10000001 * 2 ^ 32 + 1, 0, 0] 0 = none ∧ reservationOf [1, 1 * 2 ^ 32 + 2, 0, 0] 0 = none) ∧
     wedf.budgetOn 5 0 = some (1, resv)) ∧
    rising wedf.vds ∧
    ((wedf.choice 0 = some 5 ∧ wedf.choice 1 = none) ∧
     (wedf.demand 5 0 = true ∧ (wedf.vdev 5).enabled = true) ∧
     (wedf.time < resv.deadline ∧ resv.deadline ≤ ({ wedf with time := 1000000 } : State).time) ∧
     (resv.mask.testBit 0 = true ∧ tabGet? wedf.holders 0 = some 5) ∧
     ((({ resv with accounts := [(0, ⟨0, 7⟩)] } : Reservation).account 0).remaining = 0 ∧
      (wedf.putVdev 5 { wedf.vdev 5 with slots := [(1, { resv with accounts := [(0, ⟨0, 7⟩)] })] }).budgetOn 5 0 = none) ∧
     resv.mask.testBit 1 = false ∧
     (resv.account 0).remaining ≠ 0) := 
  ⟨by and_intros <;> decide +kernel,
   by unfold rising; decide +kernel,
   by and_intros <;> decide +kernel⟩

/-- Launch records: one that meets every rule of its table, in a state. -/
def goodRec : List Nat := [0x20000, 1024 + 2 ^ 28 + 2 ^ 32, 0, 0, 0, 0, 0, 0]
def launch (state : Nat) (record header : List Nat) : Launch :=
  ⟨0, 0, 0, record, header, 1, false, 0, 0, state, 0, false, 0, false, false, 0, [], [], [], none, 0, 0, 0, none⟩
def wla (l : Launch) : State := { owned (world [] [(0x10000, 8, 0)] id) with
  clusTlb := [(0, [⟨0x10000, 16, 0x10181⟩])], launches := [(7, l)] }
def wring (w : Bool) : State := (wla (launch 1 goodRec [])).putVdev 0 { VDev.reset with enabled := true, rings := [(2, ⟨w, 0x10000, 1, false, 4, 0, 0, 0⟩)] }
def depRec : List Nat := [0x20000, 1024 + 2 ^ 28 + 2 ^ 32, 0, 0x10000, 0, 0, 0, 0]
/-- Two launches that wait on one signal; and a device whose core 0 is idle. -/
def wtwo : State := { wla (launch 1 depRec []) with launches := [(7, launch 1 depRec []), (8, launch 1 depRec [])] }
def wcalm : State := { small (fun c => { c with run := .idle }) with holders := [(0, 0)] }

/-- claimLaunchesJudged and claimLaunchEvents. -/
theorem witness_launches_judged :
    (recordFailure (launch 0 goodRec []) = none ∧
     recordFailure (launch 0 [0x20000, 0, 0, 0, 0, 0, 0, 0] []) ≠ none ∧
     headerFailure (launch 0 goodRec [0, 0, 64, 0x4000, 0, 0, 0, 0]) = none ∧
     headerFailure (launch 0 goodRec [2, 0, 64, 0x4000, 0, 0, 0, 0]) ≠ none ∧
     ((launch 7 goodRec []).state < 8 ∧ 2 ^ 64 - 1 < 2 ^ 64) ∧
     ((wring true).vdev 0).enabled = true ∧
     ((wsc 0).vdev 0).enabled = false ∧
     (tabGet? ((wring false).vdev 0).rings 2 = some ⟨false, 0x10000, 1, false, 4, 0, 0, 0⟩ ∧
      (⟨false, 0x10000, 1, false, 4, 0, 0, 0⟩ : Ring).watched = false) ∧
     (1 : Nat) < 2 ∧
     (tabGet? (wla (launch 1 goodRec [])).launches 7 = some (launch 1 goodRec []) ∧ (launch 1 goodRec []).state = 1) ∧
     ((launch 1 goodRec []).dep0 = false ∧ ({ launch 1 goodRec [] with dep0 := true } : Launch).dep0 = true) ∧
     ((launch 1 goodRec []).word 3 = 0 ∧ (launch 1 depRec []).word 3 = 0x10000) ∧
     (match (wla (launch 1 depRec [])).schedAcc signalTypes (launch 1 depRec []).agent 0x10000 8 .load [rR] false with | .ok _ v => v == 0 | _ => false) = true ∧
     (match ((wla (launch 1 depRec [])).writePa 1 0x10000 8 3).schedAcc signalTypes (launch 1 depRec []).agent 0x10000 8 .load [rR] false with | .ok _ v => v == 3 | _ => false) = true ∧
     ((launch 3 goodRec []).state = 3 ∧ (launch 3 goodRec []).live = [] ∧ (launch 3 goodRec []).failed = none) ∧
     (launch 2 goodRec []).state ≠ 3 ∧
     ({ launch 3 goodRec [] with failed := some (256, 5), clusters := [0] } : Launch).failed = some (256, 5) ∧
     (launch 3 goodRec []).clusters = [] ∧
     (((2 : Nat), (1 : Nat)) ∉ (wring true).hub.tails ∧ [((2 : Nat), (1 : Nat)), (3, 1)].head? = some (2, 1) ∧
      ((3 : Nat), (1 : Nat)) ∈ [((2 : Nat), (1 : Nat)), (3, 1)] ∧ [((2 : Nat), (1 : Nat)), (3, 1)].head? ≠ some (3, 1)) ∧
     ((launch 1 depRec []).word 3 ≠ (launch 1 depRec []).word 4 ∧ (∀ p ∈ (wla (launch 1 depRec [])).launches, p.1 ≠ 7 → p.2.vd ≠ 0))) ∧
    (rising wtwo.launches ∧ wtwo.launches.filter (fun p => p.2.vd == 0 && p.2.state == 1) = [(7, launch 1 depRec []), (8, launch 1 depRec [])]) ∧
    ((wtwo.advanceLaunch 7 [0]).sat (fun u n => n == 0 && tabGet? u.launches 8 == some (launch 1 depRec [])) = true ∧
     [0, 1].filter (fun k => (launch 1 depRec []).word (3 + k) == 0x10000) = [0] ∧
     (wtwo.advanceLaunch 7 [0]).sat (fun u _ => tabGet? u.launches 8 == some (launch 1 depRec []) &&
      (u.advanceLaunch 8 [0]).sat (fun _ _ => true)) = true ∧
     (∀ n ∈ (wla (launch 3 goodRec [])).clusterCores 0, ((wla (launch 3 goodRec [])).core n).lingers = true) ∧
     ((wcalm.core 0).lingers = false ∧ tabGet? wcalm.holders 0 = some 0 ∧ tabGet? (wla (launch 3 goodRec [])).holders 0 ≠ some 0)) := 
  ⟨by and_intros <;> decide +kernel,
   by unfold rising; decide +kernel,
   by and_intros <;> decide +kernel⟩

/-- The bits of granule 16, the page at 0x10000, in the table of hb.base, with the host on a trained port; and a state in which its
first sector's owner token stands at a pinned holder elsewhere. -/
def whb (bits : Nat) : State :=
  ({ State.reset with hub := { State.reset.hub with hbBase := 0x40000, hbSet := true }, ports := [(0, ⟨2, true, true, false⟩)] } : State).writeOwn
    0x40004 1 bits
def wtravel (bits : Nat) : State := { whb bits with
  sectors := (1024, { Sector.reset 0 with home := 1000, homeOwner := false, held := [⟨2048, 24, true, true⟩] }) :: (whb bits).sectors
  pins := [⟨1024, 2048, .tile 0⟩] }

/-- claimHostAccesses: without a link, held up, not exposed, in host bias and in device bias; snoops. -/
theorem witness_host_accesses :
    (((whb 3).backed (64 * 1024) 64 = true ∧ (whb 3).hostLink = true ∧ (whb 3).homeBusy 1024 .host = false ∧ (whb 3).mayCharge 0 5 = true) ∧
     ({ whb 3 with ports := [] } : State).hostLink = false ∧
     ({ whb 3 with hub := { (whb 3).hub with flips := [⟨16, true, false, []⟩] } } : State).homeBusy 1024 .host = true ∧
     ((whb 3).putDie 0 { Die.reset with budgets := Die.reset.budgets.map (fun b => { b with budget := 0 }) }).mayCharge 0 5 = false ∧
     ((whb 0).exposed (64 * 1024) = false ∧ (whb 0).homeBusy 1024 .host = false) ∧
     ((whb 3).exposed (64 * 1024) = true ∧ (whb 3).underHost 1024 = true) ∧
     ((whb 1).exposed (64 * 1024) = true ∧ (whb 1).underHost 1024 = false) ∧
     (({ whb 3 with hub := { (whb 3).hub with flips := [⟨16, true, false, [1024]⟩] } } : State).underHost 1024 = false ∧
      ({ whb 3 with hub := { (whb 3).hub with flips := [⟨16, true, false, [1024]⟩] } } : State).homeBusy 1024 .host = false) ∧
     (((whb 1).charge 0 5).homeObtain 1024 false .host).sat (fun _ v => v == 0) = true ∧
     (((whb 3).charge 0 5).homeObtain 1024 true .host).sat (fun _ v => v == 0) = true ∧
     (match ((wtravel 1).charge 0 5).homeObtain 1024 false .host with | .wait _ => true | _ => false) = true ∧
     (match ((wtravel 3).charge 0 5).homeObtain 1024 true .host with | .wait _ => true | _ => false) = true ∧
     (((whb 3).charge 0 5).recallOwner 1024).any (fun t => t.errorFree 1024 && !(t.sector 1024).resetting &&
      (t.sector 1024).host != .x) = true ∧
     ((((whb 3).setHost 1024 .x).charge 0 5).recallOwner 1024).any (fun t => t.errorFree 1024 && !(t.sector 1024).resetting &&
      (t.sector 1024).host == .x) = true ∧
     (((wtravel 3).charge 0 5).recallOwner 1024).isNone = true ∧
     (63 < 64 ∧ (2 ^ 63 : Nat).testBit 63 = true)) ∧
    rising [((8 : Nat), (⟨[2048], true⟩ : HostLine))] ∧
    (tabGet? [((8 : Nat), (⟨[2048], true⟩ : HostLine))] 8 = some ⟨[2048], true⟩ ∧
      tabGet? [((8 : Nat), (⟨[2048], true⟩ : HostLine))] 9 = none) := 
  ⟨by and_intros <;> decide +kernel,
   by unfold rising; decide +kernel,
   by decide +kernel⟩

def wmig : State := (whb 1).putDie 0 { Die.reset with migs := [⟨0x50000, 1, 9, 1, 1, 0x10000, false, 1, none, false⟩] }
/-- The page is the incoming frame of another device's migration. -/
def win : State := { whb 1 with incomingFrames := [(1, 1)] }

/-- claimPeerAccesses. -/
theorem witness_peer_accesses :
    ((8 : Nat) = 1 ∨ (8 : Nat) = 2 ∨ (8 : Nat) = 4 ∨ (8 : Nat) = 8) ∧
    ((1 : Nat) ≤ 1 ∧ ((64 : Nat) = 16 ∨ (64 : Nat) = 32 ∨ (64 : Nat) = 64)) ∧
    ((14 : Nat) ≤ 14 ∧ (1 : Nat) ≠ 14) ∧
    ((whb 1).portUp 0 = true ∧ (whb 1).portUp 1 = false) ∧
    ((whb 1).backed 0x10008 8 = true ∧ 0x10008 % 8 = 0 ∧ (whb 1).turnsAway 0x10008 (agentHome (homeDie 0x10008)) (.peer 0) = false) ∧
    ((whb 1).backed (2 ^ 40) 8 = false ∧ 0x10004 % 8 ≠ 0) ∧
    (wmig.backed 0x10008 8 = true ∧ wmig.turnsAway 0x10008 (agentHome (homeDie 0x10008)) (.peer 0) = true) ∧
    ((whb 1).drives 0 8 0x10008 = none ∧ (whb 1).homeBusy (0x10008 / 64) (.peer 0) = false) ∧
    ({ whb 1 with hub := { (whb 1).hub with flips := [⟨16, true, false, []⟩] } } : State).homeBusy (0x10008 / 64) (.peer 0) = true ∧
    (win.drives 1 64 0x10000 = some 1 ∧ (win.sector 1024).resetting = false ∧ win.portUp 0 = true ∧ win.backed 0x10000 64 = true ∧
      win.turnsAway 0x10000 (agentHome (homeDie 0x10000)) (.peer 0) = false) ∧
    (win.putSector 1024 { Sector.reset 0 with resetting := true }).homeBusy 1024 (.peer 0) = true ∧
    ((whb 0).exposed 0x10008 = false ∧ (whb 1).exposed 0x10008 = true) ∧
    ((whb 1).homeObtain (0x10008 / 64) true (.peer 0)).sat (fun t v => v == 0 && !(t.sector (0x10008 / 64)).poison) = true ∧
    (((whb 1).putSector 1024 { Sector.reset 0 with poison := true }).homeObtain 1024 false (.peer 0)).sat (fun t v => v == 0 &&
      (t.sector 1024).poison) = true ∧
    (match (wtravel 1).homeObtain 1024 true (.peer 0) with | .wait _ => true | _ => false) = true ∧
    (win.homeObtain 1024 true (.peer 0)).sat (fun _ v => v == 0) = true ∧
    ((whb 1).homeObtain (0x10008 / 64) true (.peer 0)).sat (fun t v => v == 0 && !(t.sector (0x10008 / 64)).poison &&
      ((peerOp 2 5 0).result 8 (t.readOwn 0x10008 8)).isSome) = true ∧
    ((peerOp 2 5 0).result 8 3).isSome = true ∧
    (List.range 14).any (fun op => ((peerOp op 5 7).result 8 3).isNone) = true := by
  decide +kernel

def wto : State := small (fun c => { c with out := [⟨0x70000, 2 ^ 41, 8, .store 5, 5⟩], wait := .stall })
/-- The access is one of a posted store that a core holds. -/
def wpost1 : List Posted := [{ va := 0x70000, pa := 2 ^ 41, n := 8, value := 5, key := 1, ty := 2, moves := 0 }]
def wto6 (w : Wait) (ps : List Posted) : State :=
  small (fun c => { c with out := [⟨0x70000, 2 ^ 41, 8, .store 5, 6⟩], wait := w, posted := ps })

/-- claimFabricTimeouts. -/
theorem witness_fabric_timeouts :
    (wto.works 0 = true ∧ (wto.core 0).out = [⟨0x70000, 2 ^ 41, 8, .store 5, 5⟩]) ∧
    ((⟨0x70000, 2 ^ 41, 8, .store 5, 5⟩ : OutWait).op.result 8 0).isSome = true ∧
    ((⟨0x70000, 2 ^ 41, 8, .cas 5 6, 5⟩ : OutWait).op.result 8 0).isNone = true ∧
    (wto.core 0).wait = .stall ∧
    ((⟨0x70000, 2 ^ 41, 8, .store 5, 5⟩ : OutWait).eng = 5 ∧ (⟨0x70000, 2 ^ 41, 8, .store 5, 1⟩ : OutWait).eng ≠ 5) ∧
    ((Core.reset 0).eng 1).running = none ∧
    (Core.reset 0).wait ≠ .stall ∧
    ((wto6 .none []).works 0 = true ∧ ((wto6 .none []).core 0).out = [⟨0x70000, 2 ^ 41, 8, .store 5, 6⟩]) ∧
    (((wto6 (.stitch 3 10 0) wpost1).core 0).posted ≠ [] ∧ (((wto6 (.stitch 3 10 0) wpost1).core 0).outDone 6).takesPosted = false ∧
      ((wto6 (.stitch 3 10 0) wpost1).core 0).settling = false) ∧
    (((wto6 .none wpost1).core 0).outDone 6).takesPosted = true ∧
    ({ (wto6 .none wpost1).core 0 with run := .stopped, stop := none } : Core).settling = true ∧
    ((⟨0, 2 ^ 44 - 1, 1, .load, 5⟩ : OutWait).pa < 2 ^ 44 ∧ ¬ (⟨0, 2 ^ 44, 1, .load, 5⟩ : OutWait).pa < 2 ^ 44) := by
  decide +kernel

def wfl : State := let s := whb 3; { s with hub := { s.hub with flips := [⟨16, true, false, []⟩] } }
def wflBusy : State := let s := wtravel 3; { s with hub := { s.hub with flips := [⟨16, true, false, []⟩] } }

/-- BiasFlips: full, not set up, each start, and the ends. -/
theorem witness_bias_flips :
    8 ≤ ({ (whb 3).hub with flips := List.replicate 8 ⟨16, true, false, []⟩ } : Hub).flips.length ∧
    ((whb 3).hub.flips.length < 8 ∧ (whb 3).hub.hbSet = true ∧ (whb 3).backed (16 * 4096) 4096 = true) ∧
    (State.reset.hub.flips.length < 8 ∧ State.reset.hub.hbSet = false) ∧
    (whb 3).backed (2 ^ 28 * 4096) 4096 = false ∧
    ((whb 3).exposed (16 * 4096) = true ∧ (whb 3).hostBias (16 * 4096) = true) ∧
    ((whb 0).exposed (16 * 4096) = false ∧ (whb 2).hostBias (16 * 4096) = true) ∧
    wfl.hub.flips.find? (fun x => x.gran == 16) = some ⟨16, true, false, []⟩ ∧
    let left := (granSectors 16).filter (fun k => !([] : List Nat).contains k); left.length ≤ (wfl.recallAll (.unit 0) left).2.length ∧
    let left := (granSectors 16).filter (fun k => !([] : List Nat).contains k); (wflBusy.recallAll (.unit 0) left).2.length < left.length ∧
    (⟨16, false, true, []⟩ : Flip).toHost = false ∧
    (whb 3).hub.flips.find? (fun x => x.gran == 16) = none ∧
    ((whb 3).mem.wf = true ∧ (17 : Nat) ≠ 16) := by
  decide +kernel

def wmg (ws cmds : List Nat) : State := (State.reset.putDie 0 { Die.reset with migCmds := cmds }).writeOwn64s 0x50000 ws

/-- claimMigrationCommands. -/
theorem witness_migration_commands :
    (0 < 4 ∧ 0x50000 % 64 = 0) ∧
    ((wmg [0, 0x10000, 0x20000, 0, 0, 0, 0, 0] [0x50000]).die 0).migCmds = [0x50000] ∧
    16 ≤ (List.replicate 16 (⟨0x50000, 1, 9, 1, 1, 0, false, 1, none, false⟩ : Migration)).length ∧
    (((wmg [0, 0x10000, 0x20000, 0, 0, 0, 0, 0] [0x50000]).die 0).migs.length < 16 ∧
      (wmg [0, 0x10000, 0x20000, 0, 0, 0, 0, 0] [0x50000]).backed 0x50000 64 = true ∧ State.reset.backed (2 ^ 40) 64 = false) ∧
    (wmg [0, 0x10000, 0x20000, 0, 0, 0, 0, 0] [0x50000]).migBad 0 0x50000 = false ∧
    (wmg [1, 0x10000, 0x20000, 0, 0, 0, 0, 0] []).migBad 0 0x50000 = true ∧
    ((0x50000 + 1) :: [] : List Nat) = [0x50001] ∧
    ([⟨0x50000, 1, 9, 1, 1, 0, false, 4, none, false⟩] : List Migration).find? (fun m => m.desc == 0x50000) = some ⟨0x50000, 1, 9, 1, 1, 0, false, 4, none, false⟩ ∧
    (∀ m ∈ (wmig.die 0).migs, m.desc = 0x50000 → m.state ≠ 4 ∧ m.state ≠ 6) ∧
    (State.reset.mem.wf = true ∧ 7 < 8 ∧ 511 < 512) ∧
    (State.reset.frameBacked 1 = true ∧ tabGet? State.reset.incomingFrames 1 = none) ∧
    (wmg [] [0x50000]).sound (0x50000 / 64) = true ∧
    ((wmg [] [0x50000]).putSector (0x50000 / 64) { Sector.reset 0 with poison := true }).sound (0x50000 / 64) = false ∧
    (State.reset.die 0).migCmds.head? ≠ some 0x50000 := by
  decide +kernel

def wmc0 : Migration := ⟨0x50000, 1, 9, 1, 1, 0x10000, false, 1, none, false⟩
/-- A migration of frame 1 to frame 9 of die 0, some sectors being given. -/
def wmcWith (sectors : Table Sector) : State :=
  { State.reset.putDie 0 { State.reset.die 0 with migs := [wmc0] } with sectors := sectors, pins := [⟨1024, 2048, .tile 0⟩, ⟨9216, 2048, .tile 0⟩] }
def wmc : State := wmcWith []
/-- Its first sector has tokens at a pinned holder, and the home's request stands in its table; or it is being reset. -/
def wmcBusy : State := wmcWith [(1024, { Sector.reset 0 with home := 1000, held := [⟨2048, 24, false, true⟩], fifo := [⟨0, true, .unit 0, false⟩] })]
def wmcNew : State := wmcWith [(9216, { Sector.reset 0 with home := 1000, held := [⟨2048, 24, false, true⟩], fifo := [⟨0, true, .unit 0, false⟩] })]
def wmcReset : State := wmcWith [(1024, { Sector.reset 0 with resetting := true })]

theorem recallAll_each (s : State) (who : Asker) (ok : Nat → Bool) : ∀ ks : List Nat, (∀ k ∈ ks, s.recall k who = (s, ok k)) →
    s.recallAll who ks = (s, ks.filter ok)
  | [], _ => rfl
  | k :: ks, h => by
    have h1 := recallAll_each s who ok ks fun k hk => h k (List.mem_cons_of_mem _ hk)
    rw [State.recallAll, h k List.mem_cons_self]
    simp only [h1, List.filter_cons]

theorem frame_recall (sectors : Table Sector) (b k : Nat) (h : k ∈ (List.range 1024).map (fun i => 1024 * b + i)) (hb : b < 16)
    (hk : tabGet? sectors k = none) : (wmcWith sectors).recall k (.unit 0) = (wmcWith sectors, true) := by
  obtain ⟨i, hr, rfl⟩ := List.mem_map.1 h
  have hi := List.mem_range.1 hr
  have h0 : homeDie (64 * (1024 * b + i)) = 0 := by unfold homeDie; omega
  have h1 : homeDie (128 * lineOf (1024 * b + i)) = 0 := by unfold homeDie lineOf; omega
  have hs : (wmcWith sectors).sector (1024 * b + i) = Sector.reset 0 := by
    simp only [State.sector, wmcWith, tabGet, hk, h0]; rfl
  have hp : (Sector.reset 0).planWrite 0 0 = some [] := by decide
  have hw : ((wmcWith sectors).die 0).l2.swatchOf (lineOf (1024 * b + i)) = none := rfl
  have hh : (wmcWith sectors).hostBias (64 * (1024 * b + i)) = false := rfl
  have hm : (wmcWith sectors).meetSwatch (lineOf (1024 * b + i)) = wmcWith sectors := by
    unfold State.meetSwatch; simp only [h1, hw]
  have he : tabGet? (wmcWith sectors).hbmErr (1024 * b + i) = none := rfl
  have hl : ((wmcWith sectors).die (homeDie (128 * lineOf (1024 * b + i)))).l2 = Die.reset.l2 := by rw [h1]; rfl
  have hcr (w : Bool) : (wmcWith sectors).cramped (lineOf (1024 * b + i)) w = false := by
    simp only [State.cramped, hl]
    simp [State.roomy, L2.makeRoom, Die.reset, swatchMax]
  have hd : (wmcWith sectors).deferred (1024 * b + i) 0 (.unit 0) true [] = false := by
    have hfl : (wmcWith sectors).inFlight (1024 * b + i) = false := rfl
    simp only [State.deferred, hs, hcr, hfl]; simp [Sector.reset]
  have hot : (wmcWith sectors).othersTurn (1024 * b + i) 0 (.unit 0) = false := by simp [State.othersTurn, hs, Sector.reset]
  have hc1 : (Sector.reset 0).host = .i := rfl
  have ho : agentHome 0 = 0 := rfl
  have hx : (Sector.reset 0).homeOwner = true := rfl
  have hz : (Sector.reset 0).resetting = false := rfl
  have hf : (Sector.reset 0).fifo = [] := rfl
  have hc : ((Sector.reset 0).holding 0 0).count = 1024 := by decide
  have hmk : (wmcWith sectors).makeSlot 0 (lineOf (1024 * b + i)) (.unit 0) = some (wmcWith sectors) := rfl
  have hreq : (wmcWith sectors).reqs = [] := rfl
  simp [State.recall, State.obtainAt, State.settleHost, State.tokPlan, State.meetHbm, State.collect, State.answered, State.moveToks,
    readsHome, hs, h0, hp, hh, hm, he, hd, hc1, ho, hx, hz, hf, hc, hmk, hreq, hot]
  rfl

theorem wmc_recall (b : Nat) (hb : b < 16 := by decide) : wmc.recallAll (.unit 0) ((List.range 1024).map (fun i => 1024 * b + i)) =
    (wmc, (List.range 1024).map (fun i => 1024 * b + i)) := by
  rw [recallAll_each wmc (.unit 0) (fun _ => true) _ fun k hk => frame_recall [] b k hk hb rfl, List.filter_eq_self.2 fun _ _ => rfl]

theorem wmcBusy_first : wmcBusy.recall 1024 (.unit 0) = (wmcBusy, false) := by decide +kernel
theorem wmcNew_first : wmcNew.recall 9216 (.unit 0) = (wmcNew, false) := by decide +kernel
theorem wmcReset_first : wmcReset.recall 1024 (.unit 0) = (wmcReset, false) := by decide +kernel

theorem wmcHeld_recall (b : Nat) (x : Sector) (h : (wmcWith [(1024 * b, x)]).recall (1024 * b) (.unit 0) = (wmcWith [(1024 * b, x)], false))
    (hb : b < 16 := by decide) :
    ∃ ks, (wmcWith [(1024 * b, x)]).recallAll (.unit 0) ((List.range 1024).map (fun i => 1024 * b + i)) = (wmcWith [(1024 * b, x)], ks) ∧
      ks.length < 1024 := by
  refine ⟨_, recallAll_each _ _ (fun k => k != 1024 * b) _ fun k hk => ?_, ?_⟩
  · by_cases hk' : k = 1024 * b
    · subst hk'; simpa using h
    · rw [frame_recall [(1024 * b, x)] b k hk hb (by simp [tabGet?, hk'])]
      simp [hk']
  · refine Nat.lt_of_lt_of_le (List.length_filter_lt_length_iff_exists.2 ⟨1024 * b, List.mem_map.2 ⟨0, by simp, rfl⟩, by simp⟩) ?_
    simp

/-- claimMigrationPhases: phase 1 with every token at home, with one kept elsewhere, and with a sector being reset; phase 2 within and beyond the budget, and of each answer of a target device; phases 3 and 4. -/
theorem witness_migration_phases :
    (((wmc.die 0).migs.find? (fun m => m.desc == 0x50000) = some wmc0 ∧ wmc0.state = 1) ∧
     wmc.mayCharge 0 4 = true) ∧
    (∃ ks, wmc.recallAll (.unit 0) ((List.range 1024).map (fun i => 1024 * wmc0.old + i)) = (wmc, ks) ∧ 1024 ≤ ks.length ∧
      ∀ k ∈ (List.range 1024).map (fun i => 1024 * wmc0.old + i), (wmc.sector k).resetting = false) ∧
    (∃ ks, wmc.recallAll (.unit 0) ((List.range 1024).map (fun i => 1024 * wmc0.new + i)) = (wmc, ks) ∧ 1024 ≤ ks.length) ∧
    (∃ ks, wmcNew.recallAll (.unit 0) ((List.range 1024).map (fun i => 1024 * wmc0.new + i)) = (wmcNew, ks) ∧ ks.length < 1024) ∧
    ((wmcNew.sector 9216).resetting = false ∧ ((wmcWith [(9216, { Sector.reset 0 with resetting := true })]).sector 9216).resetting = true) ∧
    (∃ ks, wmcBusy.recallAll (.unit 0) ((List.range 1024).map (fun i => 1024 * wmc0.old + i)) = (wmcBusy, ks) ∧ ks.length < 1024) ∧
    (∃ ks, wmcReset.recallAll (.unit 0) ((List.range 1024).map (fun i => 1024 * wmc0.old + i)) = (wmcReset, ks) ∧ ks.length < 1024) ∧
    ((wmcReset.sector 1024).resetting = true ∧
     (wmcBusy.sector 1024).resetting = false ∧
     (({ wmc0 with state := 2 } : Migration).copied = false ∧ ({ wmc0 with copied := true } : Migration).copied = true) ∧
     (({ wmc0 with state := 3 } : Migration).state = 3 ∧ wmc0.round = none) ∧
     ({ wmc0 with state := 3, round := some 0 } : Migration).round ≠ none ∧
     ({ State.reset with dies := [(0, { Die.reset with budgets := Die.reset.budgets.map (fun b => { b with used := 65535 }) })] } : State).mayCharge 0 4 = false ∧
     (1023 < 1024 ∧ wmc0.xdev = false ∧ wmc0.newKey ≠ 0xFF ∧ wmc.mem.wf = true) ∧
     (23 < (⟨31 * 2 ^ 40, 0, 0, 0⟩ : Window).port ∧ (⟨0, 0, 0, 0⟩ : Window).port ≤ 23) ∧
     (State.reset).targetAnswer ⟨0, 0, 0, 0⟩ = .silent ∧
     (whb 3).targetAnswer ⟨0, 0, 0, 0⟩ = .serves ∧
     ({ whb 3 with extAns := [(0, .refuses)] } : State).targetAnswer ⟨0, 0, 0, 0⟩ = .refuses ∧
     ({ wmc0 with xdev := true } : Migration).xdev = true) := 
  ⟨by and_intros <;> decide +kernel,
   by exact ⟨_, wmc_recall 1, by simp, fun k _ => rfl⟩,
   by exact ⟨_, wmc_recall 9, by simp⟩,
   by exact wmcHeld_recall 9 _ wmcNew_first,
   by decide +kernel,
   by exact wmcHeld_recall 1 _ wmcBusy_first,
   by exact wmcHeld_recall 1 _ wmcReset_first,
   by and_intros <;> decide +kernel⟩

/-- claimLinksAndPorts. -/
theorem witness_ports :
    (23 < 24 ∧
     ((2 : Nat) = 2 ∧ true = true) ∧
     ((1 : Nat) = 1 ∧ false = false) ∧
     (¬ ((2 : Nat) = 2 ∧ false = true ∨ (2 : Nat) = 1 ∧ false = false))) ∧
    rising State.reset.ports ∧
    ((33 < 34 ∧ 34 ≤ 34) ∧
     2 ≤ (([(0, ⟨2, true, true, false⟩), (1, ⟨2, true, true, false⟩)] : Table Port).filter (fun p => p.1 != 5 && p.2.host &&
      !p.2.down)).length) := 
  ⟨by and_intros <;> decide +kernel,
   by unfold rising; decide +kernel,
   by and_intros <;> decide +kernel⟩

def wboot (fails : Nat) (fuses : List Nat) : State := { State.reset with boot := { State.reset.boot with step := 0, going := false, flashFails := fails, fuses := fuses } }
def wdisc (found : Table (Nat × Nat × Nat)) : State := { State.reset with boot := { State.reset.boot with step := 4, going := true, found := found, imaged := [] } }
def everySite : Table (Nat × Nat × Nat) := (List.range' 0 4096).map (fun t => (t, 0, 0, 0))
theorem everySite_get (n a t : Nat) : a ≤ t → tabGet? ((List.range' a n).map (fun t => (t, ((0, 0, 0) : Nat × Nat × Nat)))) t = if t < a + n then some (0, 0, 0) else none := by
  induction n generalizing a with
  | zero => intro h; simp [tabGet?]; omega
  | succ n ih =>
    intro h
    simp only [List.range'_succ, List.map_cons, tabGet?]
    by_cases h1 : t = a
    · subst h1; simp
    · rw [if_neg (by omega), if_neg h1, ih (a + 1) (by omega)]
      simp [Nat.add_assoc, Nat.add_comm 1]
theorem everySite_found : ∀ d < 4,
    (((List.range 4096).filter (fun t => !(wdisc everySite).isFound t)).filter (fun t => t / 1024 == d)).length ≤ 24 := by
  have h : (List.range 4096).filter (fun t => !(wdisc everySite).isFound t) = [] := by
    refine List.filter_eq_nil_iff.2 fun t ht => ?_
    have h1 := everySite_get 4096 0 t (Nat.zero_le t)
    rw [if_pos (by simpa using List.mem_range.1 ht)] at h1
    simp [State.isFound, wdisc, everySite, h1]
  intro d _
  rw [h]
  simp

/-- claimColdStartAndDiscovery. -/
theorem witness_cold_start :
    (((wboot 0 []).started = false ∧ (wboot 0 []).boot.going = false) ∧
     State.reset.started = true ∧
     (3 ≤ (wboot 3 []).boot.flashFails ∧ (wboot 3 []).boot.recov = false) ∧
     (wboot 2 []).boot.flashFails < 3 ∧
     ((wboot 0 []).boot.verifies (wboot 0 []).boot.firmware = true ∧ (wboot 0 []).boot.verifies { (wboot 0 []).boot.firmware with signed := false } = false) ∧
     firstSite State.reset.boot.fuses 3 = some 3072 ∧
     ((wdisc [(0, 0, 0, 0)]).boot.going = true ∧ (wdisc [(0, 0, 0, 0)]).boot.step = 4) ∧
     (tabGet? (wdisc [(0, 0, 0, 0)]).boot.found 0 = some (siteX 0, siteY 0, 0) ∧ (0 : Nat) < 4096) ∧
     ((neighbours 0).contains 32 = true ∧ (wdisc [(0, 0, 0, 0)]).boot.fuses.contains 32 = false ∧
      tabGet? (wdisc [(0, 0, 0, 0)]).boot.found 32 = none) ∧
     (neighbours 31).contains 32 = false ∧
     (24 < ((List.range 4096).filter (fun t => !(wdisc []).isFound t)).length ∧
      (((List.range 4096).filter (fun t => !(wdisc []).isFound t)).filter (fun t => t / 1024 == 0)).length = 1024)) ∧
    (∀ d < 4, (((List.range 4096).filter (fun t => !(wdisc everySite).isFound t)).filter (fun t => t / 1024 == d)).length ≤ 24) := 
  ⟨by and_intros <;> decide +kernel,
   by exact everySite_found⟩

def wimg (imaged : List Nat) : State := { State.reset with boot := { State.reset.boot with step := 6, going := true, imaged := imaged } }
/-- Every site but the first absent, which the boot image has not yet reached. -/
def wimgLast : State := { wimg [] with fused := List.range' 1 4095 }

/-- claimImageAndStartsThatFail. -/
theorem witness_images :
    ((wimg [0]).boot.going = true ∧ (wimg [0]).boot.step = 6 ∧ (wimg [0]).present 1 = true ∧ (wimg [0]).boot.imaged.contains 1 = false) ∧
    ((wimg []).parent 0 = 0 ∧ (wimg [0]).boot.imaged.contains ((wimg [0]).parent 1) = true) ∧
    (wimg [0]).boot.imaged.length + 1 + (wimg [0]).fused.length ≠ 4096 ∧
    ((wimgLast.boot.imaged.length + 1 + wimgLast.fused.length = 4096) ∧ wimgLast.present 0 = true) ∧
    ((wboot 0 []).boot.going = false ∧ (wboot 0 []).started = false ∧ 1 ≤ 4 ∧ 4 ≤ 4) ∧
    ((wimg []).boot.imaged = [] ∧ (wimg []).boot.warm = false ∧ 3 < 4) ∧
    (State.reset.started = true ∧ State.reset.boot.going = false) ∧
    (16383 : Nat) < 16384 := by
  decide +kernel

/-- claimWarmStartAndPowerLoss. -/
theorem witness_warm_start :
    (State.reset.started = true ∧ State.reset.boot.going = false ∧ State.reset.scrubDone = true) ∧
    ((wboot 0 []).started = false ∧ (wboot 0 []).boot.recov = false) ∧
    tabGet? wg.sectors 1024 ≠ none ∧
    (({ State.reset.boot with map := none } : Boot).map = none ∧ ({ State.reset.boot with map := some [5] } : Boot).map = some [5]) ∧
    (({ wboot 3 [] with boot := { (wboot 3 []).boot with recov := true } } : State).boot.recov = true ∧
      ({ wboot 3 [] with boot := { (wboot 3 []).boot with recov := true } } : State).boot.going = false) := by
  decide +kernel

def wks (c : Nat) : State := { State.reset with hub := { State.reset.hub with keySlots := [(1, 1)], ksCmd := some c } }

/-- claimKeySlotsAndSignatures. -/
theorem witness_key_slots :
    (254 < 256 ∧ (wks 254).hub.ksCmd = some 254 ∧ tabGet (wks 254).hub.keySlots 254 0 = 0 ∧ (254 : Nat) ≠ 255) ∧
    (wks 255).hub.ksCmd = some 255 ∧
    (tabGet (wks 1).hub.keySlots 1 0 = 1 ∧ (wks 1).hub.ksCmd = some 1) ∧
    ((wks (256 + 1)).hub.ksCmd = some (256 + 1) ∧ tabGet (wks (256 + 1)).hub.keySlots 1 0 = 1) ∧
    ((wks (256 + 255)).hub.ksCmd = some (256 + 255) ∧ tabGet (wks (256 + 2)).hub.keySlots 2 0 ≠ 1) ∧
    State.reset.hub.ksCmd ≠ some 1 ∧
    (State.reset.started = true ∧ State.reset.boot.sigIndex < 2 ^ 20) ∧
    2 ^ 20 ≤ ({ State.reset.boot with sigIndex := 2 ^ 20 } : Boot).sigIndex := by
  decide +kernel

/-- claimRegistersWrittenAndRead. -/
theorem witness_device_registers :
    ((2 ^ 40 + 65536 + 0x1420) / 2 ^ 40 = 1 ∧ (2 ^ 40 + 65536 + 0x1420) % 8 = 0) ∧
    (2 ^ 41 : Nat) / 2 ^ 40 ≠ 1 ∧
    (2 ^ 40 + 4) % 8 ≠ 0 ∧
    (3 < 4 ∧ 3 < 4 ∧ (State.reset.gov 15).cls.length = 4) ∧
    ((0x1408, 0xFFFFFFFFFFFFFFF8) : Nat × BitVec 64) ∈ ([(0, 0x0000FFFFFFFFF000), (0x1408, 0xFFFFFFFFFFFFFFF8)] : List (Nat × BitVec 64)) ∧
    (16 ≤ 255 ∧ 255 < 256 ∧ 0x2000 + 32 * 255 = 16352) ∧
    (20 < (2 ^ 40 + 65536 * 21) % 2 ^ 40 / 65536 ∧ (2 ^ 40 + 65536 * 21) / 2 ^ 40 = 1) := by
  decide +kernel

/-- A trace unit of two pages, stopped after the first, whose list at 0x30000 gives the page at 0x10000 as its second. -/
def tstop : TraceUnit := { TraceUnit.reset with ctl := 0xFF01, npg := 2, list := 0x30000, stopped := some 1, gap := 3 }
def wtr (t : TraceUnit) : State :=
  let s : State := { State.reset with
    hub := { State.reset.hub with keySlots := [(1, 1)] }
    dies := [(0, { Die.reset with tr := t, walk := [⟨2, 0, 0x80001⟩] })] }
  ((s.writePa 1 0x80008 8 0x20181).writePa 1 0x80018 8 0x30181).writePa 1 0x30008 8 0x10000
/-- A die that is gated, with a trace unit. -/
def wgate (t : TraceUnit) : Die := { Die.reset with gated := some 5, tr := t }
def wtrNone : State := (wtr tstop).writePa 1 0x30008 8 0x40000

/-- TraceUnits. -/
theorem witness_trace :
    (3 < 4 ∧ (State.reset.die 3).tr.en = false ∧ (State.reset.die 3).tr.npg = 0) ∧
    (((wtr { TraceUnit.reset with npg := 2 }).die 0).tr.en = false ∧ ((wtr { TraceUnit.reset with npg := 2 }).die 0).tr.npg ≠ 0) ∧
    (((wtr tstop).die 0).tr.en = true ∧ ((wtr tstop).die 0).tr.stopped = some 1) ∧
    TraceUnit.reset.stopped = none ∧
    (match wtrNone.tracePage 0 1 with | (_, none) => true | _ => false) = true ∧
    (wtr tstop).tracing 0 = true ∧
    (match wtrNone.traceFind 0 (tstop.following 1) with | (_, none) => true | _ => false) = true ∧
    (match (wtr tstop).traceFind 0 (tstop.following 1) with | (s1, some (i, p)) => i == 1 && p == ⟨0x10000, 0x20000, 1, false⟩ && (s1.traceWrite 0 p.key p.pa [11 * 2 ^ 58, 0, 2 ^ 12, tstop.gap]).2 | _ => false) = true ∧
    (((wtr tstop).putDie 0 { (wtr tstop).die 0 with budgets := Die.reset.budgets.map (fun b => { b with used := 65535 }) }).traceWrite 0 1 0x20000 []).2 = false ∧
    (tstop.full = false ∧ tstop.buf.length < 128) ∧
    128 ≤ ({ tstop with buf := List.replicate 128 [] } : TraceUnit).buf.length ∧
    (State.reset.started = true ∧ (State.reset.die 0).gated = none) ∧
    ((wgate { TraceUnit.reset with npg := 2 }).gated ≠ none ∧ (wgate { TraceUnit.reset with npg := 2 }).tr.en = false) ∧
    ((wgate { TraceUnit.reset with ctl := 0xFF01 }).tr.en = true ∧ (wgate { TraceUnit.reset with ctl := 0xFF01 }).tr.buf = [] ∧
      (wgate { TraceUnit.reset with ctl := 0xFF01 }).tr.open_ = none ∧ (wgate { TraceUnit.reset with ctl := 0xFF01 }).tr.stopped = none ∧
      (wgate { TraceUnit.reset with ctl := 0xFF01 }).tr.full = false) ∧
    ((wgate tstop).tr.en = true ∧ (wgate tstop).tr.stopped ≠ none ∧ (wgate tstop).tr.full = false ∧ (wgate tstop).tr.buf.length < 128) ∧
    (match (wtr tstop).tracePage 0 1 with | (_, some p) => p == ⟨0x10000, 0x20000, 1, false⟩ | _ => false) = true ∧
    ({ Die.reset with gated := some 5 } : Die).gated ≠ none ∧
    ({ die := 0, kind := 1, scope := 2, count := 0, ss := 0, from_ := 0, pa := 0, target := 0, key := 0, owner := 0, core := none, arg := 0 } : TraceEv).die = 0 := by
  decide +kernel

def wdt0 : State := small (fun c => { c with dbl := true, sp := { c.sp with psw := 0 } })

/-- claimDoubleTrapsHandled. -/
theorem witness_double_traps :
    (wdt0.works 0 = true ∧ (wdt0.core 0).dbl = true ∧ (wdt0.core 0).mode ≠ 3 ∧ (wdt0.core 0).tag = none ∧ (wdt0.core 0).settledWork = true) ∧
    ({ wdt0.core 0 with posted := [{ va := 0x20000, pa := 0x20000, n := 8, value := 7, key := 1, ty := 1, moves := 0 }] } : Core).settledWork = false ∧
    (wdt0.mxArriving 0 = false ∧ (wsecs (mxRun 0 0 dLoad)).mxArriving 0 = true) ∧
    (State.reset.core 0).dbl = false ∧
    ({ Core.reset 0 with dbl := true } : Core).mode = 3 ∧
    ({ wdt0.core 0 with tag := some 4 } : Core).tag = some 4 ∧
    tabGet? (wla (launch 3 goodRec [])).launches 7 = some (launch 3 goodRec []) := by
  decide +kernel

/-- Device 0 holds region 0 with a launch on cluster 0 whose cores have stopped; and the context of site 0 saved, its core idle. -/
def wctxRun : State := { wla { launch 3 goodRec [] with clusters := [0], cores := [0] } with holders := [(0, 0)], vds := [(0, { VDev.reset with desc := [1, 0x200000] })] }
def wctx : State := { wctxRun with cores := (regionSites 0).map (fun t => (t, { Core.reset 0 with run := .stopped, stop := some ⟨cPREEMPT, true, false, false, 0, none⟩ })) }
def wctxNo : State := { wctx with vds := [(0, { VDev.reset with desc := [1, 2 ^ 45] })] }
def wres : State := { State.reset with
  holders := [(0, 0)], cores := [(0, { Core.reset 0 with run := .idle })]
  vds := [(0, { VDev.reset with desc := [1, 0x200000] })], saved := [(savedKey 0 0, ⟨Core.reset 0, false⟩)] }
def wresP : State := wres.putSector (0x200000 / 64) { Sector.reset 0 with poison := true }

/-- claimContextsSavedAndRestored. -/
theorem witness_contexts :
    (State.reset.deviceSites 0 0 = [] ∧
     wctx.deviceSites 0 0 ≠ [] ∧
     (∀ t ∈ wctx.deviceSites 0 0, (wctx.core t).run = .stopped ∧ (wctx.core t).stop ≠ none) ∧
     wctx.backed (wctx.siteRecord 0 0) 64 = true ∧
     ((∃ t ∈ wctxRun.deviceSites 0 0, (wctxRun.core t).run ≠ .stopped ∨ (wctxRun.core t).stop = none)) ∧
     wctxNo.backed (wctxNo.siteRecord 0 0) 64 = false) ∧
    rising wctx.holders ∧
    (wres.works 0 = true ∧ tabGet? wres.holders (siteRegion 0) = some 0 ∧ tabGet? wres.saved (savedKey 0 0) = some ⟨(Core.reset 0), false⟩ ∧
      rising wres.saved) ∧
    (((wres.core 0).run = .idle ∧ (Core.reset 0).cont.foot = 0) ∧
     wres.imageLost 0 0 = none ∧
     wresP.imageLost 0 0 = some 0x200000 ∧
     ({ wres with hbmErr := [(0x200000 / 64 + 5463, true)] } : State).imageLost 0 0 = some (0x200000 + 64 * 5463) ∧
     (tabGet? (wla (launch 3 goodRec [])).launches 7 = some (launch 3 goodRec []) ∧ (launch 3 goodRec []).tag = 0 ∧
      (launch 3 goodRec []).state = 3 ∧ (launch 3 goodRec []).failed = none) ∧
     (Core.reset 0).stop.any (fun i => i.idle) = false ∧
     ({ Core.reset 0 with cont := ⟨0, 0, 5, 0⟩, stop := some ⟨cPREEMPT, true, false, true, 0, none⟩ } : Core).stop.any (fun i => i.idle) = true ∧
     tabGet? State.reset.holders (siteRegion 0) = none ∧
     ((3 : Nat) < 4 ∧ (⟨0x7FFF, 1, 0x7FFF, 32, 31⟩ : Shadow).w1 < 2 ^ 15 ∧ (⟨0x7FFF, 1, 0x7FFF, 32, 31⟩ : Shadow).slots < 32 ∧
      1 ≤ (⟨0x7FFF, 1, 0x7FFF, 32, 31⟩ : Shadow).n1) ∧
     ((⟨0, 32, 0, 0, 0⟩ : Shadow).n2 = 0 ∧ (⟨0, 32, 0, 0, 0⟩ : Shadow).w2 = 0)) := 
  ⟨by and_intros <;> decide +kernel,
   by unfold rising; decide +kernel,
   by unfold rising; decide +kernel,
   by and_intros <;> decide +kernel⟩

theorem meetSwatch_empty (s : State) (h : (s.die 0).l2.tags = []) : s.meetSwatch 512 = s := by
  have h1 : homeDie (128 * 512) = 0 := by decide +kernel
  have h2 : (s.die 0).l2.swatchOf 512 = none := by simp [L2.swatchOf, h, tabGet?]
  unfold State.meetSwatch
  simp only [h1, h2]

/-- claimScrubPasses. -/
theorem witness_scrub :
    ((State.reset.mayCharge 0 0 = true) ∧ State.reset.backed (64 * 1024) 64 = true ∧ 2 ^ 34 - 1 < 2 ^ 34) ∧
    (∀ s : State, (s.die 0).l2.tags = [] → s.meetSwatch 512 = s) ∧
    (({ Sector.reset 0 with resetting := true } : Sector).resetting = true ∧
     (tabGet? [((1024 : Nat), true)] 1024 = some true ∧ tabGet? [((1024 : Nat), false)] 1024 = some false) ∧
     ((State.reset.sector 1024).epoch = State.reset.pe ∧ tabGet State.reset.hub.keySlots (State.reset.sector 1024).slot 0 ≠ 2) ∧
     (Sector.reset 0).epoch ≠ ({ State.reset with pe := true } : State).pe ∧
     tabGet [((1 : Nat), (2 : Nat))] 1 0 = 2 ∧
     (State.reset.mayCharge 0 0) = true ∧
     State.reset.backed (64 * (2 ^ 34 - 1)) 64 = false ∧
     State.reset.mem.wf = true) := 
  ⟨by decide +kernel,
   by exact meetSwatch_empty,
   by and_intros <;> decide +kernel⟩

def wpast (pc w : Nat) : State := small (fun c => { c with pc := BitVec.ofNat 18 pc, loc := memWrite c.loc 0x3FFC 4 w })
def wrep (w : Nat) : State := small (fun c => { (c.withG [(2, 5000)]) with loc := memWrite (c.withG [(2, 5000)]).loc 12 4 w })

/-- RepResult: a good body, a forbidden one, one at s.xb, and a count above 4,096. -/
theorem witness_rep_result :
    (((wrep 0x12345).core 0).clearB { ctl := true, uses := [] } = true ∧ ((wrep 0x12345).core 0).clearB { ctl := true, uses := [rd .A ⟨false, 2⟩] } = true) ∧
    (match ((wrep 0x0).core 0).tickShadows.capture 12 1 with | (k, .ok b) => k == ((wrep 0x0).core 0).tickShadows && b.all (fun x => !repForbidden x.2) | _ => false) = true ∧
    (match ((wrep 0x0000245C).core 0).tickShadows.capture 12 1 with | (k, .ok b) => k == ((wrep 0x0000245C).core 0).tickShadows && (b.find? (fun x => repForbidden x.2)).isSome | _ => false) = true ∧
    4096 < (((wrep 0).core 0).rg .A ⟨false, 2⟩).toNat ∧
    (0xFFF : BitVec 12).toNat + 1 ≤ 4096 ∧
    (match ((small (fun c => { c with pc := 0x3FF4 })).core 0).tickShadows.capture 0x4000 1 with | (_, .error e) => e.cause == cOVERLAY | _ => false) = true ∧
    ((match ((wpast 0x3FF4 0).core 0).tickShadows.capture 0x4000 0 with | (_, .ok b) => b.isEmpty | _ => false) = true ∧ ((wpast 0x3FF4 0).core 0).xbAddr ≤ (addPc ((wpast 0x3FF4 0).core 0).pc 12).toNat) ∧
    ((match ((wpast 0x3FF0 3).core 0).tickShadows.fetchFrom 0x3FFC 1 with | (_, .ok [w]) => decide (1 < lengthOf w) | _ => false) = true ∧ ((wpast 0x3FF0 3).core 0).xbAddr = 0x4000 ∧ (addPc ((wpast 0x3FF0 3).core 0).pc 12).toNat = 0x3FFC) := by
  decide +kernel

/-- DecodeEncode and DecodedWordsAreOneEncoding. -/
theorem witness_decode_encode :
    (Instr.rep false ⟨false, 0⟩ 3 0 1 2 0 2).wf = true ∧
    decode true [0x000083CC] = .instr (.ldD 3 2 0) ∧
    ((0x00000000 : Word).extractLsb' 0 2 = 0 ∧ baseEntry 0 0 (majorOf 0) = none) := by
  decide +kernel

/-- A word at the address a, from which core 0 issues. -/
def wst (w a : Nat) : State := small (fun c => { c with pc := BitVec.ofNat 18 a, loc := memWrite c.loc (a / 4 * 4) 4 w })

/-- StepRunsDecoded and claimUndecodedWordsTrap: an instruction of its own, an event, an input, an issue of an idle core, and each trap of a fetch. -/
theorem witness_step_runs_decoded :
    (wst 0x000083CC 0).OwnIssue ∧
    ((((wst 0x000083CC 0).core 0).rep = none ∧ ((wst 0x000083CC 0).core 0).flips = [] ∧ ((wst 0x000083CC 0).core 0).pc.toNat % 4 = 0) ∧
     0 + 4 * lengthOf (((wst 0x000083CC 0).core 0).codeWord 0) ≤ ((wst 0x000083CC 0).core 0).xbAddr ∧
     decode (wst 0x000083CC 0).errInj (((wst 0x000083CC 0).core 0).wordsAt 0 1) = .instr (.ldD 3 2 0) ∧
     (({ State.reset with agenda := [.event .hbStatClear] } : State).agenda = .event .hbStatClear :: [] ∧ Instr.hbStatClear.isEvent = true) ∧
     ({ State.reset with agenda := [.input (.dropTlb 0 0 false)] } : State).agenda = [.input (.dropTlb 0 0 false)] ∧
     (({ wres with agenda := [.issue 0] } : State).agenda = [.issue 0] ∧ (({ wres with agenda := [.issue 0] } : State).core 0).run = .idle) ∧
     ((wst 0 2).core 0).pc.toNat % 4 ≠ 0) ∧
    (wst 0 2).OwnIssue ∧
    ((wst 0 0x4000).core 0).xbAddr ≤ ((wst 0 0x4000).core 0).pc.toNat ∧
    (wst 0 0x4000).OwnIssue ∧
    ((lengthOf (((wst 0x3 0x3FFC).core 0).codeWord 0x3FFC) > 1 ∧ 0x3FFC + 4 * (1 - 1) < 0x4000 ∧ 0x4000 ≤ 0x3FFC + 4 * 1) ∧
     decode true (((wst 0 0).core 0).wordsAt 0 1) = .illegalOpcode ∧
     decode true (((wst 0x000083CD 0).core 0).wordsAt 0 3) = .illegalLength ∧
     decode true (((wst 0x006000F4 0).core 0).wordsAt 0 1) = .illegalField) := 
  ⟨by constructor <;> decide +kernel,
   by and_intros <;> decide +kernel,
   by constructor <;> decide +kernel,
   by decide +kernel,
   by constructor <;> decide +kernel,
   by and_intros <;> decide +kernel⟩

/-- claimChecksInOrder. -/
theorem witness_checks_in_order :
    ((Core.reset 0).badRM 7 = false ∧ (Core.reset 0).badRM 5 = false ∧ ({ Core.reset 0 with sp := { (Core.reset 0).sp with fcsr := 0x50000 } } : Core).badRM 5 = true) ∧
    slotted.ds ≠ .none ∧
    slotted.mode < 3 ∧
    (Core.reset 0).boundOf ⟨.A, .g ⟨true, 0⟩, true⟩ ≠ none ∧
    (Core.reset 0).boundOf ⟨.A, .g ⟨false, 0⟩, true⟩ = none ∧
    (Core.reset 0).rep = none ∧
    (({ Core.reset 0 with shadows := [⟨0x3F000 / 8, 1, 0, 0, 3⟩] } : Core).inShadow (0x3F000 / 8)) = true := by
  decide +kernel

/-- MemoryStaysCanonical: a state whose memories hold something, with a step. -/
theorem witness_memory_canonical :
    (wst 0x000083CC 0 |>.Canonical) ∧
    ((wst 0x000083CC 0).core 0).loc ≠ [] := 
  ⟨by constructor <;> decide +kernel,
   by decide +kernel⟩

/-- FormsComplete, barriers and exchange: for each clause a state that meets it, and that the form is over there. -/
theorem witness_forms_complete :
    ((w0.core 0).computePhase = false ∧ (w0.core 0).posted = [] ∧ (w0.core 0).eng0.queue = [] ∧ (w0.core 0).eng1.queue = [] ∧
      (w0.core 0).conv.queue = [] ∧ (w0.core 0).mx.cmds = [] ∧ w0.ords = [] ∧ w0.lands = []) ∧
    (match exec (.fence 0 4) w0 with | .next u => (u.core 0).wait == .none && (u.core 0).pc == 4 | _ => false) = true ∧
    (((wb Channel.reset).begun.chanCheck 0 5 false = none) ∧ (wb Channel.reset).begun.chan 5 = Channel.reset ∧ chanAt 0 5 = 5 ∧
      ((wb Channel.reset).core 0).clearB { uses := [rd .A ⟨false, 6⟩, wr .D ⟨false, 4⟩] } = true) ∧
    (match exec (.join ⟨false, 4⟩ 5) (wb Channel.reset) with | .next u => (u.core 0).wait == .none && (u.core 0).pc == 12 | _ => false) = true ∧
    ((wb mem0).begun.chanCheck 0 5 false = none ∧ (wb mem0).begun.chan 5 = mem0 ∧
      ((wb mem0).core 0).clearB { uses := [rd .A ⟨false, 6⟩, wr .D ⟨false, 4⟩] } = true) ∧
    (match exec (.leave ⟨false, 4⟩ 5) (wb mem0) with | .next u => (u.core 0).wait == .none && (u.core 0).pc == 12 | _ => false) = true ∧
    (match exec (.arriveb ⟨false, 4⟩ ⟨false, 6⟩ 5) (wb mem0) with | .next u => (u.core 0).wait == .none && (u.core 0).pc == 12 | _ => false) = true ∧
    (match exec (.btx ⟨false, 4⟩ ⟨false, 6⟩ 5) (wb mem0) with | .next u => (u.core 0).wait == .none && (u.core 0).pc == 12 | _ => false) = true ∧
    ((wgang.core 0).clearB { ctl := true, uses := [rd .A ⟨false, 0⟩, wr .D ⟨false, 4⟩] } = true ∧ (wgang.core 0).wait = .none ∧
      (wgang.core 0).tickShadows.exchReport = none ∧ wgang.begun.gangOf 0 = some (0, gang0)) ∧
    (match exec (.seam ⟨false, 4⟩ ⟨false, 0⟩) wgang with | .next u => (u.core 0).wait == .seam ⟨false, 4⟩ 7 0 && (u.core 0).pc == 0 | _ => false) = true ∧
    ((wx.core 0).clearB { uses := [rd .A ⟨false, 20⟩, rd .B ⟨false, 24⟩] } = true ∧ (wx.core 0).wait = .none ∧ (wx.core 0).flips = [] ∧
      wx.begun.xcyc 0 = 16) ∧
    (match exec (.xsend ⟨false, 20⟩ ⟨false, 24⟩ 16 0) wx with | .next u => (u.core 0).wait == .none && (u.core 0).pc == 12 | _ => false) = true ∧
    (match exec (.xrecv ⟨false, 24⟩ ⟨false, 20⟩ 20 0) wx with | .next u => (u.core 0).wait == .none && (u.core 0).pc == 12 | _ => false) = true ∧
    (match exec (.xwait 16) wx with | .next u => (u.core 0).wait == .none && (u.core 0).pc == 12 | _ => false) = true ∧
    (match exec .xend wx with | .next u => (u.core 0).wait == .none && (u.core 0).pc == 12 | _ => false) = true ∧
    (match exec (.ordadd 3 0 ⟨false, 3⟩ ⟨false, 2⟩ ⟨false, 5⟩) word_ with | .next u => (u.core 0).wait == .none && (u.core 0).pc == 12 | _ => false) = true ∧
    (match exec (.ordget 3 ⟨false, 3⟩ ⟨false, 2⟩) word_ with | .next u => (u.core 0).wait == .none && (u.core 0).pc == 12 | _ => false) = true ∧
    (match exec (.fenceComplete 0) (w0.onCore 0 (fun c => { c with wait := .fence 0 4 })) with | .next u => (u.core 0).wait == .none && (u.core 0).pc == 4 | _ => false) = true ∧
    (match exec (.xwaitComplete 0) (wx.onCore 0 (fun c => { c with wait := .xwait 16 })) with | .next u => (u.core 0).wait == .none && (u.core 0).pc == 12 | _ => false) = true ∧
    (match exec (.xendComplete 0) (wx.onCore 0 (fun c => { c with wait := .xend })) with | .next u => (u.core 0).wait == .none && (u.core 0).pc == 12 | _ => false) = true := by
  decide +kernel

/-- FormsComplete, engines and maintenance: for each clause a state that meets it, and that the form is over there. -/
theorem witness_forms_over :
    ((weng.core 0).rg .C ⟨false, 0⟩ = 0 ∧ (weng.core 0).guarded = false ∧ (weng.core 0).computePhase = false ∧
      (weng.core 0).noPlace 0 false = false ∧ (weng.core 0).noPlace 2 false = false) ∧
    (match exec (.copyLl ⟨false, 10⟩ ⟨false, 11⟩ ⟨false, 12⟩ ⟨false, 0⟩ 0 false false 0) weng with | .next u => (u.core 0).wait == .none && (u.core 0).pc == 12 | _ => false) = true ∧
    (match exec (.copyGl ⟨false, 10⟩ ⟨false, 11⟩ ⟨false, 12⟩ ⟨false, 0⟩ 0 false false 0) weng with | .next u => (u.core 0).wait == .none && (u.core 0).pc == 12 | _ => false) = true ∧
    (match exec (.convE 9 10 0 false ⟨false, 10⟩ ⟨false, 11⟩ ⟨false, 13⟩ 0 false false) weng with | .next u => (u.core 0).wait == .none && (u.core 0).pc == 12 | _ => false) = true ∧
    ((wmx.core 0).mxNoPlace false = false ∧ (wmx.core 0).guarded = false) ∧
    (match exec (.mload ⟨false, 11⟩ ⟨false, 0⟩ false 0 false false) wmx with | .next u => (u.core 0).wait == .none && (u.core 0).pc == 12 | _ => false) = true ∧
    (match exec (.mstream ⟨false, 12⟩ ⟨false, 0⟩ 0 false 0 false false) wmx with | .next u => (u.core 0).wait == .none && (u.core 0).pc == 12 | _ => false) = true ∧
    (match exec (.mstore 0 ⟨false, 13⟩ ⟨false, 0⟩ 0 0 false false 0 false false) wmx with | .next u => (u.core 0).wait == .none && (u.core 0).pc == 12 | _ => false) = true ∧
    (match exec (.mzero 0 2 0 false false) wmx with | .next u => (u.core 0).wait == .none && (u.core 0).pc == 12 | _ => false) = true ∧
    ((w0.core 0).engFault 3 = none ∧ (w0.core 0).engIdle 3 = true) ∧
    (match exec (.cpwait 3) w0 with | .next u => (u.core 0).wait == .none && (u.core 0).pc == 12 | _ => false) = true ∧
    (match exec (.evarm 0) w0 with | .next u => (u.core 0).wait == .none && (u.core 0).pc == 12 | _ => false) = true ∧
    (match exec (.evwait 0) (w0.onCore 0 (fun _ => wcred)) with | .next u => (u.core 0).wait == .none && (u.core 0).pc == 12 | _ => false) = true ∧
    1 ≤ (w0.core 0).mode ∧
    (match exec (.minj 0 0 0 0) w0 with | .next u => (u.core 0).wait == .none && (u.core 0).pc == 12 | _ => false) = true ∧
    (match exec (.cpstat ⟨false, 4⟩ 0) w0 with | .next u => (u.core 0).wait == .none && (u.core 0).pc == 12 | _ => false) = true ∧
    (match exec (.evread ⟨false, 4⟩ 0) w0 with | .next u => (u.core 0).wait == .none && (u.core 0).pc == 12 | _ => false) = true ∧
    (match exec (.mstat ⟨false, 4⟩ 0) w0 with | .next u => (u.core 0).wait == .none && (u.core 0).pc == 12 | _ => false) = true ∧
    (match exec (.bndread ⟨false, 4⟩ 0) w0 with | .next u => (u.core 0).wait == .none && (u.core 0).pc == 12 | _ => false) = true ∧
    (match exec (.evcfg ⟨false, 4⟩ 0) (regs [(4, 7)]) with | .next u => (u.core 0).wait == .none && (u.core 0).pc == 12 | _ => false) = true ∧
    (match exec (.evcfg ⟨false, 4⟩ 23) (regs [(4, 7)]) with | .next u => (u.core 0).wait == .none && (u.core 0).pc == 12 | _ => false) = true ∧
    (match exec (.evcfg ⟨false, 4⟩ 24) (regs [(4, 7)]) with | .next u => (u.core 0).wait == .none && (u.core 0).pc == 12 | _ => false) = true ∧
    (match exec (.bndset ⟨false, 4⟩ 0 0) (regs [(4, 7)]) with | .next u => (u.core 0).wait == .none && (u.core 0).pc == 12 | _ => false) = true ∧
    (((regs [(5, 0)]).core 0).clearB { mode := 1, uses := [rd .A ⟨false, 4⟩, rd .B ⟨false, 5⟩] } = true ∧
      ((regs []).core 0).rg .B ⟨false, 5⟩ = 0) ∧
    (match exec (.l1wb ⟨false, 4⟩ ⟨false, 5⟩) (regs []) with | .next u => (u.core 0).wait == .none && (u.core 0).pc == 12 | _ => false) = true ∧
    (match exec (.l1inv ⟨false, 4⟩ ⟨false, 5⟩) (regs []) with | .next u => (u.core 0).wait == .none && (u.core 0).pc == 12 | _ => false) = true ∧
    (match exec (.errlog ⟨false, 4⟩ ⟨false, 5⟩ 0) (regs []) with | .next u => (u.core 0).wait == .none && (u.core 0).pc == 12 | _ => false) = true ∧
    (match exec (.snapctl ⟨false, 4⟩ 0) (regs []) with | .next u => (u.core 0).wait == .none && (u.core 0).pc == 12 | _ => false) = true ∧
    (match exec (.tlbinv 0 ⟨false, 4⟩ ⟨false, 5⟩) (regs []) with | .next u => (u.core 0).wait == .none && (u.core 0).pc == 12 | _ => false) = true ∧
    (match exec (.rlbinv 0 ⟨false, 4⟩) (regs []) with | .next u => (u.core 0).wait == .none && (u.core 0).pc == 12 | _ => false) = true := by
  decide +kernel

end Sys2Proof.Machine
end

section
/-! The instructions whose floating-point flags trap: each raises the flags of its elements together before it writes anything
(04 R105, 07 R160). -/

namespace Sys2Proof.Machine

/-! ### Flags raised together -/

/-- Element p is the lowest of elems whose flags include an enabled one (04 R105). -/
structure FirstEnabled (flags : Nat → Flags) (en : Flags) (elems : List Nat) (p : Nat) : Prop where
  mem : p ∈ elems
  enabled : flags p &&& en ≠ 0
  below : ∀ q ∈ elems, q < p → flags q &&& en = 0

/-- The machine once the current core, as it stood, has taken FP_TRAP: flags in bits 4:0 of s.eval, position p in bits 13:8
(04 R105). -/
def State.fpTrapAt (s : State) (fl : Flags) (p : Nat) : State :=
  s.trapAt s.cur (s.core s.cur) ⟨cFP_TRAP, fl.setWidth 64 ||| BitVec.ofNat 64 (p * 256)⟩

theorem State.fpTrapAt_zero (s : State) (fl : Flags) :
    s.fpTrapAt fl 0 = s.trapAt s.cur (s.core s.cur) ⟨cFP_TRAP, fl.setWidth 64⟩ := by
  simp [State.fpTrapAt]

theorem not_firstEnabled_of_elems {flags : Nat → Flags} {en : Flags} {elems : List Nat} {p : Nat} (h : elems = []) :
    ¬ FirstEnabled flags en elems p :=
  fun hp => List.not_mem_nil (h ▸ hp.mem)

theorem not_firstEnabled_of_flags {flags : Nat → Flags} {en : Flags} {elems : List Nat} {p : Nat} (h : ∀ e, flags e = 0) :
    ¬ FirstEnabled flags en elems p :=
  fun hp => hp.enabled (by simp [h p])

/-- A scalar result is its own element 0. -/
theorem firstEnabled_scalar {fl en : Flags} (h : fl &&& en ≠ 0) : FirstEnabled (fun _ => fl) en [0] 0 :=
  ⟨List.mem_singleton_self 0, h, fun _ _ hq => absurd hq (Nat.not_lt_zero _)⟩

theorem foldl_or_flags (flags : Nat → Flags) (elems : List Nat) (f : Flags) :
    elems.foldl (fun f e => f ||| flags e) f = f ||| orAll (elems.map (fun e => (e, flags e))) := by
  induction elems generalizing f with
  | nil => simp [orAll]
  | cons e t ih => simp [orAll, ih, BitVec.or_assoc]

/-- The flags that the statements name are those that the model ORs. -/
theorem orAll_eq_raisedBy (flags : Nat → Flags) (elems : List Nat) :
    orAll (elems.map (fun e => (e, flags e))) = raisedBy flags elems := by
  simp [raisedBy, foldl_or_flags]

/-- An enabled flag of one element stays in the OR of all. -/
theorem orAll_enabled {flags : Nat → Flags} {en : Flags} {p : Nat} (h : flags p &&& en ≠ 0) :
    ∀ {elems : List Nat}, p ∈ elems → orAll (elems.map (fun e => (e, flags e))) &&& en ≠ 0
  | e :: t, hp, h0 => by
    rw [List.map_cons, orAll, BitVec.and_or_distrib_right] at h0
    obtain ⟨he, ht⟩ := BitVec.or_eq_zero_iff.1 h0
    rcases List.mem_cons.1 hp with rfl | hp
    · exact h he
    · exact orAll_enabled h hp ht

/-- The elements whose flags include an enabled one are those that the model keeps. -/
theorem mem_enabledPositions {flags : Nat → Flags} {en : Flags} {elems : List Nat} {q : Nat} :
    q ∈ ((elems.map (fun e => (e, flags e))).filter (fun x => !(x.2 &&& en == 0))).map (fun x => x.1) ↔
      q ∈ elems ∧ flags q &&& en ≠ 0 := by
  simp only [List.mem_map, List.mem_filter, Bool.not_eq_true', beq_eq_false_iff_ne]
  constructor
  · rintro ⟨_, ⟨⟨e, he, rfl⟩, hen⟩, rfl⟩
    exact ⟨he, hen⟩
  · rintro ⟨hq, hen⟩
    exact ⟨(q, flags q), ⟨⟨q, hq, rfl⟩, hen⟩, rfl⟩

/-- The fold of the model is the minimum of the positions that it keeps. -/
theorem lowestEnabled_eq {en : Flags} {xs : List (Nat × Flags)} {p : Nat}
    (h : ((xs.filter (fun x => !(x.2 &&& en == 0))).map (fun x => x.1)).min? = some p) : lowestEnabled en xs = p := by
  unfold lowestEnabled
  split
  · next hl => rw [hl] at h; cases h
  · next hl => rw [hl, List.min?_cons'] at h; exact Option.some.inj h

theorem FirstEnabled.lowestEnabled {flags : Nat → Flags} {en : Flags} {elems : List Nat} {p : Nat}
    (h : FirstEnabled flags en elems p) : lowestEnabled en (elems.map (fun e => (e, flags e))) = p := by
  refine lowestEnabled_eq (List.min?_eq_some_iff.2 ⟨mem_enabledPositions.2 ⟨h.mem, h.enabled⟩, fun q hq => ?_⟩)
  obtain ⟨hq, hen⟩ := mem_enabledPositions.1 hq
  exact Nat.le_of_not_lt (fun hlt => hen (h.below q hq hlt))

/-- Flags raised together with an enabled one among them are FP_TRAP at the first element that has one. -/
theorem Core.raiseAll_error {c : Core} {lat p : Nat} {flags : Nat → Flags} {elems : List Nat}
    (h : FirstEnabled flags c.flagEnables elems p) :
    c.raiseAll lat (elems.map (fun e => (e, flags e))) =
      .error ⟨cFP_TRAP, (raisedBy flags elems).setWidth 64 ||| BitVec.ofNat 64 (p * 256)⟩ := by
  unfold Core.raiseAll Core.fpTrap
  rw [if_neg (orAll_enabled h.enabled h.mem), h.lowestEnabled, orAll_eq_raisedBy]

/-- The bodies that raise the flags of their elements together, in a core that has written nothing yet, and then write
(04 R104, R105; 07 R160). -/
def Core.raiseThen (c : Core) (lat : Nat) (xs : List (Nat × Flags)) (write : Core → Core) : CoreRes :=
  match c.raiseAll lat xs with
  | .error e => .trap c e.cause e.eval
  | .ok c' => .done (write c')

theorem Core.raiseThen_trap {c : Core} {lat p : Nat} {flags : Nat → Flags} {elems : List Nat} {write : Core → Core}
    (h : FirstEnabled flags c.flagEnables elems p) :
    c.raiseThen lat (elems.map (fun e => (e, flags e))) write =
      .trap c cFP_TRAP ((raisedBy flags elems).setWidth 64 ||| BitVec.ofNat 64 (p * 256)) := by
  unfold Core.raiseThen
  rw [Core.raiseAll_error h]

/-- An instruction with such a body, whose elements raise the flags of its rule, traps from the core as it stood: the slot that
had passed for its shadows is given back (02 R49). -/
theorem State.local_raiseThen_trap {s : State} {r : Req} {next : Core → Core} {body : Core → CoreRes} {lat p : Nat}
    {fl flags : Nat → Flags} {elems : List Nat} {write : Core → Core} (hc : (s.core s.cur).Clear r)
    (hp : FirstEnabled flags (s.core s.cur).flagEnables elems p) (hf : ∀ e, fl e = flags e)
    (hb : body (s.core s.cur).tickShadows =
      (s.core s.cur).tickShadows.raiseThen lat (elems.map (fun e => (e, fl e))) write) :
    s.local_ r next body = .next (s.fpTrapAt (raisedBy flags elems) p) := by
  obtain rfl : fl = flags := funext hf
  have hp' : FirstEnabled fl (s.core s.cur).tickShadows.flagEnables elems p := hp
  exact State.local_trap (c := (s.core s.cur).tickShadows) hc (hb.trans (Core.raiseThen_trap hp'))

/-! ### Scalar instructions -/

theorem State.local_bodyFp_trap {s : State} {r : Req} {next : Core → Core} {d : GOp} {lat : Nat} {f : Core → FRes} {fl : Flags}
    (hf : (f (s.core s.cur).tickShadows).flags = fl) (hc : (s.core s.cur).Clear r) (hen : fl &&& (s.core s.cur).flagEnables ≠ 0) :
    s.local_ r next (bodyFp d lat f) = .next (s.fpTrapAt fl 0) := by
  rw [State.local_raiseThen_trap hc (firstEnabled_scalar hen) (fun _ => hf) rfl]
  simp [raisedBy]

theorem fpTy_eq_fpFormat : ∀ ty : BitVec 2, fpTy ty = Says.fpFormat ty := by decide

/-- Each function of FP raises the flags of its rule (05 R131 to R134). -/
theorem fpFn_flags {k : Nat} {f : BitVec 4 → DWord → DWord → FRes} (hf : Says.fpFns[k]? = some f) (ty : BitVec 2) (x y : DWord) :
    (fpFn k (fpTy ty) x y).flags = (f (Says.fpFormat ty) x y).flags := by
  rw [fpTy_eq_fpFormat]
  match k, hf with
  | 0, rfl | 1, rfl | 2, rfl | 3, rfl | 4, rfl | 5, rfl | 6, rfl | 7, rfl | 8, rfl | 9, rfl | 10, rfl | 11, rfl | 12, rfl
  | 13, rfl | 14, rfl => rfl
  | _ + 15, hf => cases hf

section
variable {s : State} {x : ScalarFp} {k lat : Nat} {ty : BitVec 2} {d a b : Reg}

theorem fpBin_trap (hx : Says.fp2 (s.core s.cur) k lat ty d a b = some x) (hc : (s.core s.cur).Clear x.req)
    (hen : x.res.flags &&& (s.core s.cur).flagEnables ≠ 0) : fpBin k ty d a b s = .next (s.fpTrapAt x.res.flags 0) := by
  obtain ⟨f, hf, rfl⟩ := Option.map_eq_some_iff.1 hx
  exact State.local_bodyFp_trap (fpFn_flags hf ty _ _) hc hen

theorem fpLit_trap {lit : DWord} (hx : Says.fpL (s.core s.cur) k lat ty d a lit = some x) (hc : (s.core s.cur).Clear x.req)
    (hen : x.res.flags &&& (s.core s.cur).flagEnables ≠ 0) : fpLit k ty d a lit s = .next (s.fpTrapAt x.res.flags 0) := by
  obtain ⟨f, hf, rfl⟩ := Option.map_eq_some_iff.1 hx
  exact State.local_bodyFp_trap (fpFn_flags hf ty _ _) hc hen

theorem fpUn_trap (hx : Says.fp1 (s.core s.cur) k lat ty d a = some x) (hc : (s.core s.cur).Clear x.req)
    (hen : x.res.flags &&& (s.core s.cur).flagEnables ≠ 0) : fpUn k ty d a s = .next (s.fpTrapAt x.res.flags 0) := by
  obtain ⟨f, hf, rfl⟩ := Option.map_eq_some_iff.1 hx
  exact State.local_bodyFp_trap (fpFn_flags hf ty _ _) hc hen

end

/-- A scalar floating-point instruction whose result raises an enabled flag traps with its flags at position 0. -/
theorem exec_scalarFpRule_trap {i : Instr} {s : State} {x : ScalarFp} (hx : scalarFpRule s i = some x)
    (hc : (s.core s.cur).Clear x.req) (hen : x.res.flags &&& (s.core s.cur).flagEnables ≠ 0) :
    exec i s = .next (s.fpTrapAt x.res.flags 0) := by
  cases i
  case fadd | fsub | fmul | fdiv | fmin | fmax | fsgn | fsgnn | fsgnx | feq | flt | fle | fcun => exact fpBin_trap hx hc hen
  case faddLit | fsubLit | fmulLit | fdivLit | fminLit | fmaxLit | fsgnLit | fsgnnLit | fsgnxLit | feqLit | fltLit | fleLit
    | fcunLit => exact fpLit_trap hx hc hen
  case fsqrt | fclass => exact fpUn_trap hx hc hen
  case fma | fms | fnma | fnms | fcvt | fround =>
    obtain rfl := Option.some.inj hx
    exact State.local_bodyFp_trap rfl hc hen
  all_goals cases hx

/-! ### Vector instructions that write lanes -/

theorem valuOp_elems {c : Core} {k : Nat} {t : BitVec 4} {mz : Bool} {mk : MReg} {d a b : VReg} {x : LaneOp}
    (hx : Says.valuOp c k t mz mk d a b = some x) : x.elems = [] := by
  obtain ⟨f, -, rfl⟩ := Option.map_eq_some_iff.1 hx
  rfl

theorem permOp_elems {c : Core} {us : List Use} {t : BitVec 4} {mz : Bool} {mk : MReg} {d : VReg} {f : Nat → DWord} {x : LaneOp}
    (hx : Says.permOp c us t mz mk d f = some x) : x.elems = [] := by
  obtain rfl := Option.some.inj hx
  rfl

theorem loadOp_elems {c : Core} {us : List Use} {t : BitVec 4} {mz : Bool} {mk : MReg} {d : VReg} {f : Nat → Int} {x : LaneOp}
    (hx : Says.loadOp c us t mz mk d f = some x) : x.elems = [] := by
  obtain rfl := Option.some.inj hx
  rfl

/-- A complex operation whose parts raise no flag raises none. -/
theorem cplxOp_flags {c : Core} {us : List Use} {rm : BitVec 3} {mz : Bool} {mk : MReg} {d : VReg} {f : Nat → FRes} {x : LaneOp}
    (hx : Says.cplxOp c us rm mz mk d f = some x) (hf : ∀ q, (f q).flags = 0) (e : Nat) : x.flags e = 0 := by
  obtain rfl := Option.some.inj hx
  simp [hf]

/-- The 128 bytes of a register as the statements sum them (07 R167). -/
theorem vecNat_eq_sum (word : Nat → DWord) :
    vecNat word = ((List.range 16).map (fun k => (word k).toNat * 2 ^ (64 * k))).sum := by
  rw [List.sum_eq_foldl, List.foldl_map]
  rfl

/-- An operation of VFP traps with the flags of its rule (07 R163). -/
theorem State.local_bodyFpLanes_trap {s : State} {r : Req} {next : Core → Core} {x : LaneOp} {us : List Use} {t : BitVec 4}
    {rm : BitVec 3} {mz : Bool} {mk : MReg} {d : VReg} {f : Core → Nat → FRes} {g : Nat → FRes} {p : Nat}
    (hx : Says.vfpOp (s.core s.cur) us t rm mz mk d g = some x)
    (hf : ∀ e, (f (s.core s.cur).tickShadows e).flags = (g e).flags) (hc : (s.core s.cur).Clear r)
    (hp : FirstEnabled x.flags (s.core s.cur).flagEnables x.elems p) :
    s.local_ r next (bodyFpLanes t (Ty.elems t) mz mk d 4 f) = .next (s.fpTrapAt x.raised p) := by
  obtain rfl := Option.some.inj hx
  exact State.local_raiseThen_trap hc hp hf rfl

/-- The parts of a complex product are those of its rule (07 R172). -/
theorem complexLane_mul {c : Core} {t : BitVec 4} {rm : BitVec 3} {a b : VReg} {z : Nat → FV} (p : Nat) :
    complexLane .mul (fmtOf t) (c.rmode rm) (Says.part c t .A a) (Says.part c t .B b) z p =
      Says.cmulLane c t rm a b false (fun _ => []) p := by
  by_cases hp : p % 2 = 0 <;> simp [complexLane, Says.cmulLane, hp]

theorem complexLane_mulj {c : Core} {t : BitVec 4} {rm : BitVec 3} {a b : VReg} {z : Nat → FV} (p : Nat) :
    complexLane .mulj (fmtOf t) (c.rmode rm) (Says.part c t .A a) (Says.part c t .B b) z p =
      Says.cmulLane c t rm a b true (fun _ => []) p := by
  by_cases hp : p % 2 = 0 <;> simp [complexLane, Says.cmulLane, hp]

theorem complexLane_fma {c : Core} {t : BitVec 4} {rm : BitVec 3} {a b z : VReg} (p : Nat) :
    complexLane .fma (fmtOf t) (c.rmode rm) (Says.part c t .A a) (Says.part c t .B b) (Says.part c t .C z) p =
      Says.cmulLane c t rm a b false (fun p => [⟨Says.part c t .C z p, .fin false 1 0, false⟩]) p := by
  by_cases hp : p % 2 = 0 <;> simp [complexLane, Says.cmulLane, fvOne, hp]

/-- A complex product traps with the flags of both parts of its elements. -/
theorem State.local_bodyComplex_trap {s : State} {r : Req} {next : Core → Core} {x : LaneOp} {kind : CKind} {t : BitVec 4}
    {rm : BitVec 3} {mz : Bool} {mk : MReg} {d a b z : VReg} {us : List Use} {g : Nat → FRes} {p : Nat}
    (hx : Says.cplxOp (s.core s.cur) us rm mz mk d g = some x)
    (hg : ∀ q, complexLane kind (fmtOf t) ((s.core s.cur).rmode rm) (Says.part (s.core s.cur) t .A a)
      (Says.part (s.core s.cur) t .B b) (Says.part (s.core s.cur) t .C z) q = g q)
    (hc : (s.core s.cur).Clear r) (hp : FirstEnabled x.flags (s.core s.cur).flagEnables x.elems p) :
    s.local_ r next (bodyComplex kind t rm mz mk d a b z) = .next (s.fpTrapAt x.raised p) := by
  obtain rfl := Option.some.inj hx
  obtain rfl := funext hg
  exact State.local_raiseThen_trap hc hp (fun _ => rfl) rfl

theorem execVcvt_trap {s : State} {x : LaneOp} {t1 t2 : BitVec 4} {rm : BitVec 3} {sat mz : Bool} {mk : MReg} {d a : VReg} {p : Nat}
    (hx : laneRule s (.vcvt t1 t2 rm sat mz mk d a) = some x) (hc : (s.core s.cur).Clear x.req)
    (hp : FirstEnabled x.flags (s.core s.cur).flagEnables x.elems p) :
    execVcvt t1 t2 rm sat mz mk d a s = .next (s.fpTrapAt x.raised p) := by
  obtain rfl := Option.some.inj hx
  exact State.local_raiseThen_trap (hc.mono rfl rfl rfl (by simp [LaneOp.req])) hp (fun _ => rfl) rfl

theorem execVunpack_trap {s : State} {x : LaneOp} {t1 t2 : BitVec 4} {mz : Bool} {mk : MReg} {d a : VReg} {p : Nat}
    (hx : laneRule s (.vunpack t1 t2 mz mk d a) = some x) (hc : (s.core s.cur).Clear x.req)
    (hp : FirstEnabled x.flags (s.core s.cur).flagEnables x.elems p) :
    execVunpack t1 t2 mz mk d a s = .next (s.fpTrapAt x.raised p) := by
  obtain rfl := Option.some.inj hx
  refine State.local_raiseThen_trap (hc.mono rfl rfl rfl (by simp [LaneOp.req])) hp
    (fl := fun j => (unpackConvert t1 t2 (BitVec.ofNat 64
      (vecNat ((s.core s.cur).vword .A a) / 2 ^ (tyWidth t2 * j) % 2 ^ tyWidth t2))).flags) (fun j => ?_) rfl
  rw [vecNat_eq_sum]
  rfl

/-- A vector instruction of lanes whose active elements raise an enabled flag traps with the flags of all, at the first. -/
theorem exec_laneRule_trap {i : Instr} {s : State} {x : LaneOp} {p : Nat} (hx : laneRule s i = some x)
    (hc : (s.core s.cur).Clear x.req) (hp : FirstEnabled x.flags (s.core s.cur).flagEnables x.elems p) :
    exec i s = .next (s.fpTrapAt x.raised p) := by
  cases i
  case vadd | vsub | vmul | vand | vor | vxor | vshl | vshr | vsar | vmin | vmax =>
    exact absurd hp (not_firstEnabled_of_elems (valuOp_elems hx))
  case vperm | vbcast | vbfly | vslide => exact absurd hp (not_firstEnabled_of_elems (permOp_elems hx))
  case vldl | vgath => exact absurd hp (not_firstEnabled_of_elems (loadOp_elems hx))
  case vins =>
    obtain rfl := Option.some.inj hx
    exact absurd hp (not_firstEnabled_of_elems rfl)
  case vcconj => exact absurd hp (not_firstEnabled_of_flags (cplxOp_flags hx (fun _ => rfl)))
  case vfadd | vfsub | vfmul | vfdiv | vfsqrt | vfma | vfms | vfnma | vfmin | vfmax | vfabs | vfneg =>
    obtain rfl := Option.some.inj hx
    exact State.local_bodyFpLanes_trap rfl (fun _ => rfl) (hc.mono rfl rfl rfl (by simp [LaneOp.req])) hp
  case vcvt => exact execVcvt_trap hx hc hp
  case vunpack => exact execVunpack_trap hx hc hp
  case vcmul =>
    obtain rfl := Option.some.inj hx
    exact State.local_bodyComplex_trap rfl complexLane_mul (hc.mono rfl rfl rfl (by simp [LaneOp.req])) hp
  case vcmulj =>
    obtain rfl := Option.some.inj hx
    exact State.local_bodyComplex_trap rfl complexLane_mulj (hc.mono rfl rfl rfl (by simp [LaneOp.req])) hp
  case vcfma =>
    obtain rfl := Option.some.inj hx
    exact State.local_bodyComplex_trap rfl complexLane_fma (hc.mono rfl rfl rfl (by simp [LaneOp.req])) hp
  all_goals cases hx

/-! ### Vector instructions that write a mask -/

theorem vfcmp_trap {s : State} {x : MaskOp} {p : Nat} {k : FCmp} {t : BitVec 4} {mz : Bool} {mk d : MReg} {a b : VReg}
    {val : Nat → Bool} {fl : Nat → Flags} (hx : Says.cmpOp (s.core s.cur) (Ty.elems t) [vr .A a, vr .B b] mz mk d 4 val fl = some x)
    (hf : ∀ e, (fpCmp k t ((s.core s.cur).elem t .A a e) ((s.core s.cur).elem t .B b e)).2 = fl e) (hc : (s.core s.cur).Clear x.req)
    (hp : FirstEnabled x.flags (s.core s.cur).flagEnables x.elems p) :
    vfcmp k t mz mk d a b s = .next (s.fpTrapAt x.raised p) := by
  obtain rfl := Option.some.inj hx
  exact State.local_raiseThen_trap (hc.mono rfl rfl rfl (by simp [MaskOp.req])) hp hf rfl

/-- A vector instruction of masks whose active elements raise an enabled flag traps with the flags of all, at the first. -/
theorem exec_maskRule_trap {i : Instr} {s : State} {x : MaskOp} {p : Nat} (hx : maskRule s i = some x)
    (hc : (s.core s.cur).Clear x.req) (hp : FirstEnabled x.flags (s.core s.cur).flagEnables x.elems p) :
    exec i s = .next (s.fpTrapAt x.raised p) := by
  cases i
  case vfeq | vflt | vfle | vfun => exact vfcmp_trap hx (fun _ => rfl) hc hp
  case vceq | vclt | vcle | vcltn | mand | mor | mxor | mnot =>
    obtain rfl := Option.some.inj hx
    exact absurd hp (not_firstEnabled_of_flags (fun _ => rfl))
  case mpop | mfirst =>
    obtain rfl := Option.some.inj hx
    exact absurd hp (not_firstEnabled_of_elems rfl)
  all_goals cases hx

/-! ### The obligation -/

theorem floatTrapWritesNothing : claimFloatTrapWritesNothing := by
  intro i s x hx _ hc hen
  rw [exec_scalarFpRule_trap hx hc hen, State.fpTrapAt_zero]

theorem vectorTrapWritesNothing : claimVectorTrapWritesNothing := by
  rintro i s p raised flags elems r (⟨x, hx, rfl, rfl, rfl, rfl⟩ | ⟨x, hx, rfl, rfl, rfl, rfl⟩) _ hc hp hen hlow
  · exact exec_laneRule_trap hx hc ⟨hp, hen, hlow⟩
  · exact exec_maskRule_trap hx hc ⟨hp, hen, hlow⟩

/-- Settles O6: each instruction raises the flags of its elements together before it writes anything, so the trap of 04 R105 finds
the core as it stood. -/
theorem trapsWriteNothing : Obligations.TrapsWriteNothing :=
  ⟨floatTrapWritesNothing, vectorTrapWritesNothing⟩

end Sys2Proof.Machine
end
